-- ==== Sys2Proof/Word.lean ====
section
/-! DEFINITION. The words of the FZW8800: registers are 32 bits wide (00_scope, R7), device memory and frames are bytes. -/

namespace Sys2Proof

/-- A register word: registers are 32 bits wide (00_scope, "Reading register tables"). -/
abbrev Word := BitVec 32

/-- A byte of device memory, of a frame, of a descriptor. -/
abbrev Byte := BitVec 8

/-- A port number as PORT_SET numbers it: 0 B1, 1 B2, 2 + n Cn, 14 T (R153). -/
abbrev Port := Fin 15

end Sys2Proof
end

