-- ==== Sys2Proof/Machine/Types.lean ====
section
/-! DEFINITION. The types of the commands' operands: what the rules say crosses the boundary of the node (log entry 1). -/

namespace Sys2Proof

/-- Who makes a register access, coded as EVC_FAULT.INIT (R110). -/
inductive Initiator where
  | host | manager | partner | firmware | debug
deriving DecidableEq, Repr

/-- The two reference inputs (R66). -/
inductive RefClk where
  | a | b
deriving DecidableEq, Repr

/-- The lockstep pairs (R26). -/
inductive CorePair where
  | keeper0 | keeper1 | safety
deriving DecidableEq, Repr

/-- The wake sources of Park (R89); can n is channel Mn. -/
inductive WakeSrc where
  | wakeTl | cpl1 | cpl2 | lead | can (m : Fin 4)
deriving DecidableEq, Repr

/-- A register write as it reaches the node: byte offset in the page, size in bytes of the access, every byte enable set or not (R96). -/
structure WriteReq where
  init : Initiator
  page : Fin 4096
  off  : Fin 4096
  size : Nat
  full : Bool
  value : Nat
deriving DecidableEq, Repr

/-- A register read as it reaches the node (R96, R97). -/
structure ReadReq where
  init : Initiator
  page : Fin 4096
  off  : Fin 4096
  size : Nat
deriving DecidableEq, Repr

/-- The three software-event registers that EVC_SWEN_WRITE names (R111). -/
inductive SwReg where
  | swen | swrouteLo | swrouteHi
deriving DecidableEq, Repr

/-- The AtomicOps of R112. -/
inductive AtomicOp where
  | fetchAdd | swap | cas
deriving DecidableEq, Repr

/-- Where an AtomicOp acts (R127). -/
inductive AtomicLoc where
  | bar0 (page : Fin 4096) (word : Fin 1024)
  | bar2 (addr : Fin 67108864)
  | aperture (a : Fin 4) (page : Fin 4096) (word : Fin 1024)
deriving DecidableEq, Repr

/-- An AtomicOp request. For an aperture, remoteOld is the value the READ frame brought back and remoteStatus the status of the WRITE_ACK (R127). -/
structure AtomicReq where
  op : AtomicOp
  size : Nat
  loc : AtomicLoc
  arg : Nat
  cmp : Nat
  remoteOld : Nat
  remoteStatus : BitVec 8
deriving DecidableEq, Repr

/-- A remote frame of R118 as received: crcGood is the check of its CRC-32C; srcManager tells that the frame came from the train
unicast address of its stated origin. -/
structure RemoteFrame where
  kind : BitVec 8
  originUid : BitVec 64
  originTwin : Bool
  targetUid : BitVec 64
  targetTwin : Bool
  flags : BitVec 8
  gen : BitVec 32
  churn : BitVec 32
  seq : BitVec 32
  page : Fin 4096
  word : Fin 1024
  words : Nat
  data : List Word
  block : List Byte
  crcGood : Bool
deriving DecidableEq, Repr

/-- The three paths of a command (R140): its descriptor is the one at the head of that path. -/
inductive CmdPath where
  | host (ring : Fin 8)
  | manager (ring : Fin 4)
  | partner
deriving DecidableEq, Repr

/-- The taking of one command from a path; crcGood is the verdict of the descriptor check of R138. -/
structure Take where
  path : CmdPath
  crcGood : Bool
deriving DecidableEq, Repr

/-- The train configuration of R289 with the key material of R457: its fields, and its bytes with the signature as they were received. -/
structure TrainConfig where
  seq : BitVec 32
  vid : Nat
  auth : Bool
  defQuota : Nat
  beatMs : Nat
  holdS : Nat
  ttdp : List Byte
  mgrEligible : List (BitVec 64)
  quotas : List (BitVec 64 × Nat)
  macsec : Bool
  conf : Bool
  churnSalt : List Byte
  maintAuth : List Byte
  maintMax : Nat
  bytes : List Byte
deriving DecidableEq, Repr

/-- What a configuration image holds (R84, R152): claims, register writes, locks, PHY writes, worker ports and an optional train configuration.
Its byte layout is not in the manual (log entry 2); inRange tells that every field is in range. -/
structure Image where
  seq : BitVec 32
  claims : List (Nat × Nat)
  writes : List (Nat × Nat × Word)
  locks : List Nat
  phyWrites : List (Port × Nat × BitVec 16)
  workerPorts : BitVec 16
  inRange : Bool
  tcfg : Option TrainConfig
  digest : List Byte
deriving DecidableEq, Repr

/-- The verdicts of the checks that CFG_IMAGE_LOAD starts (R151, R509) and the image the staged data holds. -/
structure ImageVerdict where
  sigGood : Bool
  signerValid : Bool
  image : Image
deriving DecidableEq, Repr

/-- What a booting node learns of its partner in Step 6 (R83, R420). -/
structure PartnerInfo where
  inStep6 : Bool
  role : Option (Fin 5)
  twinId : Bool
  romIssue : BitVec 8
  gen : BitVec 32
  image : Option Image
deriving DecidableEq, Repr

/-- What the boot steps of R81 find outside the state: references, self-tests, fuses, record die, links, partner. -/
structure BootInput where
  refA : Bool
  refB : Bool
  disagree : Bool
  selftestOk : Bool
  lineDieOk : Bool
  mapOk : Bool
  pufOk : Bool
  romOk : Bool
  recordDieOk : Bool
  bank0Ok : Bool
  bank1Ok : Bool
  lane0 : Bool
  lane1 : Bool
  partner : Option PartnerInfo
  fenceTestOk : Bool
  fenceIn : Bool
  b1Up : Bool
  b2Up : Bool
  badSegments : List (Fin 16 × Fin 9)
  bootTime : BitVec 16
deriving DecidableEq, Repr

/-- The checks of a life-cycle token by the time it is burned (R446, R447). -/
structure TokenVerdict where
  target : Fin 5
  keyOk : Bool
  payloadOk : Bool
  dieOk : Bool
  debugBit : Bool
  notAfter : Nat
  signerDigest : List Byte
  payload : List Byte
deriving DecidableEq, Repr

/-- Why a link goes down (R175). -/
inductive LinkLoss where
  | pcs | localFault | autoNeg | duplex | rate | phy
deriving DecidableEq, Repr

/-- How the MAC level saw the end of a frame (R182, R191). -/
inductive FrameEnd where
  | whole | reassembled | codeErr | assyErr | smdErr
deriving DecidableEq, Repr

/-- The SecTAG of a received frame with the verdicts of the ICV and replay checks (R229). -/
structure SecTag where
  an : Fin 4
  icvGood : Bool
  replayGood : Bool
deriving DecidableEq, Repr

/-- A frame at the MAC of a port: its bytes from the destination address to the last byte before the FCS (after removal of a SecTAG). -/
structure RxFrame where
  bytes : List Byte
  fcsGood : Bool
  ending : FrameEnd
  sec : Option SecTag
  cellGood : Bool
deriving DecidableEq, Repr

/-- The header of a received churn frame (R242) with the verdicts of its checks (R243). -/
structure ChurnHdr where
  known : Bool
  checkGood : Bool
  tagGood : Bool
  attempt : Nat
  lineB : Bool
  uid : BitVec 64
  twin : Bool
  base : BitVec 32
deriving DecidableEq, Repr

/-- A survey entry (R246). States are coded as in R249. -/
structure SurveyEntry where
  uid : BitVec 64
  handle : BitVec 16
  nextHandle : BitVec 16
  prevId : BitVec 32
  churn : BitVec 32
  gen : BitVec 32
  twinId : Bool
  facing : Bool
  lead : Bool
  cpl1 : Bool
  cpl2 : Bool
  relayOnly : Bool
  ownState : BitVec 8
  partnerState : BitVec 8
  b1Up : Bool
  b2Up : Bool
  pb1Up : Bool
  pb2Up : Bool
  carNo : BitVec 8
deriving DecidableEq, Repr

/-- LEAD_CMD (R246, R255). -/
structure LeadCmd where
  uid : BitVec 64
  carEnd : BitVec 8
  count : BitVec 32
deriving DecidableEq, Repr

/-- A SURVEY body: the newest LEAD_CMD it has met, OVERFLOW, and its entries, originator first (R242, R246). -/
structure Survey where
  lead : LeadCmd
  overflow : Bool
  entries : List SurveyEntry
deriving DecidableEq, Repr

/-- A car entry of a curd (R247). -/
structure CarEntry where
  uid : BitVec 64
  handle : BitVec 16
  number : BitVec 8
  orientation : BitVec 8
  twin0 : BitVec 8
  twin1 : BitVec 8
  lineA : Bool
  lineB : Bool
  isNew : Bool
  lead : Bool
  relayOnly : Bool
  gen : BitVec 32
deriving DecidableEq, Repr

/-- A curd: header and car entries (R247). -/
structure Curd where
  count : BitVec 32
  direction : BitVec 8
  refCause : BitVec 8
  orderUnsure : Bool
  leadConflict : Bool
  ttdp : Bool
  lead : LeadCmd
  nextHandle : BitVec 16
  cars : List CarEntry
deriving DecidableEq, Repr

/-- The partner's line list as it passes over T (R252), with the partner's LEAD_CMD and OVERFLOW. -/
structure PartnerList where
  lead : LeadCmd
  overflow : Bool
  entries : List SurveyEntry
deriving DecidableEq, Repr

/-- An AGREE body (R248): the digest of the curd, whether both lines serve, whether the sender has verified, and the curd. -/
structure Agree where
  digest : List Byte
  both : Bool
  verified : Bool
  curd : Curd
deriving DecidableEq, Repr

/-- A COMMIT body (R248); residence is the time R261 item 1 subtracts, and ingress the node's timestamp of the frame. -/
structure Commit where
  digest : List Byte
  commitIn : Nat
  instant : BitVec 64
  gm : BitVec 64
  synced : Bool
  domain : Bool
  residence : Nat
deriving DecidableEq, Repr

/-- The outcome of a TTDP inauguration (R272): cars in TTDP order, and whether the direction is that of end 1 of car 1. -/
structure TtdpInaug where
  cars : List CarEntry
  direction : BitVec 8
deriving DecidableEq, Repr

/-- The TTDP timers of R271. -/
inductive TtdpTimer where
  | helloFast | helloSlow | topology | neighbourLost (p : Fin 2)
deriving DecidableEq, Repr

/-- A TCFG segment (R290). srcManager: the source is the committed manager's train unicast address; srcTrain: it is some train unicast address. -/
structure TcfgSeg where
  srcManager : Bool
  srcTrain : Bool
  crcGood : Bool
  index : Nat
  count : Nat
  seq : BitVec 32
  total : Nat
  data : List Byte
deriving DecidableEq, Repr

/-- A worker HELLO of R295 or an announce of R297; link is coded as DEV_WRKw codes it (R299). -/
structure WorkerHello where
  uid : BitVec 64
  mac : BitVec 48
  lastIndex : Nat
  link : BitVec 8
  crcGood : Bool
deriving DecidableEq, Repr

/-- A worker ACK of R295 or a repeated assign of R297. -/
structure WorkerAck where
  uid : BitVec 64
  index : Nat
  churn : BitVec 32
  link : BitVec 8
  crcGood : Bool
deriving DecidableEq, Repr

/-- What the servo gets from a Sync and its Follow_Up: domain time minus train time in ns, the rate ratio as a TIME increment in
units of 2^-40 ns, and the grandmaster's identity (R304, R307). servo is the offset that the domain's servo measures against its own estimate of the
domain, which R307 compares with SYNC_THR; offset is what TIME_OFFd reports. -/
structure SyncMeas where
  offset : Int
  servo : Int
  increment : Nat
  gm : BitVec 64
  followUp : Bool
deriving DecidableEq, Repr

/-- An Announce and what the BMCA of the domain decides with it (R303): the grandmaster and whether this node is it. -/
structure AnnounceMsg where
  gm : BitVec 64
  self : Bool
  slave : Port
deriving DecidableEq, Repr

/-- An edge on a capture input: rising or falling, its half-nanosecond bit, and the time in ns since the last stamped edge was 20 or more (R321). -/
structure CapEdge where
  rising : Bool
  stamp : BitVec 64
  half : Bool
deriving DecidableEq, Repr

/-- A telegram as a telegram engine receives it (R338): header fields and the verdicts of its checks. -/
structure Telegram where
  port : Port
  srcIp : BitVec 32
  dstIp : BitVec 32
  msgType : BitVec 16
  version : BitVec 16
  hdrGood : Bool
  udpLen : Nat
  seq : BitVec 32
  comId : BitVec 32
  etbTopo : BitVec 32
  datasetLen : Nat
  reserved01 : BitVec 32
  dataset : List Byte
  sdtGood : Bool
  ssc : BitVec 32
  innerGood : Bool
deriving DecidableEq, Repr

/-- A CAN frame (R351, R356); innerGood is the verdict of the check of R370, sofNs (with half) and sofTs its stamps at SOF (R361). -/
structure CanFrame where
  ident : BitVec 29
  ide : Bool
  rtr : Bool
  format : Fin 3
  brs : Bool
  esi : Bool
  sec : Bool
  sdt : Byte
  vcid : Byte
  af : BitVec 32
  dlc : Nat
  data : List Byte
  innerGood : Bool
  sofNs : BitVec 64
  half : Bool
  sofTs : Word
deriving DecidableEq, Repr

/-- How a CAN transmission of an object ends (R358, R366 to R370). -/
inductive CanTxResult where
  | sent | error | clash | arbLost | checkFail
deriving DecidableEq, Repr

/-- The end of a transmission of object k: its result, and its stamps at SOF (R361). -/
structure CanTxEnd where
  obj : Fin 256
  result : CanTxResult
  sofNs : BitVec 64
  half : Bool
  sofTs : Word
deriving DecidableEq, Repr

/-- A TOKEN, ORDER or ABORT (R378). -/
structure SleepFrame where
  originUid : BitVec 64
  originTwin : Bool
  cause : BitVec 8
  seq : BitVec 32
  churn : BitVec 32
  field40 : BitVec 64
  excluded : BitVec 64
  field56 : BitVec 32
  crcGood : Bool
deriving DecidableEq, Repr

/-- The wake requests of an awake node (R384), coded as R393 codes them. An input is a level that a wake input of this node or of its partner
takes past its filter: active is the request; inactive is no request, and only ends what R380 withholds. -/
inductive WakeCause where
  | input (src : WakeSrc) (active : Bool) (partner : Bool) | bus (m : Fin 4) | withdrawn | churn
deriving DecidableEq, Repr

/-- Why a VHV group is unusable (R406). -/
inductive GroupFault where
  | absent | overVolt | reversed
deriving DecidableEq, Repr

/-- The voltage bands of a usable group (R406). -/
inductive VoltBand where
  | spec | under | surge
deriving DecidableEq, Repr

/-- One conversion of all sixteen channels: 12-bit codes, which channels were in a PWM on-phase, and whether a fire started it (R411, R403). -/
structure AdcSample where
  codes : List (BitVec 12)
  onPhase : BitVec 16
  aligned : Bool
  sinceUs : Nat
deriving DecidableEq, Repr

/-- The 1 s averages of the channel losses in mW (R414), and the hottest junctions by cluster, degrees C + 50. -/
structure LossSample where
  loss : List Nat
  temps : List Nat
deriving DecidableEq, Repr

/-- A command descriptor: its 64 bytes (R133). -/
structure Descriptor where
  bytes : List Byte
deriving DecidableEq, Repr

/-- What one entry of a journal contribution carries (R421, R422). -/
inductive JItem where
  | write (init : Initiator) (page : Fin 4096) (off : Fin 4096) (v : Word) (permitted : Bool)
  | command (d : Descriptor)
  | links (up : BitVec 16)
  | telegram (e : Fin 4) (t : Telegram)
  | can (m : Fin 4) (f : CanFrame)
  | capture (n : Fin 8) (e : CapEdge)
  | trip (n : Fin 16) (thermal : Bool)
  | sample (a : AdcSample)
  | shed (n : Fin 16)
  | pubData (p : Fin 2048) (data : List Byte)
  | objData (m : Fin 4) (v : Word) (data : List Byte)
  | canEnd (m : Fin 4) (r : CanTxEnd)
  | hello (w : WorkerHello)
  | ack (w : WorkerAck)
  | learned (mac : BitVec 48) (vid : BitVec 12) (p : Port)
  | drillAsk
  | churn (cause : BitVec 8) (attempt : Fin 17)
deriving DecidableEq, Repr

/-- An entry of a contribution: its class 1 to 5 (R421), its item, and whether its CRC-32C holds. -/
structure JEntry where
  cls : Fin 6
  item : JItem
  crcGood : Bool
deriving DecidableEq, Repr

/-- A contribution as it arrives over T (R422): a copy on each lane, good or not. -/
structure JBlock where
  lane0Good : Bool
  lane1Good : Bool
  tick : BitVec 64
  seq : BitVec 64
  gen : BitVec 32
  role : Fin 5
  late : Bool
  fault : Bool
  drill : Option (BitVec 64)
  entries : List JEntry
deriving DecidableEq, Repr

/-- A KEYREQ put together from its two segments (R460). -/
structure KeyReq where
  uid : BitVec 64
  twin : Bool
  churn : BitVec 32
  tkrId : BitVec 32
  srcOk : Bool
deriving DecidableEq, Repr

/-- A KEYDIST put together from its two segments (R460): unwrapped tells that decapsulation and tag hold, root the key received. -/
structure KeyDist where
  uid : BitVec 64
  twin : Bool
  churn : BitVec 32
  tkrId : BitVec 32
  srcOk : Bool
  unwrapped : Bool
  root : List Byte
deriving DecidableEq, Repr

/-- A record of the event recorder (R468). -/
structure Record where
  time : BitVec 64
  churn : BitVec 32
  source : Nat
  code : Nat
  rpt : Nat
  seq : BitVec 32
  payload : List Word
  cellar : Bool
  partner : Bool
  unsync : Bool
  user : Bool
  span : Nat
deriving DecidableEq, Repr

/-- What the MRAM answers while one record is written (R474, R475): per bank, answers at all, first copy good, second copy good. -/
structure BankWrites where
  answers0 : Bool
  first0 : Bool
  second0 : Bool
  answers1 : Bool
  first1 : Bool
  second1 : Bool
deriving DecidableEq, Repr

/-- A wear sample (R482): indicator 1 to 6, kind and instance of the element (R480), the ledger's element field, value in 0.1 %
of the REPAIR limit, whether it is over the WATCH limit, and whether an SRAM element is a column. -/
structure WearSample where
  indicator : Fin 6
  kind : Fin 7
  inst : BitVec 8
  element : BitVec 16
  permille : Nat
  watch : Bool
  column : Bool
deriving DecidableEq, Repr

/-- The engines whose self-check can fail (R26, R28). -/
inductive EngineId where
  | frame (e : Fin 16) | telegram (e : Fin 4) | survey (p : Fin 2) | keeper (c : Fin 4)
deriving DecidableEq, Repr

end Sys2Proof
end

