-- ==== Sys2Proof/Machine/Parts.lean ====
section
/-! DEFINITION. The parts of the node's state that no register page shows, as plain data, and the snapshot of a rejoin (R434). -/

namespace Sys2Proof.Machine

/-- A sparse table of numbers by key: keys strictly rising, no entry equal to its default. -/
abbrev Cells := List (Nat × Nat)

/-- A register field: its key (page × 0x1000 + offset) × 32 + low bit, its width and its reset value (R7, R10). -/
structure Fld where
  key : Nat
  w : Nat
  rst : Nat
deriving DecidableEq, Repr

/-- The register types of R7; sem is the LOC field of R128, which a write changes only together with an acquire. -/
inductive RTy where
  | rw | ro | w1c | w1s | rc | wo | rws | fz | sem
deriving DecidableEq, Repr

/-- A run of registers for R106: base, stride and count, and the offsets of its registers inside one stride. -/
structure ChkGroup where
  base : Nat
  stride : Nat
  count : Nat
  inner : List Nat
deriving DecidableEq, Repr

/-- What the node die is doing: VPARK absent; RAIL_EN deasserted (Park, R88); held in reset until the next boot (R75, R81);
running; halted under R85; clocks stopped under R72. -/
inductive Phase where
  | off | park | reset | running | halted | stopped
deriving DecidableEq, Repr

/-- The enable machine of R103. -/
inductive EnSt where
  | off | starting | on | stopping
deriving DecidableEq, Repr

/-- What a page's header holds beside its register fields: the enable machine, the held request (R103), who is in the middle of an
unlock (R105), and whether PAGE_CHK has been written since reset (R10, R106). -/
structure PageSt where
  en : EnSt
  held : Option Bool
  unlockBy : Option Initiator
  chkOk : Bool
deriving DecidableEq, Repr

/-- A page whose block is off, nothing held. -/
def PageSt.init : PageSt := ⟨.off, none, none, false⟩

/-- The park domain (R88): powered from VPARK, kept across node reset. Wake sources are bits 0 WAKE_TL, 1 CPL1, 2 CPL2, 3 LEAD, 4 + m Mm;
bit 8 of the latch is a held request without a source (R385). tlFwd is SLEEP_WAKE.TL_FWD, tlPulse the drive of WAKE_TL (R387). -/
structure ParkSt where
  railEn : Bool
  wakeEn : BitVec 8
  latch : BitVec 9
  armed : Bool
  tlFwd : BitVec 8
  tlPulse : Bool
  refHalt : Bool
  recSticky : Bool
deriving DecidableEq, Repr

/-- The line die as the node sees it: R18 in force, R19 in force, whether the boot found it, the relay coil energized (BYP_N), the node silent
on the internal link, the commanded copy of R17 (the channel enables as last carried by an internal-link frame), and SEL as last sent (R46). -/
structure LineSt where
  r18 : Bool
  r19 : Bool
  bypOn : Bool
  silent : Bool
  copyOn : BitVec 16
  copyXcvr : List Nat
  sel : BitVec 4
deriving DecidableEq, Repr

/-- References (R67, R71, R73): present, the PLL without its reference, and whether REFCLK_A failed to qualify since a failover; a node reset that the
reset command has asked for (R75), and the node in Step 1 without REFCLK_A after 200 µs (R68). -/
structure ClkSt where
  presentA : Bool
  presentB : Bool
  lost : Bool
  aBad : Bool
  resetDue : Bool
  selB : Bool
deriving DecidableEq, Repr

/-- A resource claim with its holder block (R168 to R171). Holder kinds: 0 host, 1 manager, 2 partner, 5 configuration image. -/
structure Claim where
  res : Nat
  kind : Nat
  ring : Nat
  tag : Nat
  settled : Nat
  handle : Nat
  twin : Nat
  use : Nat
deriving DecidableEq, Repr

/-- The objects of R148; none for every other command. -/
inductive CmdObj where
  | none | port (p : Nat) | slot (n : Nat) | sched (m : Nat) | pair | attest | fwTest (n : Nat) | recExport | lifeCycle
deriving DecidableEq, Repr

/-- A command that answered ACCEPTED and has not posted its completion record (R136), with its descriptor, the origin and sequence of a
manager's command, and whether its completion is discarded (R79). -/
structure Accepted where
  opcode : Nat
  flags : Nat
  tag : Nat
  path : CmdPath
  obj : CmdObj
  args : List Byte
  discard : Bool
  uid : BitVec 64
  twin : Bool
  seq : Nat
deriving DecidableEq, Repr

/-- A word of the remote window with the number that the bridge gave it, which counts on past 2^32 (R119, R121). -/
structure RemWord where
  seq : Nat
  ap : Nat
  page : Nat
  word : Nat
  data : Word
  at_ : Nat
deriving DecidableEq, Repr

/-- A remote frame that waits for its answer: kind (1 write, 3 read, 5 command), its target and the generation it carries, its words, the descriptor of
a command, the number of sends (R119) and the time at which the bridge took it (R124). -/
structure RemFlight where
  kind : Nat
  ap : Nat
  seq : Nat
  uid : BitVec 64
  twin : Bool
  gen : Nat
  words : List RemWord
  block : List Byte
  sends : Nat
  at_ : Nat
deriving DecidableEq, Repr

/-- An answer kept for a repeated sequence (R119): origin, sequence, and the answer's bytes from offset 18. -/
structure RemAnswer where
  uid : BitVec 64
  twin : Bool
  seq : Nat
  kind : Nat
  status : Nat
  data : List Word
  block : List Byte
deriving DecidableEq, Repr

/-- The remote window engine and the remote target store (R119): the next number, one more than the number of the last write word, every
write word that failed with its status, the doorbells of the host rings with what REMOTE_SYNC covers (ring, tail, last write; R126), the
REMOTE_SYNCs in progress (tag, last write), commands that wait by path, fault records and late answers so far. -/
structure RemoteSt where
  waiting : List RemWord
  flight : List RemFlight
  answers : List RemAnswer
  syncs : List (Nat × Nat)
  inbox : List (Nat × BitVec 64 × Bool × List Byte × Nat)
  partnerIn : List (List Byte)
  faults : Nat
  late : Nat
  next : Nat
  lastWrite : Nat
  failed : List (Nat × Nat)
  marks : List (Nat × Nat × Nat)
deriving DecidableEq, Repr

/-- What a semaphore holds back (R128): a register write; at page 0x1000 a byte of BAR2 at address off; at page 0x2000 + 0x1000 × a + page a word
of aperture a. -/
structure WaitWrite where
  init : Initiator
  page : Nat
  off : Nat
  value : Word
deriving DecidableEq, Repr


/-! ## Forwarding (08) -/

/-- An entry of the unicast or multicast table (R206): express class, static, learned (dynamic), train entry (R209), own: the node's own endpoint (R285). -/
structure FdbEntry where
  mac : BitVec 48
  vid : BitVec 12
  mask : BitVec 16
  queue : Nat
  express : Bool
  static : Bool
  learned : Bool
  train : Bool
  own : Bool
  seen : Nat
deriving DecidableEq, Repr

/-- A separator rule (R203). -/
structure SepRule where
  valid : Bool
  mVid : Bool
  mPcp : Bool
  mEtype : Bool
  mUdp : Bool
  pcpSet : Nat
  ports : Nat
  vid : Nat
  vidMask : Nat
  etype : Nat
  udp : Nat
  udpMask : Nat
  ipv : Nat
  action : Nat
  target : Nat
  alsoFwd : Bool
  event : Bool
  handle : Nat
deriving DecidableEq, Repr

/-- A stream entry (R216). -/
structure Stream where
  valid : Bool
  seqGen : Bool
  seqRcvy : Bool
  rtagPop : Bool
  meterEn : Bool
  dropYellow : Bool
  replicateT : Bool
  ports : Nat
  mac : BitVec 48
  vid : BitVec 12
  maxSdu : Nat
  hist : Nat
  takeNoSeq : Bool
  latentEn : Bool
  cls : Nat
  clsEn : Bool
  pcp : Nat
  pcpEn : Bool
  cir : Nat
  eir : Nat
  cbs : Nat
  ebs : Nat
  resetMs : Nat
  latentThr : Nat
  latentMs : Nat
  vidOut : Nat
deriving DecidableEq, Repr

/-- An address map entry (R284), by car number. -/
structure AmapEntry where
  car : Nat
  uid : BitVec 64
  handle : Nat
  own : Bool
  towardB2 : Bool
  twin0 : Nat
  twin1 : Nat
  gen : Nat
deriving DecidableEq, Repr

/-- One bank of the forwarding tables, the separator rules, the streams and the address map (R206, R209, R284). -/
structure Bank where
  uni : List FdbEntry
  multi : List FdbEntry
  vlan : Cells
  vlanTrain : List Nat
  rules : List (Nat × SepRule)
  streams : List (Nat × Stream)
  amap : List AmapEntry
deriving DecidableEq, Repr

/-- Run-time state of a stream (R218, R225 to R227): next sequence number, the recovery window, the latent difference, the two buckets in
bits × 10^9 and the time they were last filled, and the thirteen counters of R237. -/
structure StreamRun where
  nextSeq : Nat
  top : Option Nat
  hist : Nat
  take : Bool
  diff : Int
  bucketC : Nat
  bucketE : Nat
  meterAt : Nat
  cnt : Cells
deriving DecidableEq, Repr

/-- A frame held for egress (R219, R220): its number (copies of one frame share their cells), port, class, skim or not, its bytes in the
form in which the port sends them (R189), ingress port (15 the host, 16 the node itself) and priority. -/
structure Queued where
  id : Nat
  port : Nat
  cls : Nat
  skim : Bool
  bytes : List Byte
  ingress : Nat
  prio : Nat
deriving DecidableEq, Repr

/-- A gate list (R222): entries (interval, states, operation), base time, cycle time, CRC. -/
structure GateList where
  entries : List (Nat × Nat × Nat)
  base : Nat
  cycle : Nat
  crc : Nat
deriving DecidableEq, Repr

/-- A write to bank 1 that waits for the end of the copy (R210). -/
inductive BankWrite where
  | fdb (mac : BitVec 48) (vid : BitVec 12) (mask : BitVec 16) (queue : Nat) (flags : Nat)
  | rule (n : Nat) (r : SepRule)
  | stream (n : Nat) (r : Stream)
  | copy (what : Nat)
  | accept
deriving DecidableEq, Repr

/-- Forwarding state: the bank in force and the other one, stream runs, queued frames, gate lists in force and waiting, bank writes that wait for a copy, the
previous address map, MACsec keys by port, the next frame number, shaper credits, when a gate entry began, and frame engines that failed their
self-check and are not yet replaced (R28). -/
structure FwdSt where
  bank0 : Bank
  bank1 : Bank
  run : List (Nat × StreamRun)
  egress : List Queued
  gates : List (Nat × GateList)
  gateWait : List (Nat × GateList)
  after : List BankWrite
  prevAmap : List AmapEntry
  secPort : List (Nat × List (Nat × List Byte))
  frameNo : Nat
  credit : List (Nat × (Int × Nat))
  gateAt : List (Nat × Nat)
  failed : List Nat
deriving DecidableEq, Repr

/-! ## Ports (07) -/

/-- Per port: the mode and auto-negotiation taken at the last start, the priorities paused and since when, verify mPackets sent, flow control XOFF sent. -/
structure PortSt where
  modeUsed : Nat
  anEn : Bool
  pausedPrio : BitVec 8
  pausedAt : Nat
  tries : Nat
  xoff : Bool
  xoffPrio : BitVec 8
deriving DecidableEq, Repr

/-- A port after reset. -/
def PortSt.init : PortSt := ⟨0, false, 0, 0, 0, false, 0⟩

/-! ## Churn (09) and train addressing (10) -/

/-- A churn frame owed at the next beat of a port's survey engine (R244, R251, R257), under its originator. -/
inductive Owed where
  | survey (uid : BitVec 64) (twin : Bool) (lead : LeadCmd) (overflow : Bool) (entries : List SurveyEntry)
  | agree (uid : BitVec 64) (twin : Bool) (ag : Agree)
deriving DecidableEq, Repr

/-- The churn engine (R238 to R267). curd and digest are the committed ones; computed is the own curd of the attempt, from both lists or not;
surveys, lineEnd, calledRx and answered go by port; ownList and partner are line lists (R252); agrees the AGREE frames received by port; partnerBoth
and partnerOk the digests that the partner reported (R258, R260); held a COMMIT that waits for acceptance with its port, instant and time of arrival (R261); instant the
pending one; deferred the cause of a deferred trigger (R264); owed what waits for a beat; auth, cplTrig, leadUs and ttdp the settings that the last
attempt took (R273); tagFailed a TAG failure since the last commit (R291), tagEnd one in the running attempt (R292); dead the backbone
ports whose survey engine failed its self-check (R28). -/
structure ChurnSt where
  curd : Option Curd
  digest : List Byte
  computed : Option Curd
  bothLists : Bool
  accepted : Option Curd
  surveys : List (Nat × Survey)
  started : Bool
  lineEnd : List Nat
  calledRx : List Nat
  answered : List Nat
  ownList : Option PartnerList
  partner : Option PartnerList
  leadCmd : LeadCmd
  agrees : List (Nat × Agree)
  partnerBoth : List (List Byte)
  partnerOk : List (List Byte)
  told : Bool
  held : Option (Nat × Commit × Nat × Nat)
  instant : Option Nat
  deferred : Option Nat
  owed : List (Nat × Owed)
  firstTrigger : Nat
  tagFailed : Bool
  tagEnd : Bool
  auth : Bool
  cplTrig : Bool
  leadUs : Nat
  ttdp : Bool
  lastCommit : Nat
  relayOnly : Bool
  ttdpPeer : List Nat
  dead : List Nat
deriving DecidableEq, Repr

/-- A roster entry beyond what DEV_WRKw shows, by entry: sends without ACK, when it was last seen, the link that its ASSIGN goes to, the worker's
individual address. -/
structure RosterSt where
  sends : Cells
  seen : Cells
  offer : Cells
  macs : Cells
deriving DecidableEq, Repr

/-- Train configuration in force and pending, segments received, the owed churns of R291 and R292, and the management VID, which the configuration in
force sets at the next attempt (R280, R292). -/
structure TcfgSt where
  inForce : Option TrainConfig
  pend : Option TrainConfig
  segSeq : Nat
  segCount : Nat
  segTotal : Nat
  segs : List (Nat × List Byte)
  churnDue : Bool
  keyChurnDue : Bool
  sendDue : Bool
  vid : Nat
deriving DecidableEq, Repr

/-! ## Time (11) -/

/-- One gPTP domain (R307): grandmaster known, syncs within the threshold in a row, offsets above 10 × SYNC_THR in a row, rate, offset, slave port,
PPS edges in time (R310). -/
structure DomSt where
  known : Bool
  good : Nat
  bad : Nat
  incr : Nat
  offset : Int
  slave : Nat
  pps : Bool
deriving DecidableEq, Repr

/-- The time unit (R300 to R323): the counter (acc in units of 2^-40 ns beside ns, whole nanoseconds of PTP time), its increment per 4 ns edge, the
two domains, the load armed under R310, the skew measurements in a row of R312, good pdelay exchanges in a row per port, comparator periods,
comparators that fired since arming, TRIG levels and the ends of pulses, whether the node was synchronized before the running slew (R309), captures that
wait for each other (R322), and the comparators whose target has reached the line die (R318). -/
structure TimeSt where
  acc : Nat
  incr : Nat
  d0 : DomSt
  d1 : DomSt
  load : Option Nat
  skewHi : Nat
  skewLo : Nat
  pdelay : Cells
  period : Cells
  firedSince : List Nat
  trig : BitVec 8
  slewSync : Bool
  shadowCaps : List (Nat × Nat)
  journalCaps : List (Nat × Nat)
  ns : Nat
  passed : List Nat
  trigEnd : List (Nat × Nat)
deriving DecidableEq, Repr

/-! ## Telegram engine (12) -/

/-- A publication (R328) with its state: enabled, dataset taken by the journal, counters, divider count, last send. -/
structure PubSt where
  sdt : Bool
  rtag : Bool
  gen : Bool
  control : Bool
  topo : Bool
  srcHandle : Bool
  engine : Nat
  cmp : Nat
  kind : Nat
  comId : Nat
  dst : Nat
  host : Nat
  len : Nat
  mac : BitVec 48
  divider : Nat
  vid : Nat
  pcp : Nat
  smi : Nat
  udv : Nat
  enabled : Bool
  data : List Byte
  seq : Nat
  ssc : Nat
  fires : Nat
  lastSend : Option Nat
  sent : Nat
deriving DecidableEq, Repr

/-- A subscription (R337) with its state (R340 to R344): slots hold (sequence, flags); claimed slot and claiming twin; counts. -/
structure SubSt where
  sdt : Bool
  gen : Bool
  topo : Bool
  zero : Bool
  event : Bool
  engine : Nat
  srcKind : Nat
  dstKind : Nat
  comId : Nat
  src : Nat
  srcHost : Nat
  len : Nat
  dst : Nat
  timeout : Nat
  smi : Nat
  udv : Nat
  enabled : Bool
  newest : Option Nat
  claimed : Option Nat
  claimTwin : Bool
  newer : Bool
  slots : List (Nat × Nat × Nat)
  lastValid : List Byte
  lastSeq : Option Nat
  accepts : Nat
  timeouts : Nat
  sdtFails : Nat
  lastAt : Nat
  running : Bool
deriving DecidableEq, Repr

/-- A route (R347). -/
structure Route where
  dir : Bool
  txOnUpdate : Bool
  requireValid : Bool
  channel : Nat
  object : Nat
  index : Nat
  fields : List (Nat × Nat × Nat)
deriving DecidableEq, Repr

/-- Telegram state: entries by index, R-TAG counters by (MAC, VID), the previous etbTopoCnt (R339). -/
structure TlgSt where
  pubs : List (Nat × PubSt)
  subs : List (Nat × SubSt)
  routes : List (Nat × Route)
  rtags : List (Nat × Nat)
  prevTopo : Nat
deriving DecidableEq, Repr

/-! ## Twin pair (16) -/

/-- The twin machinery: own and the partner's contribution of the running tick, its number, misses in a row, FAULT of the running and the last four own
contributions (bit 0 the running one) and of the partner's last four, the tick from which a fixed drill swaps, whether its channels are being verified and which,
the start of the rejoin in progress and the blocks in a row that matched, a fence arbitration in progress and whether boot began it, FAIL_N, the
partner's link states, the last drill, rejoin or join, the tick of the last swap. -/
structure TwinSt where
  own : List JEntry
  partner : Option JBlock
  tick : Nat
  misses : Nat
  fault : Nat
  pfault : Nat
  drillAt : Option Nat
  drillPhase : Nat
  drillChk : BitVec 16
  rejoinFrom : Option Nat
  matched : Nat
  fencing : Bool
  atBoot : Option Nat
  failN : Bool
  partnerLinks : BitVec 16
  lastDrill : Nat
  swapTick : Nat
deriving DecidableEq, Repr

/-! ## Event recorder (18) -/

/-- The recorder: the buffer, the last record with its position and the occurrences held (R472), the banks by position,
bad positions, dropped occurrences to report (R473), whether the cellar-full record is owed. -/
structure RecSt where
  buffer : List (Nat × Record)
  last : Option (Nat × Record)
  heldN : Nat
  heldSpan : Nat
  lastAt : Nat
  firstAt : Nat
  bank0 : List (Nat × Record)
  bank1 : List (Nat × Record)
  bad0 : List Nat
  bad1 : List Nat
  lost : Nat
  partnerPos : List (Nat × Nat)
  wrapped : Bool
deriving DecidableEq, Repr

/-! ## Message bus channels (13) -/

/-- A message object (R355). -/
structure CanObj where
  tx : Bool
  event : Bool
  oneShot : Bool
  clashStop : Bool
  rtr : Bool
  format : Nat
  ide : Bool
  brs : Bool
  sec : Bool
  cls : Nat
  ident : Nat
  len : Nat
  sdt : Nat
  vcid : Nat
  af : Nat
  qmask : Nat
deriving DecidableEq, Repr

/-- An object's run-time state: the data taken by the doorbell with its length, the overriding identifier of R364, the counts of R356,
whether its frame is past SOF, the entry that frame began under (R355), the order number of its request, and whether its frame ran past its window (R363). -/
structure ObjRun where
  data : List Byte
  len : Nat
  txid : Option (Nat × Bool × Bool)
  count : Nat
  lost : Nat
  upd : Nat
  sof : Bool
  old : Option CanObj
  req : Nat
  late : Bool
deriving DecidableEq, Repr

/-- A run with nothing in it. -/
def ObjRun.init : ObjRun := ⟨[], 0, none, 0, 0, 0, false, none, 0, false⟩

/-- A schedule matrix (R363): windows (start ns, length ns, type, TX_ENABLE), the cells by cycle, the window to open next. -/
structure Matrix where
  cycles : Nat
  windows : List (Nat × Nat × Nat × Nat)
  cells : List Nat
deriving DecidableEq, Repr

/-- A channel (R351 to R374): objects by number, their runs, the schedule in force and loaded, the waiting MB_CANCEL commands as accepted
entries, the transceiver's commanded state (R376), the open window, gated by a takeover that has not reached bus
idle (R371), the number of requests so far, bus-off recovery running (R369), frames of the shadow and of the
journal that wait for each other (R371), and the bus ring (R391). -/
structure MbusSt where
  objs : List (Nat × CanObj)
  run : List (Nat × ObjRun)
  matrix : Option Matrix
  loaded : Option Matrix
  cancels : List (Nat × Accepted)
  window : Option Nat
  winSent : Bool
  commanded : Nat
  gated : Bool
  reqNo : Nat
  recovering : Bool
  rxMine : List (Nat × Nat)
  rxTheirs : List (Nat × Nat)
  ringRound : Nat
  ringPrep : Option Nat
  ringSleep : Bool
  ringTimer : Option Nat
  ringExcl : BitVec 64
  ringNow : BitVec 64
  wokenIdle : Bool
  listen : Bool
  oneShot : Bool
  modeUsed : Bool
  enumUsed : Bool
deriving DecidableEq, Repr

/-- A channel after reset. -/
def MbusSt.init : MbusSt :=
  { objs := [], run := [], matrix := none, loaded := none, cancels := [], window := none, winSent := false, commanded := 2,
    gated := false, reqNo := 0, recovering := false, rxMine := [], rxTheirs := [], ringRound := 0, ringPrep := none,
    ringSleep := false, ringTimer := none, ringExcl := 0, ringNow := 0, wokenIdle := false, listen := false, oneShot := false, modeUsed := false,
    enumUsed := false }

/-! ## Sleep (14) -/

/-- Train sleep (R380 to R390): the running round and whether it is out, the consent of the last returned round, when the awake timer started, the
ORDER held (sequence, instant), the last ORDER sequence sent, the newest sequence held per origin and kind, the requests held in the last 2 ms, the
active wake inputs of both twins, and the instant of a SLEEP_PARK. -/
structure SleepSt where
  round : Nat
  roundOut : Bool
  consentSeen : BitVec 64
  timer : Option Nat
  order : Option (Nat × Nat)
  orderSeq : Nat
  seen : List (Nat × Nat)
  heldWake : BitVec 9
  inputs : BitVec 8
  partnerInputs : BitVec 8
  parkAt : Option Nat
deriving DecidableEq, Repr

/-! ## Load channels (15) -/

/-- A load channel beyond its registers (R396 to R413): the held request, when its stage switched off, when a retry is due and whether one that fell due
waits for a window (R400), the open-load sums in 100 µs, OPEN_LOAD, whether demagnetization has ended, IMBALANCE, the segment the spare replaces. -/
structure LchSt where
  held : Option Bool
  offAt : Nat
  retryDue : Option Nat
  dueNow : Bool
  olBelow : Nat
  olAbove : Nat
  openLoad : Bool
  demagDone : Bool
  imb : Bool
  spareFor : Option Nat
deriving DecidableEq, Repr

/-- A channel off. -/
def LchSt.init : LchSt := ⟨none, 0, none, false, 0, 0, false, false, false, none⟩

/-- All channels: by number; user profiles; the usable groups; PGND present; the comparisons above the budget in a row; the ISNS channel of register
mode; the takeover window of R413. -/
structure LoadSt where
  ch : List (Nat × LchSt)
  profiles : List (Nat × List (Nat × Nat))
  usable : BitVec 4
  pgnd : Bool
  excess : Nat
  isns : Nat
  takeover : Bool
deriving DecidableEq, Repr

/-! ## Keys (17) -/

/-- A vault slot (R453): key material as its derivation (the opaque value is of Config), usage, level, parent, generation, validity. -/
structure Slot where
  valid : Bool
  usage : Nat
  level : Nat
  parent : Nat
  gen : Nat
  label : List Byte
  key : List Byte
deriving DecidableEq, Repr

/-- An empty slot. -/
def Slot.init : Slot := ⟨false, 0, 0, 0xFF, 0, [], []⟩

/-- The vault and the attestation signer: slots by number, the pending root, the manager that the root came from, MAINT (not-after in PTP seconds, its
latest end in ns of the counter), JTAG's DEBUG bit, KEYREQs sent in a row, whether a KEYDIST left a root pending, the statement held, the statement
being signed (sequence, generation of slot 2, body, queue), and EXTEST driving the balls (R465). -/
structure KeySt where
  slots : List (Nat × Slot)
  pendRoot : Option (Nat × List Byte)
  rootFrom : Option (BitVec 64 × Bool)
  maint : Option (Nat × Nat)
  debugBit : Bool
  tries : Nat
  tkrChurn : Bool
  statement : Option (Nat × List Byte)
  signing : Option (Nat × Nat × List Byte × Nat)
  extest : Bool
deriving DecidableEq, Repr

/-! ## Reserve (19) -/

/-- A pending repair (R483): kind, instance and element (R480, R487), the entry's flags ([0] RETIRE, [1] COLUMN, [2] BANK), its cause, and whether a
failure scheduled it. -/
structure Repair where
  kind : Nat
  inst : Nat
  element : Nat
  flags : Nat
  cause : Nat
  failure : Bool
deriving DecidableEq, Repr

/-- The Reserve: the pending list, elements that raised WATCH, and whether a drill is asked for (R404, R485). -/
structure RsvSt where
  pend : List Repair
  watched : List (Nat × Nat × Nat)
  drillAsked : Bool
deriving DecidableEq, Repr

/-! ## Fuses (17, 19) and the record die's configuration store (03, 16) -/

/-- A ledger entry (R487). A void entry (R486) carries the index of a free value: what its burn left is not stated. -/
structure LedgerEntry where
  kind : Nat
  inst : Nat
  element : Nat
  flags : Nat
  cause : Nat
  point : Nat
  spare : Nat
  hours : Nat
  void : Option Nat
deriving DecidableEq, Repr

/-- Fuses and straps: life-cycle state (R444), enrolment, the eight words of the protection map (R450), the authority digest, the integrator and the field
starter (R445, R447), the ledger (R486), TWIN_ID, ROM issue, temperature grade (R150) and the UID of the car (R242; log entry 12). lc = 3 (MAINT) is
entered, not burned. -/
structure FuseSt where
  lc : Nat
  enrolled : Bool
  map : Option (List Nat)
  mapBad : Bool
  authority : List Byte
  intStarter : List Byte
  fieldStarter : List Byte
  ledger : List LedgerEntry
  twinId : Bool
  romIssue : Nat
  grade : Nat
  uid : BitVec 64
deriving DecidableEq, Repr

/-- The configuration store of the record die (R84, R263, R298, R404, R430, R487): kept across node reset. -/
structure StoreSt where
  slot0 : Option Image
  slot1 : Option Image
  ok0 : Bool
  ok1 : Bool
  inUse : Option Nat
  gen : Nat
  curd : Option Curd
  curdDigest : List Byte
  tcfg : Option TrainConfig
  roster : List (Nat × Nat × Nat × Nat)
  segs : List (Nat × Nat)
  hours : Nat
  recSeq : Nat
  recPos : Nat
  recWrapped : Bool
  recDieOk : Bool
deriving DecidableEq, Repr

/-! ## Initial values -/

/-- An empty bank: VID 1 holds ports 0 to 13 (R206) by the default of the VLAN table. -/
def Bank.init : Bank := ⟨[], [], [], [], [], [], []⟩

/-- A domain after reset (R301): no grandmaster, nominal increment of 4 ns. -/
def DomSt.init : DomSt := ⟨false, 0, 0, 4 * 2 ^ 40, 0, 0, false⟩

/-- No LEAD_CMD (R255). -/
def LeadCmd.none : LeadCmd := ⟨0, 0, 0⟩

/-- The churn engine after reset: IDLE, no curd. -/
def ChurnSt.init : ChurnSt :=
  { curd := none, digest := [], computed := none, bothLists := false, accepted := none, surveys := [], started := false, lineEnd := [],
    calledRx := [], answered := [], ownList := none, partner := none, leadCmd := LeadCmd.none, agrees := [], partnerBoth := [], partnerOk := [],
    told := false, held := none, instant := none, deferred := none, owed := [], firstTrigger := 0, tagFailed := false, tagEnd := false,
    auth := false, cplTrig := true, leadUs := 1000, ttdp := false, lastCommit := 0, relayOnly := false, ttdpPeer := [], dead := [] }


/-! ## State transfer (R434) -/

/-- The snapshot that a rejoin gives the joiner, as it stands at tick J with the blocks applied since (R424, R433, R434): registers and shadows of
journaled registers and of the shared machines, the pages' enable machines, the subscription slots and message-object windows of device memory, the
shared parts of the other units, the image in force, the curd and train configuration, the vault slots with their derivation records, the next journal
sequence number and the tick. -/
structure Snapshot where
  regs : Cells
  shadow : Cells
  pages : List (Nat × PageSt)
  mem : List Host.Cell
  bank0 : Bank
  bank1 : Bank
  run : List (Nat × StreamRun)
  gates : List (Nat × GateList)
  gateWait : List (Nat × GateList)
  after : List BankWrite
  prevAmap : List AmapEntry
  churn : ChurnSt
  roster : RosterSt
  tcfg : TcfgSt
  tlg : TlgSt
  mbus : List (Nat × MbusSt)
  sleep : SleepSt
  ch : List (Nat × LchSt)
  profiles : List (Nat × List (Nat × Nat))
  claims : List Claim
  accepted : List Accepted
  image : Option Image
  storeTcfg : Option TrainConfig
  curd : Option Curd
  curdDigest : List Byte
  slots : List (Nat × Slot)
  gen : Nat
  seq : Nat
  tick : Nat
deriving DecidableEq, Repr

/-! ## What leaves the node -/

/-- What leaves the node. This log is the model's own field: the manual gives the node outputs, not a memory of them (log entry 7).
secured is a frame that MACsec protects, given before encryption; gptp is a gPTP message (0 Sync with Follow_Up, 1 Announce), whose format IEEE 802.1AS gives, with the clockClass of a domain that this node sources, 0 for a relayed one; aborted a cut-through frame that ended with an inverted FCS; ttdp a frame in the format of IEC 61375-2-5 (0 fast HELLO, 1 slow HELLO, 2 TOPOLOGY). T messages that have no port frame (R252, R422, R477) carry their content as data; snapshot is the state transfer of R433. -/
inductive Output where
  | frame (port : Nat) (bytes : List Byte)
  | secured (port : Nat) (an : Nat) (conf : Bool) (bytes : List Byte)
  | aborted (port : Nat)
  | gptp (port : Nat) (domain : Nat) (kind : Nat) (cls : Nat)
  | mpacket (port : Nat) (respond : Bool)
  | msix (vec : Nat) (addr : Nat) (data : Nat)
  | pcie (status : Nat) (value : Nat)
  | can (m : Nat) (ident : Nat) (format : Nat) (data : List Byte)
  | overT (what : Nat) (bytes : List Byte)
  | mdio (bus : Nat) (phy : Nat) (reg : Nat) (data : Option Nat)
  | wup (m : Nat)
  | ttdp (port : Nat) (kind : Nat)
  | snapshot (x : Snapshot)
deriving DecidableEq, Repr

end Sys2Proof.Machine
end

