-- ==== Sys2Proof/Syntax.lean ====
section
/-! DEFINITION. The commands of the block: one constructor of Instr per row of spec/opcode_table.json, with the row's operands.
The table gives no fields; the operands here are what the row's rule says crosses the boundary (log entry 1). -/

namespace Sys2Proof

open Sys2Proof.Machine (Snapshot)

/-- One constructor per row of spec/opcode_table.json, in the table's order; each docstring names the row and the rule that governs it. -/
inductive Instr where
  /-- POWER_ON (R75). -/
  | powerOn
  /-- RAIL_OUT_OF_RANGE (R494). -/
  | railOutOfRange
  /-- VPARK_FALL (R494). -/
  | vparkFall
  /-- RST_N_ASSERT (R75). -/
  | rstNAssert
  /-- NODE_RESET_CMD_DELAY (R75). -/
  | nodeResetCmdDelay
  /-- PERST_N_ASSERT (R79). -/
  | perstNAssert
  /-- PCIE_LINK_CHANGE (R131). -/
  | pcieLinkChange (up : Bool) (width : Fin 16) (rate : Fin 16)
  /-- TRST_N_ASSERT (R75). -/
  | trstNAssert
  /-- BOOT (R81). -/
  | boot (b : BootInput)
  /-- REF_QUALIFY (R67). -/
  | refQualify (r : RefClk) (disagree : Bool)
  /-- REF_SELECT_TIMEOUT (R68). -/
  | refSelectTimeout
  /-- REF_LOSS (R71). -/
  | refLoss
  /-- REF_FAILOVER_DONE (R71). -/
  | refFailoverDone
  /-- HOLDOVER_EXPIRY (R72). -/
  | holdoverExpiry
  /-- VHV_RETURN (R77). -/
  | vhvReturn (g : Fin 4)
  /-- INTERNAL_LINK_FRAME (R17). -/
  | internalLinkFrame (crcGood : Bool)
  /-- INTERNAL_LINK_TIMEOUT (R18). -/
  | internalLinkTimeout
  /-- NODE_ALIVE_STOP (R18). -/
  | nodeAliveStop
  /-- LINE_DIE_TIMEOUT (R19). -/
  | lineDieTimeout
  /-- LOCKSTEP_MISMATCH (R27). -/
  | lockstepMismatch (p : CorePair) (failed : Option (Fin 4))
  /-- TEMP_HIGH (R498). -/
  | tempHigh
  /-- OVERTEMP_SHUTDOWN (R498). -/
  | overtempShutdown
  /-- PAGE_SCRUB (R107). -/
  | pageScrub
  /-- PARK_COMMAND_INSTANT (R161). -/
  | parkCommandInstant
  /-- PARK_LATCH_CHECK (R93). -/
  | parkLatchCheck
  /-- WAKE_IN_PARK (R92). -/
  | wakeInPark (src : WakeSrc)
  /-- RAIL_EN_REASSERT (R93). -/
  | railEnReassert
  /-- REGISTER_WRITE (R98). -/
  | registerWrite (w : WriteReq)
  /-- REGISTER_READ_LATCH (R97). -/
  | registerReadLatch (r : ReadReq)
  /-- COUNTER_READ_CLEAR (R198). -/
  | counterReadClear (i : Initiator) (p : Port) (k : Fin 32)
  /-- PAGE_EN_WRITE (R103). -/
  | pageEnWrite (i : Initiator) (page : Fin 4096) (en : Bool)
  /-- BLOCK_START_COMPLETE (R103). -/
  | blockStartComplete (page : Fin 4096)
  /-- BLOCK_STOP_COMPLETE (R103). -/
  | blockStopComplete (page : Fin 4096)
  /-- BLK_RST (R104). -/
  | blkRst (i : Initiator) (page : Fin 4096)
  /-- LOCK_WRITE (R105). -/
  | lockWrite (i : Initiator) (page : Fin 4096) (v : Word)
  /-- SHADOW_COMMIT (R102). -/
  | shadowCommit (i : Initiator) (page : Fin 4096)
  /-- SHADOW_DISCARD (R102). -/
  | shadowDiscard (i : Initiator) (page : Fin 4096)
  /-- EV_PEND_CLEAR (R108). -/
  | evPendClear (i : Initiator) (page : Fin 4096) (v : Word)
  /-- EV_EN_WRITE (R111). -/
  | evEnWrite (i : Initiator) (page : Fin 4096) (v : Word)
  /-- EV_ROUTE_WRITE (R111). -/
  | evRouteWrite (i : Initiator) (page : Fin 4096) (v : Word)
  /-- EVC_SWSET (R110). -/
  | evcSwset (i : Initiator) (v : Word)
  /-- EVC_SWPEND_CLEAR (R110). -/
  | evcSwpendClear (i : Initiator) (v : Word)
  /-- EVC_SWEN_WRITE (R111). -/
  | evcSwenWrite (i : Initiator) (r : SwReg) (v : Word)
  /-- EVC_LMAP_WRITE (R111). -/
  | evcLmapWrite (i : Initiator) (slot : Fin 44) (v : Word)
  /-- EVC_FAULT_CLEAR (R110). -/
  | evcFaultClear (i : Initiator)
  /-- DEV_RSTCAUSE_CLEAR (R80). -/
  | devRstcauseClear (i : Initiator) (v : Word)
  /-- ATOMIC_OP (R127). -/
  | atomicOp (a : AtomicReq)
  /-- LOCKED_READ (R129). -/
  | lockedRead
  /-- BRG_SEM_ACQUIRE (R128). -/
  | brgSemAcquire (i : Initiator) (sem : Fin 24) (loc : BitVec 26)
  /-- BRG_SEM_RELEASE (R128). -/
  | brgSemRelease (i : Initiator) (sem : Fin 24)
  /-- SEM_HOLD_TIMEOUT (R128). -/
  | semHoldTimeout (sem : Fin 24)
  /-- ATOMIC_SEM_TIMEOUT (R127). -/
  | atomicSemTimeout (a : AtomicReq)
  /-- BRG_RWIN_TGT_WRITE (R116). -/
  | brgRwinTgtWrite (i : Initiator) (a : Fin 4) (v : Word)
  /-- REMOTE_APERTURE_WRITE (R119). -/
  | remoteApertureWrite (a : Fin 4) (page : Fin 4096) (word : Fin 1024) (v : Word)
  /-- REMOTE_APERTURE_READ (R121). -/
  | remoteApertureRead (a : Fin 4) (page : Fin 4096) (word : Fin 1024)
  /-- REMOTE_FRAME_SEND (R119). -/
  | remoteFrameSend (a : Fin 4)
  /-- REMOTE_RETRANSMIT (R119). -/
  | remoteRetransmit (seq : Nat)
  /-- REMOTE_SEND_TIMEOUT (R141). -/
  | remoteSendTimeout (seq : Nat)
  /-- REMOTE_READ_TIMEOUT (R122). -/
  | remoteReadTimeout (seq : Nat)
  /-- WRITE_ACK_RX (R124). -/
  | writeAckRx (f : RemoteFrame)
  /-- READ_REPLY_RX (R120). -/
  | readReplyRx (f : RemoteFrame)
  /-- REMOTE_WRITE_RX (R119). -/
  | remoteWriteRx (f : RemoteFrame)
  /-- REMOTE_READ_RX (R119). -/
  | remoteReadRx (f : RemoteFrame)
  /-- REMOTE_COMMAND_RX (R141). -/
  | remoteCommandRx (f : RemoteFrame) (ring : Fin 4)
  /-- REMOTE_RESPONSE_RX (R141). -/
  | remoteResponseRx (f : RemoteFrame)
  /-- REMOTE_COMPLETION_RX (R140). -/
  | remoteCompletionRx (f : RemoteFrame) (a : Fin 4)
  /-- BRG_FQHEAD_WRITE (R125). -/
  | brgFqheadWrite (i : Initiator) (v : Word)
  /-- BRG_RCDB_DOORBELL (R140). -/
  | brgRcdbDoorbell (i : Initiator) (a : Fin 4) (v : Word)
  /-- BRG_RRHEAD_WRITE (R131). -/
  | brgRrheadWrite (i : Initiator) (a : Fin 4) (v : Word)
  /-- CMD_SQTAIL_DOORBELL (R132). -/
  | cmdSqtailDoorbell (i : Initiator) (n : Fin 8) (v : Word)
  /-- CMD_RQHEAD_WRITE (R132). -/
  | cmdRqheadWrite (i : Initiator) (n : Fin 8) (v : Word)
  /-- CMD_CRHEAD_WRITE (R132). -/
  | cmdCrheadWrite (i : Initiator) (v : Word)
  /-- NOP (R150). -/
  | nop (t : Take)
  /-- DEV_INFO (R150). -/
  | devInfo (t : Take)
  /-- DEV_STATUS (R150). -/
  | devStatus (t : Take)
  /-- DEV_RESET (R150). -/
  | devReset (t : Take)
  /-- CFG_IMAGE_LOAD (R151). -/
  | cfgImageLoad (t : Take)
  /-- CFG_IMAGE_LOAD_DONE (R509). -/
  | cfgImageLoadDone (slot : Fin 2) (v : ImageVerdict)
  /-- CFG_IMAGE_ACTIVATE (R152). -/
  | cfgImageActivate (t : Take)
  /-- CFG_COMMIT (R152). -/
  | cfgCommit (t : Take)
  /-- CFG_INFO (R151). -/
  | cfgInfo (t : Take)
  /-- PORT_SET (R174). -/
  | portSet (t : Take)
  /-- PORT_SET_DONE (R174). -/
  | portSetDone (p : Port)
  /-- PORT_STATUS (R153). -/
  | portStatus (t : Take)
  /-- PORT_CNT_SNAP (R154). -/
  | portCntSnap (t : Take)
  /-- PORT_MDIO (R181). -/
  | portMdio (t : Take) (phyData : Option (BitVec 16))
  /-- FDB_SET (R206). -/
  | fdbSet (t : Take)
  /-- SEP_RULE_SET (R203). -/
  | sepRuleSet (t : Take)
  /-- STREAM_SET (R216). -/
  | streamSet (t : Take)
  /-- GCL_LOAD (R222). -/
  | gclLoad (t : Take)
  /-- GCL_TAKES_FORCE (R223). -/
  | gclTakesForce (p : Port)
  /-- GATE_CHANGE (R223). -/
  | gateChange (p : Port)
  /-- FWD_BANK_COPY (R209). -/
  | fwdBankCopy (t : Take)
  /-- CHURN_START (R156). -/
  | churnStart (t : Take)
  /-- CHURN_SET_LEAD (R255). -/
  | churnSetLead (t : Take)
  /-- CHURN_MODE (R156). -/
  | churnMode (t : Take)
  /-- CURD_READ (R156). -/
  | curdRead (t : Take)
  /-- TIME_STATUS (R157). -/
  | timeStatus (t : Take)
  /-- TIME_SELECT (R308). -/
  | timeSelect (t : Take)
  /-- CMP_ARM (R315). -/
  | cmpArm (t : Take)
  /-- CMP_DISARM (R319). -/
  | cmpDisarm (t : Take)
  /-- CAP_READ (R321). -/
  | capRead (t : Take)
  /-- PUB_SET (R328). -/
  | pubSet (t : Take)
  /-- SUB_SET (R337). -/
  | subSet (t : Take)
  /-- TLG_ENABLE (R158). -/
  | tlgEnable (t : Take)
  /-- ROUTE_SET (R347). -/
  | routeSet (t : Take)
  /-- TLG_STATUS (R158). -/
  | tlgStatus (t : Take)
  /-- MB_TIMING (R353). -/
  | mbTiming (t : Take)
  /-- MB_OBJ_SET (R355). -/
  | mbObjSet (t : Take) (sof : Bool)
  /-- MB_SCHED_LOAD (R363). -/
  | mbSchedLoad (t : Take)
  /-- MB_CANCEL (R367). -/
  | mbCancel (t : Take) (sof : Bool)
  /-- MB_CLASH_REARM (R368). -/
  | mbClashRearm (t : Take)
  /-- MB_STATUS (R159). -/
  | mbStatus (t : Take)
  /-- SLEEP_CONSENT (R380). -/
  | sleepConsent (t : Take)
  /-- SLEEP_ORDER (R383). -/
  | sleepOrder (t : Take)
  /-- SLEEP_PARK (R161). -/
  | sleepPark (t : Take)
  /-- SLEEP_TIMES (R383). -/
  | sleepTimes (t : Take)
  /-- XCVR_SET (R376). -/
  | xcvrSet (t : Take)
  /-- SLEEP_STATUS (R161). -/
  | sleepStatus (t : Take)
  /-- LCH_SET (R162). -/
  | lchSet (t : Take)
  /-- LCH_CONFIG (R396). -/
  | lchConfig (t : Take)
  /-- LCH_PROFILE (R398). -/
  | lchProfile (t : Take)
  /-- LCH_CLEAR (R401). -/
  | lchClear (t : Take)
  /-- LCH_FW_TEST (R410). -/
  | lchFwTest (t : Take)
  /-- LCH_STATUS (R162). -/
  | lchStatus (t : Take)
  /-- ISNS_SELECT (R412). -/
  | isnsSelect (t : Take)
  /-- TWIN_STATUS (R164). -/
  | twinStatus (t : Take)
  /-- SWAP_DRILL (R437). -/
  | swapDrill (t : Take)
  /-- TWIN_REJOIN (R433). -/
  | twinRejoin (t : Take) (fenceOk : Bool)
  /-- TWIN_FENCE (R440). -/
  | twinFence (t : Take)
  /-- DRILL_PERIOD (R439). -/
  | drillPeriod (t : Take)
  /-- KEY_DERIVE (R454). -/
  | keyDerive (t : Take)
  /-- KEY_INVALIDATE (R455). -/
  | keyInvalidate (t : Take)
  /-- KEY_STATUS (R165). -/
  | keyStatus (t : Take)
  /-- LC_ADVANCE (R447). -/
  | lcAdvance (t : Take)
  /-- LC_ADVANCE_DONE (R447). -/
  | lcAdvanceDone (v : TokenVerdict)
  /-- ATT_SIGN (R463). -/
  | attSign (t : Take)
  /-- ATT_SIGN_DONE (R463). -/
  | attSignDone
  /-- ATT_READ (R463). -/
  | attRead (t : Take)
  /-- REC_READ (R478). -/
  | recRead (t : Take)
  /-- REC_EXPORT (R478). -/
  | recExport (t : Take)
  /-- REC_EXPORT_DONE (R478). -/
  | recExportDone
  /-- REC_USER (R469). -/
  | recUser (t : Take)
  /-- REC_STATUS (R166). -/
  | recStatus (t : Take)
  /-- RSV_STATUS (R481). -/
  | rsvStatus (t : Take)
  /-- RSV_LEDGER (R487). -/
  | rsvLedger (t : Take)
  /-- RSV_SCHEDULE (R483). -/
  | rsvSchedule (t : Take)
  /-- REMOTE_SYNC (R126). -/
  | remoteSync (t : Take)
  /-- REMOTE_SYNC_DONE (R126). -/
  | remoteSyncDone (tag : Nat)
  /-- REMOTE_STATUS (R166). -/
  | remoteStatus (t : Take)
  /-- RES_CLAIM (R43). -/
  | resClaim (t : Take)
  /-- RES_RELEASE (R171). -/
  | resRelease (t : Take)
  /-- RES_QUERY (R167). -/
  | resQuery (t : Take)
  /-- LINK_UP (R175). -/
  | linkUp (p : Port) (speed : Fin 8)
  /-- LINK_DOWN (R176). -/
  | linkDown (p : Port) (why : LinkLoss)
  /-- PHY_POLL (R180). -/
  | phyPoll (p : Port) (data : BitVec 16)
  /-- T_LANE_LOSS (R196). -/
  | tLaneLoss (lane : Fin 2)
  /-- FRAME_RX (R182). -/
  | frameRx (p : Port) (f : RxFrame)
  /-- PAUSE_RX (R194). -/
  | pauseRx (p : Port) (quanta : Fin 65536)
  /-- PFC_RX (R194). -/
  | pfcRx (p : Port) (vector : BitVec 8) (quanta : Fin 65536)
  /-- PAUSE_TIMER_EXPIRY (R194). -/
  | pauseTimerExpiry (p : Port) (prio : Option (Fin 8))
  /-- FLOW_CONTROL_XOFF (R195). -/
  | flowControlXoff (p : Port) (prio : Option (Fin 8))
  /-- FLOW_CONTROL_REFRESH (R195). -/
  | flowControlRefresh (p : Port) (prio : Option (Fin 8))
  /-- FLOW_CONTROL_XON (R195). -/
  | flowControlXon (p : Port) (prio : Option (Fin 8))
  /-- VERIFY_MPACKET_RX (R190). -/
  | verifyMpacketRx (p : Port) (respond : Bool)
  /-- VERIFY_TIMEOUT (R190). -/
  | verifyTimeout (p : Port)
  /-- FDB_AGE_EXPIRY (R208). -/
  | fdbAgeExpiry (mac : BitVec 48) (vid : BitVec 12)
  /-- BANK_COPY_DONE (R210). -/
  | bankCopyDone
  /-- MACSEC_OLD_AN_EXPIRY (R230). -/
  | macsecOldAnExpiry (p : Fin 2)
  /-- RECOVERY_RESET (R226). -/
  | recoveryReset (h : Fin 2048)
  /-- LATENT_TEST_END (R227). -/
  | latentTestEnd (h : Fin 2048)
  /-- FWD_HQHEAD_WRITE (R234). -/
  | fwdHqheadWrite (i : Initiator) (q : Fin 32) (v : Word)
  /-- FWD_HTTAIL_DOORBELL (R236). -/
  | fwdHttailDoorbell (i : Initiator) (q : Fin 8) (v : Word)
  /-- HOST_TX_TAKE (R236). -/
  | hostTxTake (q : Fin 8) (checkGood : Bool)
  /-- FRER_SEL_WRITE (R237). -/
  | frerSelWrite (i : Initiator) (v : Word)
  /-- CPL_CHANGE (R239). -/
  | cplChange (e : Fin 2) (closed : Bool) (linkFollows : Bool)
  /-- CALL_RX (R250). -/
  | callRx (p : Fin 2) (h : ChurnHdr) (cause : BitVec 8)
  /-- NO_PEER_TIMEOUT (R250). -/
  | noPeerTimeout (p : Fin 2)
  /-- CHURN_BEAT (R244). -/
  | churnBeat (p : Fin 2)
  /-- SURVEY_RX (R251). -/
  | surveyRx (p : Fin 2) (h : ChurnHdr) (sv : Survey)
  /-- PARTNER_LIST_RX (R252). -/
  | partnerListRx (l : PartnerList)
  /-- AGREE_RX (R257). -/
  | agreeRx (src : Option (Fin 2)) (h : ChurnHdr) (ag : Agree)
  /-- COMMIT_RX (R261). -/
  | commitRx (src : Option (Fin 2)) (h : ChurnHdr) (cm : Commit)
  /-- ATTEMPT_TIMEOUT (R265). -/
  | attemptTimeout
  /-- COMMIT_INSTANT (R263). -/
  | commitInstant
  /-- SPLIT_RETRY_EXPIRY (R266). -/
  | splitRetryExpiry
  /-- TTDP_HELLO_RX (R271). -/
  | ttdpHelloRx (p : Fin 2) (fast : Bool)
  /-- TTDP_TOPOLOGY_RX (R271). -/
  | ttdpTopologyRx (p : Fin 2)
  /-- TTDP_COMMIT (R272). -/
  | ttdpCommit (t : TtdpInaug)
  /-- ARP_REQUEST_RX (R281). -/
  | arpRequestRx (p : Port) (ip : BitVec 32) (askMac : BitVec 48) (askIp : BitVec 32)
  /-- TCFG_SEND (R291). -/
  | tcfgSend
  /-- TCFG_RX (R291). -/
  | tcfgRx (g : TcfgSeg) (sigGood : Bool)
  /-- TCFG_SEGMENT_TIMEOUT (R292). -/
  | tcfgSegmentTimeout
  /-- TCFG_CHURN_DELAY (R291). -/
  | tcfgChurnDelay
  /-- KEY_CHANGE_CHURN_DELAY (R292). -/
  | keyChangeChurnDelay
  /-- WORKER_HELLO_RX (R296). -/
  | workerHelloRx (w : WorkerHello)
  /-- WORKER_ACK_RX (R296). -/
  | workerAckRx (w : WorkerAck)
  /-- ASSIGN_RETRY (R296). -/
  | assignRetry (w : Fin 64)
  /-- ROSTER_BEAT_TIMEOUT (R296). -/
  | rosterBeatTimeout (w : Fin 64)
  /-- ROSTER_HOLD_EXPIRY (R296). -/
  | rosterHoldExpiry (w : Fin 64)
  /-- SYNC_RX (R304). -/
  | syncRx (d : Fin 2) (p : Port) (m : SyncMeas)
  /-- ANNOUNCE_RX (R303). -/
  | announceRx (d : Fin 2) (p : Port) (a : AnnounceMsg)
  /-- SYNC_INTERVAL (R303). -/
  | syncInterval (d : Fin 2) (announce : Bool)
  /-- PDELAY_EXCHANGE (R306). -/
  | pdelayExchange (p : Port) (ok : Bool) (delay : Fin 16777216)
  /-- SYNC_RECEIPT_TIMEOUT (R307). -/
  | syncReceiptTimeout (d : Fin 2)
  /-- ANNOUNCE_RECEIPT_TIMEOUT (R307). -/
  | announceReceiptTimeout (d : Fin 2) (next : Option AnnounceMsg)
  /-- REVERT_TIMER_EXPIRY (R308). -/
  | revertTimerExpiry
  /-- SLEW_DONE (R309). -/
  | slewDone
  /-- PPS_EDGE (R310). -/
  | ppsEdge (d : Fin 2) (inTime : Bool)
  /-- TIME_GM_SEC_WRITE (R310). -/
  | timeGmSecWrite (i : Initiator) (v : Word)
  /-- TWIN_SKEW_MEASURE (R312). -/
  | twinSkewMeasure (diff : Int)
  /-- CMP_HELD_ARM (R315). -/
  | cmpHeldArm (c : Fin 32)
  /-- CMP_FIRE (R317). -/
  | cmpFire (c : Fin 32)
  /-- CAPTURE_EDGE (R321). -/
  | captureEdge (n : Fin 8) (e : CapEdge)
  /-- TLG_PUBDB_WRITE (R333). -/
  | tlgPubdbWrite (i : Initiator) (v : Word) (checkGood : Bool)
  /-- TLG_CLAIM_WRITE (R343). -/
  | tlgClaimWrite (i : Initiator) (n : Fin 512) (claim : Bool)
  /-- TELEGRAM_RX (R338). -/
  | telegramRx (e : Fin 4) (t : Telegram)
  /-- SUBSCRIPTION_TIMEOUT (R344). -/
  | subscriptionTimeout (n : Fin 4096)
  /-- CAN_FRAME_RX (R357). -/
  | canFrameRx (m : Fin 4) (f : CanFrame)
  /-- CAN_TX_END (R358). -/
  | canTxEnd (m : Fin 4) (r : CanTxEnd)
  /-- BUS_OFF_RECOVERY_DONE (R369). -/
  | busOffRecoveryDone (m : Fin 4)
  /-- CAN_INTEGRATED (R354). -/
  | canIntegrated (m : Fin 4)
  /-- MBUS_TXDB_DOORBELL (R358). -/
  | mbusTxdbDoorbell (i : Initiator) (m : Fin 4) (v : Word) (checkGood : Bool)
  /-- MBUS_TXID_WRITE (R364). -/
  | mbusTxidWrite (i : Initiator) (m : Fin 4) (v : Word)
  /-- MBUS_RECOVER_WRITE (R369). -/
  | mbusRecoverWrite (i : Initiator) (m : Fin 4) (v : Word)
  /-- MBUS_QHEAD_WRITE (R360). -/
  | mbusQheadWrite (i : Initiator) (m : Fin 4) (q : Fin 4) (v : Word)
  /-- MBW_FLAG_CLEAR (R357). -/
  | mbwFlagClear (i : Initiator) (m : Fin 4) (k : Fin 256) (v : Word)
  /-- SCHED_WINDOW_OPEN (R363). -/
  | schedWindowOpen (m : Fin 4) (w : Fin 64)
  /-- SCHED_WINDOW_END (R363). -/
  | schedWindowEnd (m : Fin 4) (w : Fin 64) (onBus : Option (Fin 256))
  /-- TXD_DOMINANT_TIMEOUT (R372). -/
  | txdDominantTimeout (m : Fin 4)
  /-- BUS_DOMINANT_TIMEOUT (R372). -/
  | busDominantTimeout (m : Fin 4)
  /-- XCVR_OVERTEMP (R497). -/
  | xcvrOvertemp (m : Fin 4)
  /-- VCAN_LOW (R372). -/
  | vcanLow
  /-- CAN_TAKEOVER_UNGATE (R371). -/
  | canTakeoverUngate (m : Fin 4)
  /-- CAN_WAKE (R377). -/
  | canWake (m : Fin 4)
  /-- TOKEN_RX (R381). -/
  | tokenRx (f : SleepFrame)
  /-- ORDER_RX (R383). -/
  | orderRx (f : SleepFrame)
  /-- ABORT_RX (R385). -/
  | abortRx (f : SleepFrame)
  /-- RING_ROUND (R381). -/
  | ringRound
  /-- ROUND_RETURN (R381). -/
  | roundReturn (consent : BitVec 64)
  /-- ROUND_LOST (R381). -/
  | roundLost
  /-- AWAKE_TIMER_EXPIRY (R382). -/
  | awakeTimerExpiry
  /-- SLEEP_COMMIT_INSTANT (R383). -/
  | sleepCommitInstant
  /-- WAKE_REQUEST (R384). -/
  | wakeRequest (c : WakeCause)
  /-- FALSE_WAKE_EXPIRY (R390). -/
  | falseWakeExpiry
  /-- TL_PULSE_WRITE (R387). -/
  | tlPulseWrite (i : Initiator)
  /-- TL_PULSE_END (R387). -/
  | tlPulseEnd
  /-- BUS_RING_ROUND (R391). -/
  | busRingRound (m : Fin 4)
  /-- BUS_SLEEP_ENTRY (R391). -/
  | busSleepEntry (m : Fin 4)
  /-- BUS_FALSE_WAKE (R391). -/
  | busFalseWake (m : Fin 4)
  /-- LCH_CTL_EN_WRITE (R399). -/
  | lchCtlEnWrite (i : Initiator) (n : Fin 16) (v : Word)
  /-- CHANNEL_START_COMPLETE (R399). -/
  | channelStartComplete (n : Fin 16)
  /-- DEMAG_END (R409). -/
  | demagEnd (n : Fin 16)
  /-- CHANNEL_STOP_COMPLETE (R399). -/
  | channelStopComplete (n : Fin 16)
  /-- CHANNEL_TRIP (R397). -/
  | channelTrip (n : Fin 16)
  /-- THERMAL_SHUTDOWN (R399). -/
  | thermalShutdown (n : Fin 16)
  /-- RETRY_DUE (R399). -/
  | retryDue (n : Fin 16)
  /-- INRUSH_WINDOW_END (R400). -/
  | inrushWindowEnd (n : Fin 16)
  /-- GROUP_UNUSABLE (R406). -/
  | groupUnusable (g : Fin 4) (why : GroupFault)
  /-- GROUP_USABLE (R406). -/
  | groupUsable (g : Fin 4)
  /-- GROUP_VOLTAGE_CHANGE (R406). -/
  | groupVoltageChange (g : Fin 4) (band : VoltBand)
  /-- PGND_LOST (R407). -/
  | pgndLost
  /-- PGND_RESTORED (R407). -/
  | pgndRestored
  /-- ADC_SAMPLE (R411). -/
  | adcSample (codes : AdcSample)
  /-- IMBALANCE (R413). -/
  | imbalance (n : Fin 16) (beyond : Bool)
  /-- SEGMENT_FAIL (R404). -/
  | segmentFail (n : Fin 16) (seg : Fin 9)
  /-- FW_TEST_COMPLETE (R410). -/
  | fwTestComplete (n : Fin 16) (absent : Bool) (demagUs : Fin 65536)
  /-- PWM_PERIOD_START (R405). -/
  | pwmPeriodStart (n : Fin 16) (vg : Fin 65536)
  /-- RETRY_COUNT_RESET (R402). -/
  | retryCountReset (n : Fin 16)
  /-- TAKEOVER_TRIP_END (R413). -/
  | takeoverTripEnd
  /-- BUDGET_UPDATE (R414). -/
  | budgetUpdate (losses : LossSample)
  /-- JOURNAL_BLOCK_RX (R422). -/
  | journalBlockRx (b : JBlock)
  /-- BLOCK_APPLY (R423). -/
  | blockApply (digestsEqual : Bool)
  /-- PARTNER_MISS (R426). -/
  | partnerMiss
  /-- PFAIL_N_ASSERT (R426). -/
  | pfailNAssert
  /-- FENCE_ARBITRATION (R427). -/
  | fenceArbitration (fenceIn : Bool)
  /-- FENCE_IN_ASSERT (R428). -/
  | fenceInAssert
  /-- FENCE_IN_RELEASE (R428). -/
  | fenceInRelease
  /-- DRILL_DUE (R439). -/
  | drillDue
  /-- DRILL_TICK (R437). -/
  | drillTick
  /-- DRILL_VERIFY (R438). -/
  | drillVerify (failed : BitVec 16)
  /-- REJOIN_TICK_J (R433). -/
  | rejoinTickJ (snap : Option Snapshot)
  /-- REJOIN_TIMEOUT (R433). -/
  | rejoinTimeout
  /-- MAINT_EXPIRY (R448). -/
  | maintExpiry
  /-- KEYREQ_RX (R461). -/
  | keyreqRx (r : KeyReq)
  /-- KEYDIST_RX (R461). -/
  | keydistRx (k : KeyDist)
  /-- KEYREQ_RESEND (R461). -/
  | keyreqResend
  /-- TKR_CHURN_DELAY (R461). -/
  | tkrChurnDelay
  /-- RECORD_OCCURRENCE (R472). -/
  | recordOccurrence (source : Fin 65536) (code : Fin 65536) (payload : List Word)
  /-- COALESCE_FLUSH (R472). -/
  | coalesceFlush
  /-- RECORD_WRITE (R474). -/
  | recordWrite (w : BankWrites)
  /-- PARTNER_RECORD_RX (R477). -/
  | partnerRecordRx (r : Record)
  /-- WEAR_SAMPLE (R482). -/
  | wearSample (w : WearSample)
  /-- RESERVE_SAFE_POINT (R484). -/
  | reserveSafePoint (drill : Bool) (good : List Bool)
  /-- BAR2_WRITE (R115). -/
  | bar2Write (addr : Fin 67108864) (data : List Byte)
  /-- CONFIGURATION_REQUEST (R81). -/
  | configurationRequest
  /-- FUNCTION_LEVEL_RESET (R112). -/
  | functionLevelReset
  /-- SEL_CHANGE (R46). -/
  | selChange (v : BitVec 4)
  /-- HI_BER (R197). -/
  | hiBer (p : Port)
  /-- VCAN_IN_RANGE (R372). -/
  | vcanInRange
  /-- XCVR_THERMAL_RECOVERY (R497). -/
  | xcvrThermalRecovery (m : Fin 4)
  /-- CONTRIBUTION_LATE (R426). -/
  | contributionLate
  /-- ENGINE_SELF_CHECK_FAIL (R28). -/
  | engineSelfCheckFail (e : EngineId)
  /-- PPS_STOP (R310). -/
  | ppsStop (d : Fin 2)
  /-- TTDP_TIMER_EXPIRY (R271). -/
  | ttdpTimerExpiry (k : TtdpTimer)
  /-- EXTEST (R465). -/
  | extest
deriving DecidableEq, Repr

end Sys2Proof
end

