-- ==== Sys2Proof/WellFormed.lean ====
section
/-! DEFINITION. Which commands are well formed: operands within the sizes that the manual gives what crosses the boundary. Most operands
carry their range in their type. -/

namespace Sys2Proof

/-- A register write: a TLP of 1 to 512 bytes (R112) whose value fits. -/
def wfWriteReq (w : WriteReq) : Bool := decide (1 ≤ w.size ∧ w.size ≤ 512 ∧ w.value < 256 ^ w.size)

/-- A register read of 1 to 4,096 bytes (R112). -/
def wfReadReq (r : ReadReq) : Bool := decide (1 ≤ r.size ∧ r.size ≤ 4096)

/-- An AtomicOp of 32, 64 or 128 bits whose operands fit (R112, R127). -/
def wfAtomicReq (a : AtomicReq) : Bool :=
  decide ((a.size = 4 ∨ a.size = 8 ∨ a.size = 16) ∧ a.arg < 256 ^ a.size ∧ a.cmp < 256 ^ a.size ∧ a.remoteOld < 256 ^ a.size)

/-- A remote frame: at most 64 words, as many data words as it says where it carries register data, a block of 0 or 64 bytes (R118). -/
def wfRemoteFrame (f : RemoteFrame) : Bool :=
  decide (f.words ≤ 64 ∧ (f.data.length = 0 ∨ f.data.length = f.words) ∧ (f.block.length = 0 ∨ f.block.length = 64))

/-- A train configuration: at most 64 quotas of at most 64, at most 8 eligible managers (R289). -/
def wfTrainConfig (c : TrainConfig) : Bool :=
  decide (c.quotas.length ≤ 64 ∧ c.mgrEligible.length ≤ 8 ∧ c.ttdp.length = 24 ∧ c.churnSalt.length = 16 ∧ c.maintAuth.length = 64 ∧ c.bytes.length ≤ 16384)

/-- An image: registers inside pages, ports inside the device. -/
def wfImage (i : Image) : Bool :=
  i.writes.all (fun w => decide (w.1 < 4096 ∧ w.2.1 < 4096)) && i.locks.all (fun p => decide (p < 4096)) &&
  (match i.tcfg with | none => true | some c => wfTrainConfig c)

/-- The verdict of an image load. -/
def wfImageVerdict (v : ImageVerdict) : Bool := wfImage v.image

/-- A boot: the partner's image, where it comes, is well formed. -/
def wfBootInput (b : BootInput) : Bool :=
  match b.partner with
  | none => true
  | some p => match p.image with | none => true | some i => wfImage i

/-- A frame at a MAC: shorter than 16 KiB. -/
def wfRxFrame (f : RxFrame) : Bool := decide (f.bytes.length < 16384)

/-- A churn header: ATTEMPT 1 to 16 (R242). -/
def wfChurnHdr (h : ChurnHdr) : Bool := decide (1 ≤ h.attempt ∧ h.attempt ≤ 16)

/-- A survey of at most 64 entries, the originator's among them (R251). -/
def wfSurvey (v : Survey) : Bool := decide (1 ≤ v.entries.length ∧ v.entries.length ≤ 64)

/-- A partner list of at most 64 entries (R252). -/
def wfPartnerList (l : PartnerList) : Bool := decide (1 ≤ l.entries.length ∧ l.entries.length ≤ 64)

/-- A curd of 1 to 64 cars (R247). -/
def wfCurd (c : Curd) : Bool := decide (1 ≤ c.cars.length ∧ c.cars.length ≤ 64)

/-- An AGREE: a digest of 16 bytes and a curd (R248). -/
def wfAgree (a : Agree) : Bool := decide (a.digest.length = 16) && wfCurd a.curd

/-- A COMMIT: a digest of 16 bytes, COMMIT_IN of 32 bits (R248). -/
def wfCommit (c : Commit) : Bool := decide (c.digest.length = 16 ∧ c.commitIn < 2 ^ 32 ∧ c.residence < 2 ^ 32)

/-- A TTDP inauguration of 1 to 63 nodes' cars (R271). -/
def wfTtdpInaug (t : TtdpInaug) : Bool := decide (1 ≤ t.cars.length ∧ t.cars.length ≤ 63)

/-- A TCFG segment: 1 to 1,024 bytes, index below count, count 1 to 16 (R290). -/
def wfTcfgSeg (g : TcfgSeg) : Bool :=
  decide (1 ≤ g.data.length ∧ g.data.length ≤ 1024 ∧ g.index < g.count ∧ g.count ≤ 16 ∧ g.total ≤ 16384)

/-- A worker HELLO: index 0 to 64 (R295). -/
def wfWorkerHello (w : WorkerHello) : Bool := decide (w.lastIndex ≤ 64)

/-- A worker ACK: index 0 to 64 (R295). -/
def wfWorkerAck (w : WorkerAck) : Bool := decide (w.index ≤ 64)

/-- A telegram with a dataset no longer than an Ethernet frame holds (R338). -/
def wfTelegram (t : Telegram) : Bool := decide (t.dataset.length ≤ 9600 ∧ t.datasetLen < 2 ^ 32 ∧ t.udpLen < 2 ^ 16)

/-- A CAN frame: data within its format (R355). -/
def wfCanFrame (f : CanFrame) : Bool :=
  decide (f.data.length ≤ (if f.format.val = 0 then 8 else if f.format.val = 1 then 64 else 2048) ∧ f.dlc < 2048)

/-- One conversion covers the sixteen channels (R411). -/
def wfAdcSample (a : AdcSample) : Bool := decide (a.codes.length = 16)

/-- The losses of sixteen channels and the temperatures of four clusters (R414, R417). -/
def wfLossSample (l : LossSample) : Bool :=
  decide (l.loss.length = 16 ∧ l.temps.length = 4) && l.loss.all (fun x => decide (x < 65536)) && l.temps.all (fun x => decide (x < 256))

/-- A descriptor is 64 bytes (R133). -/
def wfDescriptor (d : Descriptor) : Bool := decide (d.bytes.length = 64)

/-- An entry of a contribution: class 1 to 5 (R421). -/
def wfJEntry (e : JEntry) : Bool :=
  decide (1 ≤ e.cls.val) &&
  (match e.item with
   | .command d => wfDescriptor d
   | .telegram _ t => wfTelegram t
   | .can _ f => wfCanFrame f
   | .write .. => true
   | .links _ => true
   | .capture .. => true
   | .trip .. => true
   | .sample a => wfAdcSample a
   | .shed _ => true
   | .pubData _ l => decide (l.length ≤ 1432)
   | .objData _ _ l => decide (l.length ≤ 2048)
   | .canEnd .. => true
   | .hello w => wfWorkerHello w
   | .ack w => wfWorkerAck w
   | .learned .. => true
   | .drillAsk => true
   | .churn _ a => decide (a.val ≠ 0))

/-- A journal block (R422): fewer than 65,536 entries. -/
def wfJBlock (b : JBlock) : Bool := decide (b.entries.length < 65536) && b.entries.all wfJEntry

/-- A train key root is 32 bytes (R460). -/
def wfKeyDist (k : KeyDist) : Bool := decide (k.root.length = 32)

/-- A record of a partner: eight payload words (R468). -/
def wfRecord (r : Record) : Bool := decide (r.payload.length = 8 ∧ r.source < 65536 ∧ r.code < 65536 ∧ r.rpt < 2 ^ 32 ∧ r.span < 65536)

/-- A wear sample in 0.1 % of the REPAIR limit, 16 bits (R491). -/
def wfWearSample (w : WearSample) : Bool := decide (w.permille < 65536)

/-- A 32-bit sequence number or TAG. -/
def wfSeq (n : Nat) : Bool := decide (n < 2 ^ 32)

/-- A record payload of at most eight words (R468). -/
def wfPayload (l : List Word) : Bool := decide (l.length ≤ 8)

/-- A write to BAR2 of 1 to 512 bytes (R112, R115). -/
def wfBar2Data (l : List Byte) : Bool := decide (1 ≤ l.length ∧ l.length ≤ 512)

/-- Addresses inside device memory, strictly rising. -/
def wfCells : List (Nat × Byte) → Bool
  | [] => true
  | [c] => decide (c.1 < 2 ^ 26)
  | c :: d :: t => decide (c.1 < d.1) && wfCells (d :: t)

/-- A snapshot: device memory as a sparse table (R434). -/
def wfSnapshot (o : Option Machine.Snapshot) : Bool := match o with | none => true | some x => wfCells x.mem

/-- The read-backs of at most sixteen entries: two tries of eight repairs (R484, R486). -/
def wfReadbacks (l : List Bool) : Bool := decide (l.length ≤ 16)

/-- A command is well formed when each of its operands is. -/
def wellFormed : Instr → Bool
  | .powerOn => true
  | .railOutOfRange => true
  | .vparkFall => true
  | .rstNAssert => true
  | .nodeResetCmdDelay => true
  | .perstNAssert => true
  | .pcieLinkChange _ _ _ => true
  | .trstNAssert => true
  | .boot b => wfBootInput b
  | .refQualify _ _ => true
  | .refSelectTimeout => true
  | .refLoss => true
  | .refFailoverDone => true
  | .holdoverExpiry => true
  | .vhvReturn _ => true
  | .internalLinkFrame _ => true
  | .internalLinkTimeout => true
  | .nodeAliveStop => true
  | .lineDieTimeout => true
  | .lockstepMismatch _ _ => true
  | .tempHigh => true
  | .overtempShutdown => true
  | .pageScrub => true
  | .parkCommandInstant => true
  | .parkLatchCheck => true
  | .wakeInPark _ => true
  | .railEnReassert => true
  | .registerWrite w => wfWriteReq w
  | .registerReadLatch r => wfReadReq r
  | .counterReadClear _ _ _ => true
  | .pageEnWrite _ _ _ => true
  | .blockStartComplete _ => true
  | .blockStopComplete _ => true
  | .blkRst _ _ => true
  | .lockWrite _ _ _ => true
  | .shadowCommit _ _ => true
  | .shadowDiscard _ _ => true
  | .evPendClear _ _ _ => true
  | .evEnWrite _ _ _ => true
  | .evRouteWrite _ _ _ => true
  | .evcSwset _ _ => true
  | .evcSwpendClear _ _ => true
  | .evcSwenWrite _ _ _ => true
  | .evcLmapWrite _ _ _ => true
  | .evcFaultClear _ => true
  | .devRstcauseClear _ _ => true
  | .atomicOp a => wfAtomicReq a
  | .lockedRead => true
  | .brgSemAcquire _ _ _ => true
  | .brgSemRelease _ _ => true
  | .semHoldTimeout _ => true
  | .atomicSemTimeout a => wfAtomicReq a
  | .brgRwinTgtWrite _ _ _ => true
  | .remoteApertureWrite _ _ _ _ => true
  | .remoteApertureRead _ _ _ => true
  | .remoteFrameSend _ => true
  | .remoteRetransmit seq => wfSeq seq
  | .remoteSendTimeout seq => wfSeq seq
  | .remoteReadTimeout seq => wfSeq seq
  | .writeAckRx f => wfRemoteFrame f
  | .readReplyRx f => wfRemoteFrame f
  | .remoteWriteRx f => wfRemoteFrame f
  | .remoteReadRx f => wfRemoteFrame f
  | .remoteCommandRx f _ => wfRemoteFrame f
  | .remoteResponseRx f => wfRemoteFrame f
  | .remoteCompletionRx f _ => wfRemoteFrame f
  | .brgFqheadWrite _ _ => true
  | .brgRcdbDoorbell _ _ _ => true
  | .brgRrheadWrite _ _ _ => true
  | .cmdSqtailDoorbell _ _ _ => true
  | .cmdRqheadWrite _ _ _ => true
  | .cmdCrheadWrite _ _ => true
  | .nop _ => true
  | .devInfo _ => true
  | .devStatus _ => true
  | .devReset _ => true
  | .cfgImageLoad _ => true
  | .cfgImageLoadDone _ v => wfImageVerdict v
  | .cfgImageActivate _ => true
  | .cfgCommit _ => true
  | .cfgInfo _ => true
  | .portSet _ => true
  | .portSetDone _ => true
  | .portStatus _ => true
  | .portCntSnap _ => true
  | .portMdio _ _ => true
  | .fdbSet _ => true
  | .sepRuleSet _ => true
  | .streamSet _ => true
  | .gclLoad _ => true
  | .gclTakesForce _ => true
  | .gateChange _ => true
  | .fwdBankCopy _ => true
  | .churnStart _ => true
  | .churnSetLead _ => true
  | .churnMode _ => true
  | .curdRead _ => true
  | .timeStatus _ => true
  | .timeSelect _ => true
  | .cmpArm _ => true
  | .cmpDisarm _ => true
  | .capRead _ => true
  | .pubSet _ => true
  | .subSet _ => true
  | .tlgEnable _ => true
  | .routeSet _ => true
  | .tlgStatus _ => true
  | .mbTiming _ => true
  | .mbObjSet _ _ => true
  | .mbSchedLoad _ => true
  | .mbCancel _ _ => true
  | .mbClashRearm _ => true
  | .mbStatus _ => true
  | .sleepConsent _ => true
  | .sleepOrder _ => true
  | .sleepPark _ => true
  | .sleepTimes _ => true
  | .xcvrSet _ => true
  | .sleepStatus _ => true
  | .lchSet _ => true
  | .lchConfig _ => true
  | .lchProfile _ => true
  | .lchClear _ => true
  | .lchFwTest _ => true
  | .lchStatus _ => true
  | .isnsSelect _ => true
  | .twinStatus _ => true
  | .swapDrill _ => true
  | .twinRejoin _ _ => true
  | .twinFence _ => true
  | .drillPeriod _ => true
  | .keyDerive _ => true
  | .keyInvalidate _ => true
  | .keyStatus _ => true
  | .lcAdvance _ => true
  | .lcAdvanceDone _ => true
  | .attSign _ => true
  | .attSignDone => true
  | .attRead _ => true
  | .recRead _ => true
  | .recExport _ => true
  | .recExportDone => true
  | .recUser _ => true
  | .recStatus _ => true
  | .rsvStatus _ => true
  | .rsvLedger _ => true
  | .rsvSchedule _ => true
  | .remoteSync _ => true
  | .remoteSyncDone tag => wfSeq tag
  | .remoteStatus _ => true
  | .resClaim _ => true
  | .resRelease _ => true
  | .resQuery _ => true
  | .linkUp _ _ => true
  | .linkDown _ _ => true
  | .phyPoll _ _ => true
  | .tLaneLoss _ => true
  | .frameRx _ f => wfRxFrame f
  | .pauseRx _ _ => true
  | .pfcRx _ _ _ => true
  | .pauseTimerExpiry _ _ => true
  | .flowControlXoff _ _ => true
  | .flowControlRefresh _ _ => true
  | .flowControlXon _ _ => true
  | .verifyMpacketRx _ _ => true
  | .verifyTimeout _ => true
  | .fdbAgeExpiry _ _ => true
  | .bankCopyDone => true
  | .macsecOldAnExpiry _ => true
  | .recoveryReset _ => true
  | .latentTestEnd _ => true
  | .fwdHqheadWrite _ _ _ => true
  | .fwdHttailDoorbell _ _ _ => true
  | .hostTxTake _ _ => true
  | .frerSelWrite _ _ => true
  | .cplChange _ _ _ => true
  | .callRx _ h _ => wfChurnHdr h
  | .noPeerTimeout _ => true
  | .churnBeat _ => true
  | .surveyRx _ h sv => wfChurnHdr h && wfSurvey sv
  | .partnerListRx l => wfPartnerList l
  | .agreeRx _ h ag => wfChurnHdr h && wfAgree ag
  | .commitRx _ h cm => wfChurnHdr h && wfCommit cm
  | .attemptTimeout => true
  | .commitInstant => true
  | .splitRetryExpiry => true
  | .ttdpHelloRx _ _ => true
  | .ttdpTopologyRx _ => true
  | .ttdpCommit t => wfTtdpInaug t
  | .arpRequestRx _ _ _ _ => true
  | .tcfgSend => true
  | .tcfgRx g _ => wfTcfgSeg g
  | .tcfgSegmentTimeout => true
  | .tcfgChurnDelay => true
  | .keyChangeChurnDelay => true
  | .workerHelloRx w => wfWorkerHello w
  | .workerAckRx w => wfWorkerAck w
  | .assignRetry _ => true
  | .rosterBeatTimeout _ => true
  | .rosterHoldExpiry _ => true
  | .syncRx _ _ _ => true
  | .announceRx _ _ _ => true
  | .syncInterval _ _ => true
  | .pdelayExchange _ _ _ => true
  | .syncReceiptTimeout _ => true
  | .announceReceiptTimeout _ _ => true
  | .revertTimerExpiry => true
  | .slewDone => true
  | .ppsEdge _ _ => true
  | .timeGmSecWrite _ _ => true
  | .twinSkewMeasure _ => true
  | .cmpHeldArm _ => true
  | .cmpFire _ => true
  | .captureEdge _ _ => true
  | .tlgPubdbWrite _ _ _ => true
  | .tlgClaimWrite _ _ _ => true
  | .telegramRx _ t => wfTelegram t
  | .subscriptionTimeout _ => true
  | .canFrameRx _ f => wfCanFrame f
  | .canTxEnd _ _ => true
  | .busOffRecoveryDone _ => true
  | .canIntegrated _ => true
  | .mbusTxdbDoorbell _ _ _ _ => true
  | .mbusTxidWrite _ _ _ => true
  | .mbusRecoverWrite _ _ _ => true
  | .mbusQheadWrite _ _ _ _ => true
  | .mbwFlagClear _ _ _ _ => true
  | .schedWindowOpen _ _ => true
  | .schedWindowEnd _ _ _ => true
  | .txdDominantTimeout _ => true
  | .busDominantTimeout _ => true
  | .xcvrOvertemp _ => true
  | .vcanLow => true
  | .canTakeoverUngate _ => true
  | .canWake _ => true
  | .tokenRx _ => true
  | .orderRx _ => true
  | .abortRx _ => true
  | .ringRound => true
  | .roundReturn _ => true
  | .roundLost => true
  | .awakeTimerExpiry => true
  | .sleepCommitInstant => true
  | .wakeRequest _ => true
  | .falseWakeExpiry => true
  | .tlPulseWrite _ => true
  | .tlPulseEnd => true
  | .busRingRound _ => true
  | .busSleepEntry _ => true
  | .busFalseWake _ => true
  | .lchCtlEnWrite _ _ _ => true
  | .channelStartComplete _ => true
  | .demagEnd _ => true
  | .channelStopComplete _ => true
  | .channelTrip _ => true
  | .thermalShutdown _ => true
  | .retryDue _ => true
  | .inrushWindowEnd _ => true
  | .groupUnusable _ _ => true
  | .groupUsable _ => true
  | .groupVoltageChange _ _ => true
  | .pgndLost => true
  | .pgndRestored => true
  | .adcSample codes => wfAdcSample codes
  | .imbalance _ _ => true
  | .segmentFail _ _ => true
  | .fwTestComplete _ _ _ => true
  | .pwmPeriodStart _ _ => true
  | .retryCountReset _ => true
  | .takeoverTripEnd => true
  | .budgetUpdate losses => wfLossSample losses
  | .journalBlockRx b => wfJBlock b
  | .blockApply _ => true
  | .partnerMiss => true
  | .pfailNAssert => true
  | .fenceArbitration _ => true
  | .fenceInAssert => true
  | .fenceInRelease => true
  | .drillDue => true
  | .drillTick => true
  | .drillVerify _ => true
  | .rejoinTickJ snap => wfSnapshot snap
  | .rejoinTimeout => true
  | .maintExpiry => true
  | .keyreqRx _ => true
  | .keydistRx k => wfKeyDist k
  | .keyreqResend => true
  | .tkrChurnDelay => true
  | .recordOccurrence _ _ payload => wfPayload payload
  | .coalesceFlush => true
  | .recordWrite _ => true
  | .partnerRecordRx r => wfRecord r
  | .wearSample w => wfWearSample w
  | .reserveSafePoint _ good => wfReadbacks good
  | .bar2Write _ data => wfBar2Data data
  | .configurationRequest => true
  | .functionLevelReset => true
  | .selChange _ => true
  | .hiBer _ => true
  | .vcanInRange => true
  | .xcvrThermalRecovery _ => true
  | .contributionLate => true
  | .engineSelfCheckFail _ => true
  | .ppsStop _ => true
  | .ttdpTimerExpiry _ => true
  | .extest => true

end Sys2Proof
end

