-- ==== Sys2Proof/Decode.lean ====
section
/-! DEFINITION. The decoder asked of a block: spec/opcode_table.json gives its rows no bits (every row has an empty field list and no
encoding), so no word spells a command. -/

namespace Sys2Proof

/-- The command that a word of nbits bits spells by the bits of spec/opcode_table.json: none, since the table gives no row bits. -/
def decodeTableWord (_nbits _w : Nat) : Option Instr := none

end Sys2Proof
end

