-- ==== Sys2Proof/Config.lean ====
section
/-! DEFINITION. What one module fixes and what the manual leaves open. Every opaque constant here has no body: a claim holds for every value
of it (log entries 3, 4 and 5). -/

namespace Sys2Proof.Config

/-- The node die ID that DEV_INFO returns; Eblek assigns it (R150, R276). -/
opaque nodeDie : BitVec 64

/-- The line die ID (R150). -/
opaque lineDie : BitVec 64

/-- The record die ID (R150). -/
opaque recordDie : BitVec 64

/-- SHA3-512 of FIPS 202 (R14): the manual names the standard and does not restate it. -/
opaque sha3 : List Byte → List Byte

/-- KMAC256 of NIST SP 800-185 (R14, R454): key, X, output bytes, customization string. -/
opaque kmac : List Byte → List Byte → Nat → List Byte → List Byte

/-- An ML-DSA-87 signature by the identity key over a message (R462). -/
opaque sign : List Byte → List Byte

/-- The device identity public key (R462, R463). -/
opaque identityKey : List Byte

/-- A ciphertext of ML-KEM-1024 and the wrapped root it carries (R460, R461): root and a fresh number. -/
opaque kemWrap : List Byte → Nat → List Byte

/-- The node's ML-KEM-1024 encapsulation key (R460). -/
opaque kemKey : List Byte

/-- The vendor starter, burned in FACTORY (R445). -/
opaque vendorStarter : List Byte

/-- The integrator starter that an enrolment payload carries for this node: decapsulation under slot 3 and AES-256-GCM (R447). -/
opaque unwrapStarter : List Byte → List Byte

/-- The random source of the node: the n-th draw (R445, R461). -/
opaque random : Nat → List Byte

/-- The n-th free value: a number the manual leaves open. -/
opaque freeNat : Nat → Nat

/-- The fuse digest of the Mbatis statement over the fuse words (R462): the fuse layout is not in the manual. -/
opaque fuseDigest : List Byte

/-- The ROM digest measured in boot Step 4 (R462). -/
opaque romDigest : List Byte

/-- The safety code SC-32 and the SID of IEC 61375-2-3 Annex B (R345): SMI, user data version, consist UID, topography counter, dataset. -/
opaque sdtCode : Nat → Nat → Nat → Nat → List Byte → Nat

/-- The header FCS of IEC 61375-2-3 over bytes 0 to 35 of the process-data header (R326). -/
opaque trdpFcs : List Byte → Nat

/-- The ETB topography counter of IEC 61375-2-5 (R327): the manual names the standard and does not restate it. -/
opaque etbTopo : Nat → Nat

end Sys2Proof.Config
end

