-- ==== Sys2Proof/Machine/State.lean ====
section
/-! DEFINITION. The state of the node: plain data. Registers live in one sparse register file at field granularity (regs, shadow);
what no page shows lives in the structures of Parts.lean. -/

namespace Sys2Proof.Machine

/-! ## The state -/

/-- The state of the node. pending is the queue of commands that wait, first in, first out; out is the model's log of what left the node;
free counts the free values drawn so far; vecs are the MSI-X vectors and irq the IRQ balls that have an asserted source (R111). -/
structure State where
  pending : List Instr
  phase : Phase
  regs : Cells
  shadow : Cells
  latch : List ((Nat × Nat) × Nat)
  pages : List (Nat × PageSt)
  events : BitVec 512
  vecs : BitVec 16
  irq : BitVec 4
  bar2 : List Host.Cell
  out : List Output
  free : Nat
  park : ParkSt
  line : LineSt
  clk : ClkSt
  fuses : FuseSt
  store : StoreSt
  claims : List Claim
  accepted : List Accepted
  remote : RemoteSt
  semWait : List WaitWrite
  fwd : FwdSt
  ports : List (Nat × PortSt)
  churn : ChurnSt
  roster : RosterSt
  tcfg : TcfgSt
  time : TimeSt
  tlg : TlgSt
  mbus : List (Nat × MbusSt)
  sleep : SleepSt
  load : LoadSt
  twin : TwinSt
  keys : KeySt
  rcd : RecSt
  rsv : RsvSt
deriving DecidableEq, Repr

/-! ## Stops -/

/-- The node never stops the model with a fault: every manual fault is an effect on the state (R18, R72, R85, R105, R137). No command raises it. -/
inductive Fault where
  /-- Never raised by any command; kept so that the type has a name. Safe. -/
  | none
deriving DecidableEq, Repr

/-- Refusals of the model. -/
inductive Refusal where
  /-- Raised by a command of Dispatch.lean that has no meaning yet. Safe. -/
  | notModelled (mnemonic : String)
deriving DecidableEq, Repr

/-! ## Reset -/

/-- The machine right after a power-on reset: every register at its reset value, the node die held in reset until BOOT (R75, R81),
the life-cycle state CUSTOMIZE, not enrolled (R444), both banks of device memory with nothing listed. -/
def State.reset : State where
  pending := []
  phase := .reset
  regs := []
  shadow := []
  latch := []
  pages := []
  events := 0
  vecs := 0
  irq := 0
  bar2 := []
  out := []
  free := 0
  park := ⟨true, 0x0F, 0, false, 0x0E, false, false, false⟩
  line := ⟨false, false, false, false, 0, [2, 2, 2, 2], 0⟩
  clk := ⟨false, false, false, false, false, false⟩
  fuses := ⟨1, false, none, false, [], [], [], [], false, 1, 6, 1⟩
  store := ⟨none, none, false, false, none, 0, none, [], none, [], [], 0, 0, 0, false, true⟩
  claims := []
  accepted := []
  remote := ⟨[], [], [], [], [], [], 0, 0, 0, 0, [], []⟩
  semWait := []
  fwd := ⟨Bank.init, Bank.init, [], [], [], [], [], [], [], 0, [], [], []⟩
  ports := []
  churn := ChurnSt.init
  roster := ⟨[], [], [], []⟩
  tcfg := ⟨none, none, 0, 0, 0, [], false, false, false, 4000⟩
  time := ⟨0, 4 * 2 ^ 40, DomSt.init, DomSt.init, none, 0, 0, [], [], [], 0, false, [], [], 0, [], []⟩
  tlg := ⟨[], [], [], [], 0⟩
  mbus := []
  sleep := ⟨0, false, 0, none, none, 0, [], 0, 0, 0, none⟩
  load := ⟨[], [], 0, true, 0, 0xFF, false⟩
  twin := ⟨[], none, 0, 0, 0, 0, none, 0, 0, none, 0, false, none, true, 0, 0, 0⟩
  keys := ⟨[], none, none, none, false, 0, false, none, none, false⟩
  rcd := ⟨[], none, 0, 0, 0, 0, [], [], [], [], 0, [], false⟩
  rsv := ⟨[], [], false⟩

end Sys2Proof.Machine
end

