-- ==== Sys2Proof/Machine/RegMap.lean ====
section
/-! DEFINITION. The register map: one constant per register field of the register tables of spec/ (its key, width and reset value),
and per page the rows that a register access uses. A field's name is the register's full name (00_scope, R7 and "Reading register
tables"). A field of an indexed register takes the index n; a field of a page with several instances takes the instance p.
Reset values F and S (R10) are loaded by BOOT and stand here as 0. -/

namespace Sys2Proof.Machine

/-- A row of a register table: offset of index 0, stride and count of the index, low bit, the field of index n, its type. -/
structure Row where
  off : Nat
  stride : Nat
  count : Nat
  lo : Nat
  fld : Nat → Fld
  ty : RTy

/-! ## DEV (page 0x000; 03_clocks_reset_boot.md, R74) -/

/-- DEV_CLKSTAT_FAILOVER_CNT, offset 0x040, bits [31:16] (R74). -/
def DEV_CLKSTAT_FAILOVER_CNT : Fld := ⟨2064, 16, 0⟩
/-- DEV_CLKSTAT_DOM_RUN, offset 0x040, bits [15:8] (R74). -/
def DEV_CLKSTAT_DOM_RUN : Fld := ⟨2056, 8, 0⟩
/-- DEV_CLKSTAT_REFB_LEDGER, offset 0x040, bits [5:5] (R74). -/
def DEV_CLKSTAT_REFB_LEDGER : Fld := ⟨2053, 1, 0⟩
/-- DEV_CLKSTAT_REF_DISAGREE, offset 0x040, bits [4:4] (R74). -/
def DEV_CLKSTAT_REF_DISAGREE : Fld := ⟨2052, 1, 0⟩
/-- DEV_CLKSTAT_HOLDOVER, offset 0x040, bits [3:3] (R74). -/
def DEV_CLKSTAT_HOLDOVER : Fld := ⟨2051, 1, 0⟩
/-- DEV_CLKSTAT_REFB_OK, offset 0x040, bits [2:2] (R74). -/
def DEV_CLKSTAT_REFB_OK : Fld := ⟨2050, 1, 0⟩
/-- DEV_CLKSTAT_REFA_OK, offset 0x040, bits [1:1] (R74). -/
def DEV_CLKSTAT_REFA_OK : Fld := ⟨2049, 1, 0⟩
/-- DEV_CLKSTAT_REF_SEL, offset 0x040, bits [0:0] (R74). -/
def DEV_CLKSTAT_REF_SEL : Fld := ⟨2048, 1, 0⟩
/-- DEV_RSTCAUSE_WAKE_CAN, offset 0x044, bits [23:20] (R80). -/
def DEV_RSTCAUSE_WAKE_CAN : Fld := ⟨2196, 4, 0⟩
/-- DEV_RSTCAUSE_WAKE_LEAD, offset 0x044, bits [19:19] (R80). -/
def DEV_RSTCAUSE_WAKE_LEAD : Fld := ⟨2195, 1, 0⟩
/-- DEV_RSTCAUSE_WAKE_CPL2, offset 0x044, bits [18:18] (R80). -/
def DEV_RSTCAUSE_WAKE_CPL2 : Fld := ⟨2194, 1, 0⟩
/-- DEV_RSTCAUSE_WAKE_CPL1, offset 0x044, bits [17:17] (R80). -/
def DEV_RSTCAUSE_WAKE_CPL1 : Fld := ⟨2193, 1, 0⟩
/-- DEV_RSTCAUSE_WAKE_TL, offset 0x044, bits [16:16] (R80). -/
def DEV_RSTCAUSE_WAKE_TL : Fld := ⟨2192, 1, 0⟩
/-- DEV_RSTCAUSE_LINEFAIL, offset 0x044, bits [7:7] (R80). -/
def DEV_RSTCAUSE_LINEFAIL : Fld := ⟨2183, 1, 0⟩
/-- DEV_RSTCAUSE_REFHALT, offset 0x044, bits [6:6] (R80). -/
def DEV_RSTCAUSE_REFHALT : Fld := ⟨2182, 1, 0⟩
/-- DEV_RSTCAUSE_PARK_ABORT, offset 0x044, bits [5:5] (R80). -/
def DEV_RSTCAUSE_PARK_ABORT : Fld := ⟨2181, 1, 0⟩
/-- DEV_RSTCAUSE_PARK, offset 0x044, bits [4:4] (R80). -/
def DEV_RSTCAUSE_PARK : Fld := ⟨2180, 1, 0⟩
/-- DEV_RSTCAUSE_CMD, offset 0x044, bits [3:3] (R80). -/
def DEV_RSTCAUSE_CMD : Fld := ⟨2179, 1, 0⟩
/-- DEV_RSTCAUSE_PIN, offset 0x044, bits [2:2] (R80). -/
def DEV_RSTCAUSE_PIN : Fld := ⟨2178, 1, 0⟩
/-- DEV_RSTCAUSE_RAIL, offset 0x044, bits [1:1] (R80). -/
def DEV_RSTCAUSE_RAIL : Fld := ⟨2177, 1, 0⟩
/-- DEV_RSTCAUSE_POR, offset 0x044, bits [0:0] (R80). -/
def DEV_RSTCAUSE_POR : Fld := ⟨2176, 1, 1⟩
/-- DEV_BOOTSTAT_BOOT_TIME, offset 0x048, bits [31:16] (R86). -/
def DEV_BOOTSTAT_BOOT_TIME : Fld := ⟨2320, 16, 65535⟩
/-- DEV_BOOTSTAT_LINE_DIE_FAIL, offset 0x048, bits [10:10] (R86). -/
def DEV_BOOTSTAT_LINE_DIE_FAIL : Fld := ⟨2314, 1, 0⟩
/-- DEV_BOOTSTAT_JOIN_WAIT, offset 0x048, bits [9:9] (R86). -/
def DEV_BOOTSTAT_JOIN_WAIT : Fld := ⟨2313, 1, 0⟩
/-- DEV_BOOTSTAT_SOLO_BOOT, offset 0x048, bits [8:8] (R86). -/
def DEV_BOOTSTAT_SOLO_BOOT : Fld := ⟨2312, 1, 0⟩
/-- DEV_BOOTSTAT_UNCONFIGURED, offset 0x048, bits [7:7] (R86). -/
def DEV_BOOTSTAT_UNCONFIGURED : Fld := ⟨2311, 1, 0⟩
/-- DEV_BOOTSTAT_IMAGE_FALLBACK, offset 0x048, bits [6:6] (R86). -/
def DEV_BOOTSTAT_IMAGE_FALLBACK : Fld := ⟨2310, 1, 0⟩
/-- DEV_BOOTSTAT_MEASURE_FAIL, offset 0x048, bits [5:5] (R86). -/
def DEV_BOOTSTAT_MEASURE_FAIL : Fld := ⟨2309, 1, 0⟩
/-- DEV_BOOTSTAT_SELFTEST_FAIL, offset 0x048, bits [4:4] (R86). -/
def DEV_BOOTSTAT_SELFTEST_FAIL : Fld := ⟨2308, 1, 0⟩
/-- DEV_BOOTSTAT_STEP, offset 0x048, bits [3:0] (R86). -/
def DEV_BOOTSTAT_STEP : Fld := ⟨2304, 4, 0⟩
/-- DEV_TCFG, offset 0x080, bits [31:0] (R299). -/
def DEV_TCFG : Fld := ⟨4096, 32, 0⟩
/-- DEV_TCFG_PEND, offset 0x084, bits [31:0] (R299). -/
def DEV_TCFG_PEND : Fld := ⟨4224, 32, 0⟩
/-- DEV_TCFG_STAT_INVALID, offset 0x088, bits [1:1] (R299). -/
def DEV_TCFG_STAT_INVALID : Fld := ⟨4353, 1, 0⟩
/-- DEV_TCFG_STAT_OLDER, offset 0x088, bits [0:0] (R299). -/
def DEV_TCFG_STAT_OLDER : Fld := ⟨4352, 1, 0⟩
/-- DEV_ROLE_HANDLE, offset 0x08C, bits [31:16] (R299). -/
def DEV_ROLE_HANDLE : Fld := ⟨4496, 16, 0⟩
/-- DEV_ROLE_TWIN, offset 0x08C, bits [8:8] (R299). -/
def DEV_ROLE_TWIN : Fld := ⟨4488, 1, 0⟩
/-- DEV_ROLE_SELF, offset 0x08C, bits [0:0] (R299). -/
def DEV_ROLE_SELF : Fld := ⟨4480, 1, 0⟩
/-- DEV_ROSTER_REACHED, offset 0x090, bits [24:24] (R299). -/
def DEV_ROSTER_REACHED : Fld := ⟨4632, 1, 0⟩
/-- DEV_ROSTER_LOST, offset 0x090, bits [23:16] (R299). -/
def DEV_ROSTER_LOST : Fld := ⟨4624, 8, 0⟩
/-- DEV_ROSTER_QUOTA, offset 0x090, bits [15:8] (R299). -/
def DEV_ROSTER_QUOTA : Fld := ⟨4616, 8, 0⟩
/-- DEV_ROSTER_PRESENT, offset 0x090, bits [7:0] (R299). -/
def DEV_ROSTER_PRESENT : Fld := ⟨4608, 8, 0⟩
/-- DEV_WRK_UIDn, offset 0x400 + 0x10 n, bits [63:0] (R299). -/
def DEV_WRK_UID (n : Nat) : Fld := ⟨32768 + n * 512, 64, 0⟩
/-- DEV_WRK_STATE_LINK2n, offset 0x408 + 0x10 n, bits [23:16] (R299). -/
def DEV_WRK_STATE_LINK2 (n : Nat) : Fld := ⟨33040 + n * 512, 8, 255⟩
/-- DEV_WRK_STATE_LINK1n, offset 0x408 + 0x10 n, bits [15:8] (R299). -/
def DEV_WRK_STATE_LINK1 (n : Nat) : Fld := ⟨33032 + n * 512, 8, 255⟩
/-- DEV_WRK_STATEn, offset 0x408 + 0x10 n, bits [7:0] (R299). -/
def DEV_WRK_STATE (n : Nat) : Fld := ⟨33024 + n * 512, 8, 0⟩
/-- DEV_WRK_AGEn, offset 0x40C + 0x10 n, bits [31:0] (R299). -/
def DEV_WRK_AGE (n : Nat) : Fld := ⟨33152 + n * 512, 32, 0⟩

/-- Rows of the DEV page. -/
def devRows0 : List Row :=
  [⟨64, 0, 1, 16, (fun _ => DEV_CLKSTAT_FAILOVER_CNT), .ro⟩,
   ⟨64, 0, 1, 8, (fun _ => DEV_CLKSTAT_DOM_RUN), .ro⟩,
   ⟨64, 0, 1, 5, (fun _ => DEV_CLKSTAT_REFB_LEDGER), .fz⟩,
   ⟨64, 0, 1, 4, (fun _ => DEV_CLKSTAT_REF_DISAGREE), .ro⟩,
   ⟨64, 0, 1, 3, (fun _ => DEV_CLKSTAT_HOLDOVER), .ro⟩,
   ⟨64, 0, 1, 2, (fun _ => DEV_CLKSTAT_REFB_OK), .ro⟩,
   ⟨64, 0, 1, 1, (fun _ => DEV_CLKSTAT_REFA_OK), .ro⟩,
   ⟨64, 0, 1, 0, (fun _ => DEV_CLKSTAT_REF_SEL), .ro⟩,
   ⟨68, 0, 1, 20, (fun _ => DEV_RSTCAUSE_WAKE_CAN), .w1c⟩,
   ⟨68, 0, 1, 19, (fun _ => DEV_RSTCAUSE_WAKE_LEAD), .w1c⟩,
   ⟨68, 0, 1, 18, (fun _ => DEV_RSTCAUSE_WAKE_CPL2), .w1c⟩,
   ⟨68, 0, 1, 17, (fun _ => DEV_RSTCAUSE_WAKE_CPL1), .w1c⟩,
   ⟨68, 0, 1, 16, (fun _ => DEV_RSTCAUSE_WAKE_TL), .w1c⟩,
   ⟨68, 0, 1, 7, (fun _ => DEV_RSTCAUSE_LINEFAIL), .w1c⟩,
   ⟨68, 0, 1, 6, (fun _ => DEV_RSTCAUSE_REFHALT), .w1c⟩,
   ⟨68, 0, 1, 5, (fun _ => DEV_RSTCAUSE_PARK_ABORT), .w1c⟩,
   ⟨68, 0, 1, 4, (fun _ => DEV_RSTCAUSE_PARK), .w1c⟩,
   ⟨68, 0, 1, 3, (fun _ => DEV_RSTCAUSE_CMD), .w1c⟩,
   ⟨68, 0, 1, 2, (fun _ => DEV_RSTCAUSE_PIN), .w1c⟩,
   ⟨68, 0, 1, 1, (fun _ => DEV_RSTCAUSE_RAIL), .w1c⟩,
   ⟨68, 0, 1, 0, (fun _ => DEV_RSTCAUSE_POR), .w1c⟩,
   ⟨72, 0, 1, 16, (fun _ => DEV_BOOTSTAT_BOOT_TIME), .ro⟩,
   ⟨72, 0, 1, 10, (fun _ => DEV_BOOTSTAT_LINE_DIE_FAIL), .ro⟩,
   ⟨72, 0, 1, 9, (fun _ => DEV_BOOTSTAT_JOIN_WAIT), .ro⟩]

/-- Rows of the DEV page. -/
def devRows1 : List Row :=
  [⟨72, 0, 1, 8, (fun _ => DEV_BOOTSTAT_SOLO_BOOT), .ro⟩,
   ⟨72, 0, 1, 7, (fun _ => DEV_BOOTSTAT_UNCONFIGURED), .ro⟩,
   ⟨72, 0, 1, 6, (fun _ => DEV_BOOTSTAT_IMAGE_FALLBACK), .ro⟩,
   ⟨72, 0, 1, 5, (fun _ => DEV_BOOTSTAT_MEASURE_FAIL), .ro⟩,
   ⟨72, 0, 1, 4, (fun _ => DEV_BOOTSTAT_SELFTEST_FAIL), .ro⟩,
   ⟨72, 0, 1, 0, (fun _ => DEV_BOOTSTAT_STEP), .ro⟩,
   ⟨128, 0, 1, 0, (fun _ => DEV_TCFG), .ro⟩,
   ⟨132, 0, 1, 0, (fun _ => DEV_TCFG_PEND), .ro⟩,
   ⟨136, 0, 1, 1, (fun _ => DEV_TCFG_STAT_INVALID), .ro⟩,
   ⟨136, 0, 1, 0, (fun _ => DEV_TCFG_STAT_OLDER), .ro⟩,
   ⟨140, 0, 1, 16, (fun _ => DEV_ROLE_HANDLE), .ro⟩,
   ⟨140, 0, 1, 8, (fun _ => DEV_ROLE_TWIN), .ro⟩,
   ⟨140, 0, 1, 0, (fun _ => DEV_ROLE_SELF), .ro⟩,
   ⟨144, 0, 1, 24, (fun _ => DEV_ROSTER_REACHED), .ro⟩,
   ⟨144, 0, 1, 16, (fun _ => DEV_ROSTER_LOST), .ro⟩,
   ⟨144, 0, 1, 8, (fun _ => DEV_ROSTER_QUOTA), .ro⟩,
   ⟨144, 0, 1, 0, (fun _ => DEV_ROSTER_PRESENT), .ro⟩,
   ⟨1024, 16, 64, 0, (fun n => DEV_WRK_UID n), .ro⟩,
   ⟨1032, 16, 64, 16, (fun n => DEV_WRK_STATE_LINK2 n), .ro⟩,
   ⟨1032, 16, 64, 8, (fun n => DEV_WRK_STATE_LINK1 n), .ro⟩,
   ⟨1032, 16, 64, 0, (fun n => DEV_WRK_STATE n), .ro⟩,
   ⟨1036, 16, 64, 0, (fun n => DEV_WRK_AGE n), .ro⟩]

/-- All rows of the DEV page. -/
def devRows : List Row := devRows0 ++ devRows1

/-- The registers of the DEV page that hold an RW or RWS field, in ascending order (R106). -/
def devChk : List ChkGroup :=
  []

/-! ## EVC (page 0x001; 04_register_pages.md, R110) -/

/-- EVC_FAULT_KIND, offset 0x080, bits [31:29] (R110). -/
def EVC_FAULT_KIND : Fld := ⟨135197, 3, 0⟩
/-- EVC_FAULT_INIT, offset 0x080, bits [28:26] (R110). -/
def EVC_FAULT_INIT : Fld := ⟨135194, 3, 0⟩
/-- EVC_FAULT_REGION, offset 0x080, bits [25:24] (R110). -/
def EVC_FAULT_REGION : Fld := ⟨135192, 2, 0⟩
/-- EVC_FAULT_PAGE, offset 0x080, bits [23:12] (R110). -/
def EVC_FAULT_PAGE : Fld := ⟨135180, 12, 0⟩
/-- EVC_FAULT_WORD, offset 0x080, bits [11:2] (R110). -/
def EVC_FAULT_WORD : Fld := ⟨135170, 10, 0⟩
/-- EVC_FAULT_VALID, offset 0x080, bits [0:0] (R110). -/
def EVC_FAULT_VALID : Fld := ⟨135168, 1, 0⟩
/-- EVC_FAULTCNT, offset 0x084, bits [31:0] (R110). -/
def EVC_FAULTCNT : Fld := ⟨135296, 32, 0⟩
/-- EVC_SWSET, offset 0x0C0, bits [31:0] (R110). -/
def EVC_SWSET : Fld := ⟨137216, 32, 0⟩
/-- EVC_SWEN, offset 0x0C4, bits [31:0] (R110). -/
def EVC_SWEN : Fld := ⟨137344, 32, 0⟩
/-- EVC_SWPEND, offset 0x0C8, bits [31:0] (R110). -/
def EVC_SWPEND : Fld := ⟨137472, 32, 0⟩
/-- EVC_SWROUTE_LO, offset 0x0CC, bits [31:0] (R110). -/
def EVC_SWROUTE_LO : Fld := ⟨137600, 32, 0⟩
/-- EVC_SWROUTE_HI, offset 0x0D0, bits [31:0] (R110). -/
def EVC_SWROUTE_HI : Fld := ⟨137728, 32, 0⟩
/-- EVC_LMAPn, offset 0x100 + 0x4 n, bits [31:0] (R110). -/
def EVC_LMAP (n : Nat) : Fld := ⟨139264 + n * 128, 32, 0⟩

/-- Rows of the EVC page. -/
def evcRows : List Row :=
  [⟨128, 0, 1, 29, (fun _ => EVC_FAULT_KIND), .ro⟩,
   ⟨128, 0, 1, 26, (fun _ => EVC_FAULT_INIT), .ro⟩,
   ⟨128, 0, 1, 24, (fun _ => EVC_FAULT_REGION), .ro⟩,
   ⟨128, 0, 1, 12, (fun _ => EVC_FAULT_PAGE), .ro⟩,
   ⟨128, 0, 1, 2, (fun _ => EVC_FAULT_WORD), .ro⟩,
   ⟨128, 0, 1, 0, (fun _ => EVC_FAULT_VALID), .w1c⟩,
   ⟨132, 0, 1, 0, (fun _ => EVC_FAULTCNT), .ro⟩,
   ⟨192, 0, 1, 0, (fun _ => EVC_SWSET), .wo⟩,
   ⟨196, 0, 1, 0, (fun _ => EVC_SWEN), .rw⟩,
   ⟨200, 0, 1, 0, (fun _ => EVC_SWPEND), .w1c⟩,
   ⟨204, 0, 1, 0, (fun _ => EVC_SWROUTE_LO), .rw⟩,
   ⟨208, 0, 1, 0, (fun _ => EVC_SWROUTE_HI), .rw⟩,
   ⟨256, 4, 44, 0, (fun n => EVC_LMAP n), .rw⟩]

/-- The registers of the EVC page that hold an RW or RWS field, in ascending order (R106). -/
def evcChk : List ChkGroup :=
  [⟨196, 0, 1, [0]⟩, ⟨204, 0, 1, [0]⟩, ⟨208, 0, 1, [0]⟩, ⟨256, 4, 44, [0]⟩]

/-! ## BRG (page 0x002; 05_host_bridge_and_command_transport.md, R131) -/

/-- BRG_LINK_RESETS, offset 0x040, bits [31:16] (R131). -/
def BRG_LINK_RESETS : Fld := ⟨264208, 16, 0⟩
/-- BRG_LINK_UP, offset 0x040, bits [8:8] (R131). -/
def BRG_LINK_UP : Fld := ⟨264200, 1, 0⟩
/-- BRG_LINK_RATE, offset 0x040, bits [7:4] (R131). -/
def BRG_LINK_RATE : Fld := ⟨264196, 4, 0⟩
/-- BRG_LINK_WIDTH, offset 0x040, bits [3:0] (R131). -/
def BRG_LINK_WIDTH : Fld := ⟨264192, 4, 0⟩
/-- BRG_FQHEAD, offset 0x048, bits [9:0] (R131). -/
def BRG_FQHEAD : Fld := ⟨264448, 10, 0⟩
/-- BRG_FQTAIL_PHASE, offset 0x04C, bits [10:10] (R131). -/
def BRG_FQTAIL_PHASE : Fld := ⟨264586, 1, 0⟩
/-- BRG_FQTAIL, offset 0x04C, bits [9:0] (R131). -/
def BRG_FQTAIL : Fld := ⟨264576, 10, 0⟩
/-- BRG_FQOVF, offset 0x050, bits [31:0] (R131). -/
def BRG_FQOVF : Fld := ⟨264704, 32, 0⟩
/-- BRG_RSEQ, offset 0x054, bits [31:0] (R131). -/
def BRG_RSEQ : Fld := ⟨264832, 32, 0⟩
/-- BRG_RWIN_TGT_VALIDn, offset 0x060 + 0x4 n, bits [31:31] (R116). -/
def BRG_RWIN_TGT_VALID (n : Nat) : Fld := ⟨265247 + n * 128, 1, 0⟩
/-- BRG_RWIN_TGT_RESOLVEDn, offset 0x060 + 0x4 n, bits [30:30] (R116). -/
def BRG_RWIN_TGT_RESOLVED (n : Nat) : Fld := ⟨265246 + n * 128, 1, 0⟩
/-- BRG_RWIN_TGT_TWINn, offset 0x060 + 0x4 n, bits [16:16] (R116). -/
def BRG_RWIN_TGT_TWIN (n : Nat) : Fld := ⟨265232 + n * 128, 1, 0⟩
/-- BRG_RWIN_TGT_HANDLEn, offset 0x060 + 0x4 n, bits [15:0] (R116). -/
def BRG_RWIN_TGT_HANDLE (n : Nat) : Fld := ⟨265216 + n * 128, 16, 0⟩
/-- BRG_RCDBn, offset 0x080 + 0x4 n, bits [5:0] (R131). -/
def BRG_RCDB (n : Nat) : Fld := ⟨266240 + n * 128, 6, 0⟩
/-- BRG_RCHEADn, offset 0x090 + 0x4 n, bits [5:0] (R131). -/
def BRG_RCHEAD (n : Nat) : Fld := ⟨266752 + n * 128, 6, 0⟩
/-- BRG_RRTAIL_PHASEn, offset 0x0A0 + 0x4 n, bits [6:6] (R131). -/
def BRG_RRTAIL_PHASE (n : Nat) : Fld := ⟨267270 + n * 128, 1, 0⟩
/-- BRG_RRTAILn, offset 0x0A0 + 0x4 n, bits [5:0] (R131). -/
def BRG_RRTAIL (n : Nat) : Fld := ⟨267264 + n * 128, 6, 0⟩
/-- BRG_RRHEADn, offset 0x0B0 + 0x4 n, bits [5:0] (R131). -/
def BRG_RRHEAD (n : Nat) : Fld := ⟨267776 + n * 128, 6, 0⟩
/-- BRG_SEM_OPn, offset 0x100 + 0x4 n, bits [31:30] (R128). -/
def BRG_SEM_OP (n : Nat) : Fld := ⟨270366 + n * 128, 2, 0⟩
/-- BRG_SEM_HELDn, offset 0x100 + 0x4 n, bits [29:29] (R128). -/
def BRG_SEM_HELD (n : Nat) : Fld := ⟨270365 + n * 128, 1, 0⟩
/-- BRG_SEM_BRIDGEn, offset 0x100 + 0x4 n, bits [28:28] (R128). -/
def BRG_SEM_BRIDGE (n : Nat) : Fld := ⟨270364 + n * 128, 1, 0⟩
/-- BRG_SEM_LOCn, offset 0x100 + 0x4 n, bits [25:0] (R128). -/
def BRG_SEM_LOC (n : Nat) : Fld := ⟨270336 + n * 128, 26, 0⟩
/-- BRG_MSIX_ADDRn, offset 0x800 + 0x10 n, bits [31:0] (R131). -/
def BRG_MSIX_ADDR (n : Nat) : Fld := ⟨327680 + n * 512, 32, 0⟩
/-- BRG_MSIX_ADDRHn, offset 0x804 + 0x10 n, bits [31:0] (R131). -/
def BRG_MSIX_ADDRH (n : Nat) : Fld := ⟨327808 + n * 512, 32, 0⟩
/-- BRG_MSIX_DATAn, offset 0x808 + 0x10 n, bits [31:0] (R131). -/
def BRG_MSIX_DATA (n : Nat) : Fld := ⟨327936 + n * 512, 32, 0⟩
/-- BRG_MSIX_CTL_MASKn, offset 0x80C + 0x10 n, bits [0:0] (R131). -/
def BRG_MSIX_CTL_MASK (n : Nat) : Fld := ⟨328064 + n * 512, 1, 1⟩
/-- BRG_MSIX_PBA, offset 0x900, bits [15:0] (R131). -/
def BRG_MSIX_PBA : Fld := ⟨335872, 16, 0⟩

/-- Rows of the BRG page. -/
def brgRows0 : List Row :=
  [⟨64, 0, 1, 16, (fun _ => BRG_LINK_RESETS), .ro⟩,
   ⟨64, 0, 1, 8, (fun _ => BRG_LINK_UP), .ro⟩,
   ⟨64, 0, 1, 4, (fun _ => BRG_LINK_RATE), .ro⟩,
   ⟨64, 0, 1, 0, (fun _ => BRG_LINK_WIDTH), .ro⟩,
   ⟨72, 0, 1, 0, (fun _ => BRG_FQHEAD), .rw⟩,
   ⟨76, 0, 1, 10, (fun _ => BRG_FQTAIL_PHASE), .ro⟩,
   ⟨76, 0, 1, 0, (fun _ => BRG_FQTAIL), .ro⟩,
   ⟨80, 0, 1, 0, (fun _ => BRG_FQOVF), .ro⟩,
   ⟨84, 0, 1, 0, (fun _ => BRG_RSEQ), .ro⟩,
   ⟨96, 4, 4, 31, (fun n => BRG_RWIN_TGT_VALID n), .rw⟩,
   ⟨96, 4, 4, 30, (fun n => BRG_RWIN_TGT_RESOLVED n), .ro⟩,
   ⟨96, 4, 4, 16, (fun n => BRG_RWIN_TGT_TWIN n), .rw⟩,
   ⟨96, 4, 4, 0, (fun n => BRG_RWIN_TGT_HANDLE n), .rw⟩,
   ⟨128, 4, 4, 0, (fun n => BRG_RCDB n), .rw⟩,
   ⟨144, 4, 4, 0, (fun n => BRG_RCHEAD n), .ro⟩,
   ⟨160, 4, 4, 6, (fun n => BRG_RRTAIL_PHASE n), .ro⟩,
   ⟨160, 4, 4, 0, (fun n => BRG_RRTAIL n), .ro⟩,
   ⟨176, 4, 4, 0, (fun n => BRG_RRHEAD n), .rw⟩,
   ⟨256, 4, 24, 30, (fun n => BRG_SEM_OP n), .wo⟩,
   ⟨256, 4, 24, 29, (fun n => BRG_SEM_HELD n), .ro⟩,
   ⟨256, 4, 24, 28, (fun n => BRG_SEM_BRIDGE n), .ro⟩,
   ⟨256, 4, 24, 0, (fun n => BRG_SEM_LOC n), .sem⟩,
   ⟨2048, 16, 16, 0, (fun n => BRG_MSIX_ADDR n), .rw⟩,
   ⟨2052, 16, 16, 0, (fun n => BRG_MSIX_ADDRH n), .rw⟩]

/-- Rows of the BRG page. -/
def brgRows1 : List Row :=
  [⟨2056, 16, 16, 0, (fun n => BRG_MSIX_DATA n), .rw⟩,
   ⟨2060, 16, 16, 0, (fun n => BRG_MSIX_CTL_MASK n), .rw⟩,
   ⟨2304, 0, 1, 0, (fun _ => BRG_MSIX_PBA), .ro⟩]

/-- All rows of the BRG page. -/
def brgRows : List Row := brgRows0 ++ brgRows1

/-- The registers of the BRG page that hold an RW or RWS field, in ascending order (R106). -/
def brgChk : List ChkGroup :=
  [⟨72, 0, 1, [0]⟩, ⟨96, 4, 4, [0]⟩, ⟨128, 4, 4, [0]⟩, ⟨176, 4, 4, [0]⟩, ⟨256, 4, 24, [0]⟩, ⟨2048, 16, 16, [0, 4, 8, 12]⟩]

/-! ## CMD (page 0x003; 05_host_bridge_and_command_transport.md, R132) -/

/-- CMD_SQTAILn, offset 0x040 + 0x4 n, bits [7:0] (R132). -/
def CMD_SQTAIL (n : Nat) : Fld := ⟨395264 + n * 128, 8, 0⟩
/-- CMD_SQHEADn, offset 0x060 + 0x4 n, bits [7:0] (R132). -/
def CMD_SQHEAD (n : Nat) : Fld := ⟨396288 + n * 128, 8, 0⟩
/-- CMD_RQTAIL_PHASEn, offset 0x080 + 0x4 n, bits [8:8] (R132). -/
def CMD_RQTAIL_PHASE (n : Nat) : Fld := ⟨397320 + n * 128, 1, 0⟩
/-- CMD_RQTAILn, offset 0x080 + 0x4 n, bits [7:0] (R132). -/
def CMD_RQTAIL (n : Nat) : Fld := ⟨397312 + n * 128, 8, 0⟩
/-- CMD_RQHEADn, offset 0x0A0 + 0x4 n, bits [7:0] (R132). -/
def CMD_RQHEAD (n : Nat) : Fld := ⟨398336 + n * 128, 8, 0⟩
/-- CMD_CRTAIL_PHASE, offset 0x0C0, bits [10:10] (R132). -/
def CMD_CRTAIL_PHASE : Fld := ⟨399370, 1, 0⟩
/-- CMD_CRTAIL, offset 0x0C0, bits [9:0] (R132). -/
def CMD_CRTAIL : Fld := ⟨399360, 10, 0⟩
/-- CMD_CRHEAD, offset 0x0C4, bits [9:0] (R132). -/
def CMD_CRHEAD : Fld := ⟨399488, 10, 0⟩
/-- CMD_STAT_CR_ERR, offset 0x0C8, bits [27:27] (R132). -/
def CMD_STAT_CR_ERR : Fld := ⟨399643, 1, 0⟩
/-- CMD_STAT_OUTSTANDING, offset 0x0C8, bits [26:16] (R132). -/
def CMD_STAT_OUTSTANDING : Fld := ⟨399632, 11, 0⟩
/-- CMD_STAT_FULL, offset 0x0C8, bits [15:8] (R132). -/
def CMD_STAT_FULL : Fld := ⟨399624, 8, 0⟩
/-- CMD_STAT_DB_ERR, offset 0x0C8, bits [7:0] (R132). -/
def CMD_STAT_DB_ERR : Fld := ⟨399616, 8, 0⟩

/-- Rows of the CMD page. -/
def cmdRows : List Row :=
  [⟨64, 4, 8, 0, (fun n => CMD_SQTAIL n), .rw⟩,
   ⟨96, 4, 8, 0, (fun n => CMD_SQHEAD n), .ro⟩,
   ⟨128, 4, 8, 8, (fun n => CMD_RQTAIL_PHASE n), .ro⟩,
   ⟨128, 4, 8, 0, (fun n => CMD_RQTAIL n), .ro⟩,
   ⟨160, 4, 8, 0, (fun n => CMD_RQHEAD n), .rw⟩,
   ⟨192, 0, 1, 10, (fun _ => CMD_CRTAIL_PHASE), .ro⟩,
   ⟨192, 0, 1, 0, (fun _ => CMD_CRTAIL), .ro⟩,
   ⟨196, 0, 1, 0, (fun _ => CMD_CRHEAD), .rw⟩,
   ⟨200, 0, 1, 27, (fun _ => CMD_STAT_CR_ERR), .w1c⟩,
   ⟨200, 0, 1, 16, (fun _ => CMD_STAT_OUTSTANDING), .ro⟩,
   ⟨200, 0, 1, 8, (fun _ => CMD_STAT_FULL), .ro⟩,
   ⟨200, 0, 1, 0, (fun _ => CMD_STAT_DB_ERR), .w1c⟩]

/-- The registers of the CMD page that hold an RW or RWS field, in ascending order (R106). -/
def cmdChk : List ChkGroup :=
  [⟨64, 4, 8, [0]⟩, ⟨160, 4, 8, [0]⟩, ⟨196, 0, 1, [0]⟩]

/-! ## TWIN (page 0x058; 16_twin_pair.md, R442) -/

/-- TWIN_STAT_PARTNER_ROLE, offset 0x040, bits [27:24] (R442). -/
def TWIN_STAT_PARTNER_ROLE : Fld := ⟨11536408, 4, 15⟩
/-- TWIN_STAT_ROLE, offset 0x040, bits [19:16] (R442). -/
def TWIN_STAT_ROLE : Fld := ⟨11536400, 4, 15⟩
/-- TWIN_STAT_IN_STEP, offset 0x040, bits [15:15] (R442). -/
def TWIN_STAT_IN_STEP : Fld := ⟨11536399, 1, 0⟩
/-- TWIN_STAT_LATE, offset 0x040, bits [14:14] (R442). -/
def TWIN_STAT_LATE : Fld := ⟨11536398, 1, 0⟩
/-- TWIN_STAT_FENCE_LINE, offset 0x040, bits [13:13] (R442). -/
def TWIN_STAT_FENCE_LINE : Fld := ⟨11536397, 1, 0⟩
/-- TWIN_STAT_MISMATCH, offset 0x040, bits [12:12] (R442). -/
def TWIN_STAT_MISMATCH : Fld := ⟨11536396, 1, 0⟩
/-- TWIN_STAT_TRANSFER, offset 0x040, bits [11:11] (R442). -/
def TWIN_STAT_TRANSFER : Fld := ⟨11536395, 1, 0⟩
/-- TWIN_STAT_DRILL_PEND, offset 0x040, bits [10:10] (R442). -/
def TWIN_STAT_DRILL_PEND : Fld := ⟨11536394, 1, 0⟩
/-- TWIN_STAT_LANE1_UP, offset 0x040, bits [9:9] (R442). -/
def TWIN_STAT_LANE1_UP : Fld := ⟨11536393, 1, 0⟩
/-- TWIN_STAT_LANE0_UP, offset 0x040, bits [8:8] (R442). -/
def TWIN_STAT_LANE0_UP : Fld := ⟨11536392, 1, 0⟩
/-- TWIN_STAT_PFAIL_IN, offset 0x040, bits [4:4] (R442). -/
def TWIN_STAT_PFAIL_IN : Fld := ⟨11536388, 1, 0⟩
/-- TWIN_STAT_FENCE_IN, offset 0x040, bits [3:3] (R442). -/
def TWIN_STAT_FENCE_IN : Fld := ⟨11536387, 1, 0⟩
/-- TWIN_STAT_FENCE_EFF, offset 0x040, bits [2:2] (R442). -/
def TWIN_STAT_FENCE_EFF : Fld := ⟨11536386, 1, 0⟩
/-- TWIN_STAT_FENCE_OUT, offset 0x040, bits [1:1] (R442). -/
def TWIN_STAT_FENCE_OUT : Fld := ⟨11536385, 1, 0⟩
/-- TWIN_STAT_DRIVE_EN, offset 0x040, bits [0:0] (R442). -/
def TWIN_STAT_DRIVE_EN : Fld := ⟨11536384, 1, 0⟩
/-- TWIN_GEN, offset 0x044, bits [31:0] (R442). -/
def TWIN_GEN : Fld := ⟨11536512, 32, 0⟩
/-- TWIN_CTL_DRILL_HOURS, offset 0x048, bits [13:0] (R442). -/
def TWIN_CTL_DRILL_HOURS : Fld := ⟨11536640, 14, 168⟩
/-- TWIN_SEQ, offset 0x050, bits [63:0] (R442). -/
def TWIN_SEQ : Fld := ⟨11536896, 64, 0⟩
/-- TWIN_TICK, offset 0x058, bits [63:0] (R442). -/
def TWIN_TICK : Fld := ⟨11537152, 64, 0⟩
/-- TWIN_DIVG, offset 0x060, bits [63:0] (R442). -/
def TWIN_DIVG : Fld := ⟨11537408, 64, 0⟩
/-- TWIN_DRILL, offset 0x068, bits [63:0] (R442). -/
def TWIN_DRILL : Fld := ⟨11537664, 64, 0⟩
/-- TWIN_CNTn, offset 0x080 + 0x4 n, bits [31:0] (R443). -/
def TWIN_CNT (n : Nat) : Fld := ⟨11538432 + n * 128, 32, 0⟩

/-- Rows of the TWIN page. -/
def twinRows : List Row :=
  [⟨64, 0, 1, 24, (fun _ => TWIN_STAT_PARTNER_ROLE), .ro⟩,
   ⟨64, 0, 1, 16, (fun _ => TWIN_STAT_ROLE), .ro⟩,
   ⟨64, 0, 1, 15, (fun _ => TWIN_STAT_IN_STEP), .ro⟩,
   ⟨64, 0, 1, 14, (fun _ => TWIN_STAT_LATE), .ro⟩,
   ⟨64, 0, 1, 13, (fun _ => TWIN_STAT_FENCE_LINE), .ro⟩,
   ⟨64, 0, 1, 12, (fun _ => TWIN_STAT_MISMATCH), .ro⟩,
   ⟨64, 0, 1, 11, (fun _ => TWIN_STAT_TRANSFER), .ro⟩,
   ⟨64, 0, 1, 10, (fun _ => TWIN_STAT_DRILL_PEND), .ro⟩,
   ⟨64, 0, 1, 9, (fun _ => TWIN_STAT_LANE1_UP), .ro⟩,
   ⟨64, 0, 1, 8, (fun _ => TWIN_STAT_LANE0_UP), .ro⟩,
   ⟨64, 0, 1, 4, (fun _ => TWIN_STAT_PFAIL_IN), .ro⟩,
   ⟨64, 0, 1, 3, (fun _ => TWIN_STAT_FENCE_IN), .ro⟩,
   ⟨64, 0, 1, 2, (fun _ => TWIN_STAT_FENCE_EFF), .ro⟩,
   ⟨64, 0, 1, 1, (fun _ => TWIN_STAT_FENCE_OUT), .ro⟩,
   ⟨64, 0, 1, 0, (fun _ => TWIN_STAT_DRIVE_EN), .ro⟩,
   ⟨68, 0, 1, 0, (fun _ => TWIN_GEN), .ro⟩,
   ⟨72, 0, 1, 0, (fun _ => TWIN_CTL_DRILL_HOURS), .rw⟩,
   ⟨80, 0, 1, 0, (fun _ => TWIN_SEQ), .ro⟩,
   ⟨88, 0, 1, 0, (fun _ => TWIN_TICK), .ro⟩,
   ⟨96, 0, 1, 0, (fun _ => TWIN_DIVG), .ro⟩,
   ⟨104, 0, 1, 0, (fun _ => TWIN_DRILL), .ro⟩,
   ⟨128, 4, 12, 0, (fun n => TWIN_CNT n), .ro⟩]

/-- The registers of the TWIN page that hold an RW or RWS field, in ascending order (R106). -/
def twinChk : List ChkGroup :=
  [⟨72, 0, 1, [0]⟩]

/-! ## REC (page 0x068; 18_event_recorder.md, R479) -/

/-- REC_CTL_COALESCE, offset 0x040, bits [15:0] (R479). -/
def REC_CTL_COALESCE : Fld := ⟨13633536, 16, 100⟩
/-- REC_STAT_BUF, offset 0x044, bits [15:8] (R479). -/
def REC_STAT_BUF : Fld := ⟨13633672, 8, 0⟩
/-- REC_STAT_OPEN, offset 0x044, bits [5:5] (R479). -/
def REC_STAT_OPEN : Fld := ⟨13633669, 1, 0⟩
/-- REC_STAT_CELLAR_FULL, offset 0x044, bits [4:4] (R479). -/
def REC_STAT_CELLAR_FULL : Fld := ⟨13633668, 1, 0⟩
/-- REC_STAT_TO_PARTNER, offset 0x044, bits [3:3] (R479). -/
def REC_STAT_TO_PARTNER : Fld := ⟨13633667, 1, 0⟩
/-- REC_STAT_STICKY, offset 0x044, bits [2:2] (R479). -/
def REC_STAT_STICKY : Fld := ⟨13633666, 1, 0⟩
/-- REC_STAT_BANK1_FAIL, offset 0x044, bits [1:1] (R479). -/
def REC_STAT_BANK1_FAIL : Fld := ⟨13633665, 1, 0⟩
/-- REC_STAT_BANK0_FAIL, offset 0x044, bits [0:0] (R479). -/
def REC_STAT_BANK0_FAIL : Fld := ⟨13633664, 1, 0⟩
/-- REC_WPOS, offset 0x048, bits [17:0] (R479). -/
def REC_WPOS : Fld := ⟨13633792, 18, 0⟩
/-- REC_SEQ, offset 0x04C, bits [31:0] (R479). -/
def REC_SEQ : Fld := ⟨13633920, 32, 0⟩
/-- REC_BAD_B1, offset 0x050, bits [31:16] (R479). -/
def REC_BAD_B1 : Fld := ⟨13634064, 16, 0⟩
/-- REC_BAD_B0, offset 0x050, bits [15:0] (R479). -/
def REC_BAD_B0 : Fld := ⟨13634048, 16, 0⟩
/-- REC_CNTn, offset 0x080 + 0x4 n, bits [31:0] (R479). -/
def REC_CNT (n : Nat) : Fld := ⟨13635584 + n * 128, 32, 0⟩

/-- Rows of the REC page. -/
def recRows : List Row :=
  [⟨64, 0, 1, 0, (fun _ => REC_CTL_COALESCE), .rw⟩,
   ⟨68, 0, 1, 8, (fun _ => REC_STAT_BUF), .ro⟩,
   ⟨68, 0, 1, 5, (fun _ => REC_STAT_OPEN), .ro⟩,
   ⟨68, 0, 1, 4, (fun _ => REC_STAT_CELLAR_FULL), .ro⟩,
   ⟨68, 0, 1, 3, (fun _ => REC_STAT_TO_PARTNER), .ro⟩,
   ⟨68, 0, 1, 2, (fun _ => REC_STAT_STICKY), .ro⟩,
   ⟨68, 0, 1, 1, (fun _ => REC_STAT_BANK1_FAIL), .ro⟩,
   ⟨68, 0, 1, 0, (fun _ => REC_STAT_BANK0_FAIL), .ro⟩,
   ⟨72, 0, 1, 0, (fun _ => REC_WPOS), .ro⟩,
   ⟨76, 0, 1, 0, (fun _ => REC_SEQ), .ro⟩,
   ⟨80, 0, 1, 16, (fun _ => REC_BAD_B1), .ro⟩,
   ⟨80, 0, 1, 0, (fun _ => REC_BAD_B0), .ro⟩,
   ⟨128, 4, 8, 0, (fun n => REC_CNT n), .ro⟩]

/-- The registers of the REC page that hold an RW or RWS field, in ascending order (R106). -/
def recChk : List ChkGroup :=
  [⟨64, 0, 1, [0]⟩]

/-! ## PORT (page 0x010; 07_frame_ports.md, R197) -/

/-- PORT_MODE_LINK_HOLD, offset 0x040, bits [31:24] (R197). -/
def PORT_MODE_LINK_HOLD (p : Nat) : Fld := ⟨2099224 + p * 131072, 8, 2⟩
/-- PORT_MODE_FEC_EN, offset 0x040, bits [16:16] (R197). -/
def PORT_MODE_FEC_EN (p : Nat) : Fld := ⟨2099216 + p * 131072, 1, 0⟩
/-- PORT_MODE_TX_INV, offset 0x040, bits [11:11] (R197). -/
def PORT_MODE_TX_INV (p : Nat) : Fld := ⟨2099211 + p * 131072, 1, 0⟩
/-- PORT_MODE_RX_INV, offset 0x040, bits [10:10] (R197). -/
def PORT_MODE_RX_INV (p : Nat) : Fld := ⟨2099210 + p * 131072, 1, 0⟩
/-- PORT_MODE_AN_EN, offset 0x040, bits [9:9] (R197). -/
def PORT_MODE_AN_EN (p : Nat) : Fld := ⟨2099209 + p * 131072, 1, (if p = 14 then 0 else 1)⟩
/-- PORT_MODE_MODE, offset 0x040, bits [7:0] (R197). -/
def PORT_MODE_MODE (p : Nat) : Fld := ⟨2099200 + p * 131072, 8, (if p < 2 then 5 else if p = 14 then 16 else 1)⟩
/-- PORT_STATUS_PFC_PAUSED, offset 0x044, bits [23:16] (R197). -/
def PORT_STATUS_PFC_PAUSED (p : Nat) : Fld := ⟨2099344 + p * 131072, 8, 0⟩
/-- PORT_STATUS_SPEED, offset 0x044, bits [15:12] (R197). -/
def PORT_STATUS_SPEED (p : Nat) : Fld := ⟨2099340 + p * 131072, 4, 0⟩
/-- PORT_STATUS_DUPLEX_FAULT, offset 0x044, bits [11:11] (R197). -/
def PORT_STATUS_DUPLEX_FAULT (p : Nat) : Fld := ⟨2099339 + p * 131072, 1, 0⟩
/-- PORT_STATUS_RATE_FAULT, offset 0x044, bits [10:10] (R197). -/
def PORT_STATUS_RATE_FAULT (p : Nat) : Fld := ⟨2099338 + p * 131072, 1, 0⟩
/-- PORT_STATUS_PHY_FAULT, offset 0x044, bits [9:9] (R197). -/
def PORT_STATUS_PHY_FAULT (p : Nat) : Fld := ⟨2099337 + p * 131072, 1, 0⟩
/-- PORT_STATUS_PHY_LINK, offset 0x044, bits [8:8] (R197). -/
def PORT_STATUS_PHY_LINK (p : Nat) : Fld := ⟨2099336 + p * 131072, 1, 0⟩
/-- PORT_STATUS_HI_BER, offset 0x044, bits [7:7] (R197). -/
def PORT_STATUS_HI_BER (p : Nat) : Fld := ⟨2099335 + p * 131072, 1, 0⟩
/-- PORT_STATUS_REMOTE_FAULT, offset 0x044, bits [6:6] (R197). -/
def PORT_STATUS_REMOTE_FAULT (p : Nat) : Fld := ⟨2099334 + p * 131072, 1, 0⟩
/-- PORT_STATUS_LOCAL_FAULT, offset 0x044, bits [5:5] (R197). -/
def PORT_STATUS_LOCAL_FAULT (p : Nat) : Fld := ⟨2099333 + p * 131072, 1, 0⟩
/-- PORT_STATUS_AN_DONE, offset 0x044, bits [4:4] (R197). -/
def PORT_STATUS_AN_DONE (p : Nat) : Fld := ⟨2099332 + p * 131072, 1, 0⟩
/-- PORT_STATUS_PCS_LOCK, offset 0x044, bits [3:3] (R197). -/
def PORT_STATUS_PCS_LOCK (p : Nat) : Fld := ⟨2099331 + p * 131072, 1, 0⟩
/-- PORT_STATUS_PAUSED, offset 0x044, bits [2:2] (R197). -/
def PORT_STATUS_PAUSED (p : Nat) : Fld := ⟨2099330 + p * 131072, 1, 0⟩
/-- PORT_STATUS_PREEMPT_ACTIVE, offset 0x044, bits [1:1] (R197). -/
def PORT_STATUS_PREEMPT_ACTIVE (p : Nat) : Fld := ⟨2099329 + p * 131072, 1, 0⟩
/-- PORT_STATUS_LINK_UP, offset 0x044, bits [0:0] (R197). -/
def PORT_STATUS_LINK_UP (p : Nat) : Fld := ⟨2099328 + p * 131072, 1, 0⟩
/-- PORT_MAXLEN, offset 0x048, bits [13:0] (R197). -/
def PORT_MAXLEN (p : Nat) : Fld := ⟨2099456 + p * 131072, 14, (if p = 14 then 9600 else 1522)⟩
/-- PORT_VLAN_EGRESS_TAG, offset 0x04C, bits [19:18] (R197). -/
def PORT_VLAN_EGRESS_TAG (p : Nat) : Fld := ⟨2099602 + p * 131072, 2, 0⟩
/-- PORT_VLAN_ACCEPT, offset 0x04C, bits [17:16] (R197). -/
def PORT_VLAN_ACCEPT (p : Nat) : Fld := ⟨2099600 + p * 131072, 2, 0⟩
/-- PORT_VLAN_DEF_PCP, offset 0x04C, bits [14:12] (R197). -/
def PORT_VLAN_DEF_PCP (p : Nat) : Fld := ⟨2099596 + p * 131072, 3, 0⟩
/-- PORT_VLAN_PVID, offset 0x04C, bits [11:0] (R197). -/
def PORT_VLAN_PVID (p : Nat) : Fld := ⟨2099584 + p * 131072, 12, 1⟩
/-- PORT_GROUP_BCAST_DROP, offset 0x050, bits [1:1] (R197). -/
def PORT_GROUP_BCAST_DROP (p : Nat) : Fld := ⟨2099713 + p * 131072, 1, 0⟩
/-- PORT_GROUP_ALL_GROUP, offset 0x050, bits [0:0] (R197). -/
def PORT_GROUP_ALL_GROUP (p : Nat) : Fld := ⟨2099712 + p * 131072, 1, 0⟩
/-- PORT_PREEMPT_VERIFY_STATUS, offset 0x054, bits [26:24] (R197). -/
def PORT_PREEMPT_VERIFY_STATUS (p : Nat) : Fld := ⟨2099864 + p * 131072, 3, 0⟩
/-- PORT_PREEMPT_VERIFY_TIME, offset 0x054, bits [23:16] (R197). -/
def PORT_PREEMPT_VERIFY_TIME (p : Nat) : Fld := ⟨2099856 + p * 131072, 8, 10⟩
/-- PORT_PREEMPT_EXPRESS_TC, offset 0x054, bits [15:8] (R197). -/
def PORT_PREEMPT_EXPRESS_TC (p : Nat) : Fld := ⟨2099848 + p * 131072, 8, 255⟩
/-- PORT_PREEMPT_ADD_FRAG, offset 0x054, bits [3:2] (R197). -/
def PORT_PREEMPT_ADD_FRAG (p : Nat) : Fld := ⟨2099842 + p * 131072, 2, 0⟩
/-- PORT_PREEMPT_VERIFY_DIS, offset 0x054, bits [1:1] (R197). -/
def PORT_PREEMPT_VERIFY_DIS (p : Nat) : Fld := ⟨2099841 + p * 131072, 1, 0⟩
/-- PORT_PREEMPT_EN, offset 0x054, bits [0:0] (R197). -/
def PORT_PREEMPT_EN (p : Nat) : Fld := ⟨2099840 + p * 131072, 1, 0⟩
/-- PORT_FC_PFC_TX_EN, offset 0x058, bits [23:16] (R197). -/
def PORT_FC_PFC_TX_EN (p : Nat) : Fld := ⟨2099984 + p * 131072, 8, 0⟩
/-- PORT_FC_PFC_RX_EN, offset 0x058, bits [15:8] (R197). -/
def PORT_FC_PFC_RX_EN (p : Nat) : Fld := ⟨2099976 + p * 131072, 8, 0⟩
/-- PORT_FC_TX_PAUSE_EN, offset 0x058, bits [1:1] (R197). -/
def PORT_FC_TX_PAUSE_EN (p : Nat) : Fld := ⟨2099969 + p * 131072, 1, 0⟩
/-- PORT_FC_RX_PAUSE_EN, offset 0x058, bits [0:0] (R197). -/
def PORT_FC_RX_PAUSE_EN (p : Nat) : Fld := ⟨2099968 + p * 131072, 1, 0⟩
/-- PORT_FC_TIME, offset 0x05C, bits [15:0] (R197). -/
def PORT_FC_TIME (p : Nat) : Fld := ⟨2100096 + p * 131072, 16, 65535⟩
/-- PORT_FC_THR_XON, offset 0x060, bits [31:16] (R197). -/
def PORT_FC_THR_XON (p : Nat) : Fld := ⟨2100240 + p * 131072, 16, 256⟩
/-- PORT_FC_THR_XOFF, offset 0x060, bits [15:0] (R197). -/
def PORT_FC_THR_XOFF (p : Nat) : Fld := ⟨2100224 + p * 131072, 16, 512⟩
/-- PORT_PHY_PHY_EN, offset 0x064, bits [31:31] (R197). -/
def PORT_PHY_PHY_EN (p : Nat) : Fld := ⟨2100383 + p * 131072, 1, 0⟩
/-- PORT_PHY_MDC, offset 0x064, bits [17:16] (R197). -/
def PORT_PHY_MDC (p : Nat) : Fld := ⟨2100368 + p * 131072, 2, 0⟩
/-- PORT_PHY_POLL, offset 0x064, bits [15:8] (R197). -/
def PORT_PHY_POLL (p : Nat) : Fld := ⟨2100360 + p * 131072, 8, 10⟩
/-- PORT_PHY_C45, offset 0x064, bits [5:5] (R197). -/
def PORT_PHY_C45 (p : Nat) : Fld := ⟨2100357 + p * 131072, 1, 0⟩
/-- PORT_PHY_PHY_ADDR, offset 0x064, bits [4:0] (R197). -/
def PORT_PHY_PHY_ADDR (p : Nat) : Fld := ⟨2100352 + p * 131072, 5, 0⟩
/-- PORT_GHASHn, offset 0x080 + 0x4 n, bits [31:0] (R197). -/
def PORT_GHASH (p n : Nat) : Fld := ⟨2101248 + p * 131072 + n * 128, 32, 0⟩

/-- Rows of the PORT page. -/
def portRows0 (p : Nat) : List Row :=
  [⟨64, 0, 1, 24, (fun _ => PORT_MODE_LINK_HOLD p), .rw⟩,
   ⟨64, 0, 1, 16, (fun _ => PORT_MODE_FEC_EN p), .rw⟩,
   ⟨64, 0, 1, 11, (fun _ => PORT_MODE_TX_INV p), .rw⟩,
   ⟨64, 0, 1, 10, (fun _ => PORT_MODE_RX_INV p), .rw⟩,
   ⟨64, 0, 1, 9, (fun _ => PORT_MODE_AN_EN p), .rw⟩,
   ⟨64, 0, 1, 0, (fun _ => PORT_MODE_MODE p), .rw⟩,
   ⟨68, 0, 1, 16, (fun _ => PORT_STATUS_PFC_PAUSED p), .ro⟩,
   ⟨68, 0, 1, 12, (fun _ => PORT_STATUS_SPEED p), .ro⟩,
   ⟨68, 0, 1, 11, (fun _ => PORT_STATUS_DUPLEX_FAULT p), .ro⟩,
   ⟨68, 0, 1, 10, (fun _ => PORT_STATUS_RATE_FAULT p), .ro⟩,
   ⟨68, 0, 1, 9, (fun _ => PORT_STATUS_PHY_FAULT p), .ro⟩,
   ⟨68, 0, 1, 8, (fun _ => PORT_STATUS_PHY_LINK p), .ro⟩,
   ⟨68, 0, 1, 7, (fun _ => PORT_STATUS_HI_BER p), .ro⟩,
   ⟨68, 0, 1, 6, (fun _ => PORT_STATUS_REMOTE_FAULT p), .ro⟩,
   ⟨68, 0, 1, 5, (fun _ => PORT_STATUS_LOCAL_FAULT p), .ro⟩,
   ⟨68, 0, 1, 4, (fun _ => PORT_STATUS_AN_DONE p), .ro⟩,
   ⟨68, 0, 1, 3, (fun _ => PORT_STATUS_PCS_LOCK p), .ro⟩,
   ⟨68, 0, 1, 2, (fun _ => PORT_STATUS_PAUSED p), .ro⟩,
   ⟨68, 0, 1, 1, (fun _ => PORT_STATUS_PREEMPT_ACTIVE p), .ro⟩,
   ⟨68, 0, 1, 0, (fun _ => PORT_STATUS_LINK_UP p), .ro⟩,
   ⟨72, 0, 1, 0, (fun _ => PORT_MAXLEN p), .rws⟩,
   ⟨76, 0, 1, 18, (fun _ => PORT_VLAN_EGRESS_TAG p), .rw⟩,
   ⟨76, 0, 1, 16, (fun _ => PORT_VLAN_ACCEPT p), .rw⟩,
   ⟨76, 0, 1, 12, (fun _ => PORT_VLAN_DEF_PCP p), .rw⟩]

/-- Rows of the PORT page. -/
def portRows1 (p : Nat) : List Row :=
  [⟨76, 0, 1, 0, (fun _ => PORT_VLAN_PVID p), .rw⟩,
   ⟨80, 0, 1, 1, (fun _ => PORT_GROUP_BCAST_DROP p), .rw⟩,
   ⟨80, 0, 1, 0, (fun _ => PORT_GROUP_ALL_GROUP p), .rw⟩,
   ⟨84, 0, 1, 24, (fun _ => PORT_PREEMPT_VERIFY_STATUS p), .ro⟩,
   ⟨84, 0, 1, 16, (fun _ => PORT_PREEMPT_VERIFY_TIME p), .rw⟩,
   ⟨84, 0, 1, 8, (fun _ => PORT_PREEMPT_EXPRESS_TC p), .rw⟩,
   ⟨84, 0, 1, 2, (fun _ => PORT_PREEMPT_ADD_FRAG p), .rw⟩,
   ⟨84, 0, 1, 1, (fun _ => PORT_PREEMPT_VERIFY_DIS p), .rw⟩,
   ⟨84, 0, 1, 0, (fun _ => PORT_PREEMPT_EN p), .rw⟩,
   ⟨88, 0, 1, 16, (fun _ => PORT_FC_PFC_TX_EN p), .rw⟩,
   ⟨88, 0, 1, 8, (fun _ => PORT_FC_PFC_RX_EN p), .rw⟩,
   ⟨88, 0, 1, 1, (fun _ => PORT_FC_TX_PAUSE_EN p), .rw⟩,
   ⟨88, 0, 1, 0, (fun _ => PORT_FC_RX_PAUSE_EN p), .rw⟩,
   ⟨92, 0, 1, 0, (fun _ => PORT_FC_TIME p), .rw⟩,
   ⟨96, 0, 1, 16, (fun _ => PORT_FC_THR_XON p), .rw⟩,
   ⟨96, 0, 1, 0, (fun _ => PORT_FC_THR_XOFF p), .rw⟩,
   ⟨100, 0, 1, 31, (fun _ => PORT_PHY_PHY_EN p), .rw⟩,
   ⟨100, 0, 1, 16, (fun _ => PORT_PHY_MDC p), .rw⟩,
   ⟨100, 0, 1, 8, (fun _ => PORT_PHY_POLL p), .rw⟩,
   ⟨100, 0, 1, 5, (fun _ => PORT_PHY_C45 p), .rw⟩,
   ⟨100, 0, 1, 0, (fun _ => PORT_PHY_PHY_ADDR p), .rw⟩,
   ⟨128, 4, 16, 0, (fun n => PORT_GHASH p n), .rw⟩]

/-- All rows of the PORT page. -/
def portRows (p : Nat) : List Row := portRows0 p ++ portRows1 p

/-- The registers of the PORT page that hold an RW or RWS field, in ascending order (R106). -/
def portChk : List ChkGroup :=
  [⟨64, 0, 1, [0]⟩, ⟨72, 0, 1, [0]⟩, ⟨76, 0, 1, [0]⟩, ⟨80, 0, 1, [0]⟩, ⟨84, 0, 1, [0]⟩, ⟨88, 0, 1, [0]⟩, ⟨92, 0, 1, [0]⟩, ⟨96, 0, 1, [0]⟩, ⟨100, 0, 1, [0]⟩, ⟨128, 4, 16, [0]⟩]

/-! ## CNT (page 0x078; 07_frame_ports.md, R198) -/

/-- CNT_CTRn, offset 0x100 + 0x8 n, bits [63:0] (R198). -/
def CNT_CTR (p n : Nat) : Fld := ⟨15736832 + p * 131072 + n * 256, 64, 0⟩

/-- Rows of the CNT page. -/
def cntRows (p : Nat) : List Row :=
  [⟨256, 8, 256, 0, (fun n => CNT_CTR p n), .rc⟩]

/-- The registers of the CNT page that hold an RW or RWS field, in ascending order (R106). -/
def cntChk : List ChkGroup :=
  []

/-! ## FWD (page 0x020; 08_forwarding_and_redundancy.md, R236) -/

/-- FWD_SKIM_EN, offset 0x040, bits [31:31] (R236). -/
def FWD_SKIM_EN : Fld := ⟨4196383, 1, 0⟩
/-- FWD_SKIM_PCP_SET, offset 0x040, bits [23:16] (R236). -/
def FWD_SKIM_PCP_SET : Fld := ⟨4196368, 8, 0⟩
/-- FWD_SKIM_PORTS, offset 0x040, bits [13:0] (R236). -/
def FWD_SKIM_PORTS : Fld := ⟨4196352, 14, 0⟩
/-- FWD_PCPMAP, offset 0x044, bits [23:0] (R236). -/
def FWD_PCPMAP : Fld := ⟨4196480, 24, 16434824⟩
/-- FWD_BUF_XRES, offset 0x048, bits [31:16] (R236). -/
def FWD_BUF_XRES : Fld := ⟨4196624, 16, 2048⟩
/-- FWD_BUF_QMAX, offset 0x048, bits [15:0] (R236). -/
def FWD_BUF_QMAX : Fld := ⟨4196608, 16, 8192⟩
/-- FWD_FLOOD, offset 0x04C, bits [13:0] (R236). -/
def FWD_FLOOD : Fld := ⟨4196736, 14, 16383⟩
/-- FWD_STAT_SWAPS, offset 0x050, bits [31:20] (R236). -/
def FWD_STAT_SWAPS : Fld := ⟨4196884, 12, 0⟩
/-- FWD_STAT_COPYING, offset 0x050, bits [18:18] (R236). -/
def FWD_STAT_COPYING : Fld := ⟨4196882, 1, 0⟩
/-- FWD_STAT_FREE_CELLS, offset 0x050, bits [17:0] (R236). -/
def FWD_STAT_FREE_CELLS : Fld := ⟨4196864, 18, 131072⟩
/-- FWD_CELL_ERR, offset 0x054, bits [31:0] (R236). -/
def FWD_CELL_ERR : Fld := ⟨4196992, 32, 0⟩
/-- FWD_ENG_DROP, offset 0x058, bits [31:0] (R236). -/
def FWD_ENG_DROP : Fld := ⟨4197120, 32, 0⟩
/-- FWD_SECSTAT_TX_ANn, offset 0x060 + 0x4 n, bits [7:6] (R236). -/
def FWD_SECSTAT_TX_AN (n : Nat) : Fld := ⟨4197382 + n * 128, 2, 0⟩
/-- FWD_SECSTAT_OLD_RXn, offset 0x060 + 0x4 n, bits [5:5] (R236). -/
def FWD_SECSTAT_OLD_RX (n : Nat) : Fld := ⟨4197381 + n * 128, 1, 0⟩
/-- FWD_SECSTAT_CONFn, offset 0x060 + 0x4 n, bits [4:4] (R236). -/
def FWD_SECSTAT_CONF (n : Nat) : Fld := ⟨4197380 + n * 128, 1, 0⟩
/-- FWD_SECSTAT_KEYS_VALIDn, offset 0x060 + 0x4 n, bits [1:1] (R236). -/
def FWD_SECSTAT_KEYS_VALID (n : Nat) : Fld := ⟨4197377 + n * 128, 1, 0⟩
/-- FWD_SECSTAT_ONn, offset 0x060 + 0x4 n, bits [0:0] (R236). -/
def FWD_SECSTAT_ON (n : Nat) : Fld := ⟨4197376 + n * 128, 1, 0⟩
/-- FWD_SECDROPn, offset 0x068 + 0x4 n, bits [31:0] (R236). -/
def FWD_SECDROP (n : Nat) : Fld := ⟨4197632 + n * 128, 32, 0⟩
/-- FWD_HQTAIL_PHASEn, offset 0x100 + 0x4 n, bits [9:9] (R236). -/
def FWD_HQTAIL_PHASE (n : Nat) : Fld := ⟨4202505 + n * 128, 1, 0⟩
/-- FWD_HQTAILn, offset 0x100 + 0x4 n, bits [8:0] (R236). -/
def FWD_HQTAIL (n : Nat) : Fld := ⟨4202496 + n * 128, 9, 0⟩
/-- FWD_HQHEADn, offset 0x180 + 0x4 n, bits [8:0] (R236). -/
def FWD_HQHEAD (n : Nat) : Fld := ⟨4206592 + n * 128, 9, 0⟩
/-- FWD_HQDROPn, offset 0x200 + 0x4 n, bits [31:0] (R236). -/
def FWD_HQDROP (n : Nat) : Fld := ⟨4210688 + n * 128, 32, 0⟩
/-- FWD_HQPEND, offset 0x280, bits [31:0] (R236). -/
def FWD_HQPEND : Fld := ⟨4214784, 32, 0⟩
/-- FWD_HTTAILn, offset 0x2C0 + 0x4 n, bits [7:0] (R236). -/
def FWD_HTTAIL (n : Nat) : Fld := ⟨4216832 + n * 128, 8, 0⟩
/-- FWD_HTHEADn, offset 0x2E0 + 0x4 n, bits [7:0] (R236). -/
def FWD_HTHEAD (n : Nat) : Fld := ⟨4217856 + n * 128, 8, 0⟩
/-- FWD_HTDROPn, offset 0x300 + 0x4 n, bits [31:0] (R236). -/
def FWD_HTDROP (n : Nat) : Fld := ⟨4218880 + n * 128, 32, 0⟩

/-- Rows of the FWD page. -/
def fwdRows0 : List Row :=
  [⟨64, 0, 1, 31, (fun _ => FWD_SKIM_EN), .rws⟩,
   ⟨64, 0, 1, 16, (fun _ => FWD_SKIM_PCP_SET), .rws⟩,
   ⟨64, 0, 1, 0, (fun _ => FWD_SKIM_PORTS), .rws⟩,
   ⟨68, 0, 1, 0, (fun _ => FWD_PCPMAP), .rws⟩,
   ⟨72, 0, 1, 16, (fun _ => FWD_BUF_XRES), .rw⟩,
   ⟨72, 0, 1, 0, (fun _ => FWD_BUF_QMAX), .rw⟩,
   ⟨76, 0, 1, 0, (fun _ => FWD_FLOOD), .rw⟩,
   ⟨80, 0, 1, 20, (fun _ => FWD_STAT_SWAPS), .ro⟩,
   ⟨80, 0, 1, 18, (fun _ => FWD_STAT_COPYING), .ro⟩,
   ⟨80, 0, 1, 0, (fun _ => FWD_STAT_FREE_CELLS), .ro⟩,
   ⟨84, 0, 1, 0, (fun _ => FWD_CELL_ERR), .ro⟩,
   ⟨88, 0, 1, 0, (fun _ => FWD_ENG_DROP), .ro⟩,
   ⟨96, 4, 2, 6, (fun n => FWD_SECSTAT_TX_AN n), .ro⟩,
   ⟨96, 4, 2, 5, (fun n => FWD_SECSTAT_OLD_RX n), .ro⟩,
   ⟨96, 4, 2, 4, (fun n => FWD_SECSTAT_CONF n), .ro⟩,
   ⟨96, 4, 2, 1, (fun n => FWD_SECSTAT_KEYS_VALID n), .ro⟩,
   ⟨96, 4, 2, 0, (fun n => FWD_SECSTAT_ON n), .ro⟩,
   ⟨104, 4, 2, 0, (fun n => FWD_SECDROP n), .ro⟩,
   ⟨256, 4, 32, 9, (fun n => FWD_HQTAIL_PHASE n), .ro⟩,
   ⟨256, 4, 32, 0, (fun n => FWD_HQTAIL n), .ro⟩,
   ⟨384, 4, 32, 0, (fun n => FWD_HQHEAD n), .rw⟩,
   ⟨512, 4, 32, 0, (fun n => FWD_HQDROP n), .ro⟩,
   ⟨640, 0, 1, 0, (fun _ => FWD_HQPEND), .ro⟩,
   ⟨704, 4, 8, 0, (fun n => FWD_HTTAIL n), .rw⟩]

/-- Rows of the FWD page. -/
def fwdRows1 : List Row :=
  [⟨736, 4, 8, 0, (fun n => FWD_HTHEAD n), .ro⟩,
   ⟨768, 4, 8, 0, (fun n => FWD_HTDROP n), .ro⟩]

/-- All rows of the FWD page. -/
def fwdRows : List Row := fwdRows0 ++ fwdRows1

/-- The registers of the FWD page that hold an RW or RWS field, in ascending order (R106). -/
def fwdChk : List ChkGroup :=
  [⟨64, 0, 1, [0]⟩, ⟨68, 0, 1, [0]⟩, ⟨72, 0, 1, [0]⟩, ⟨76, 0, 1, [0]⟩, ⟨384, 4, 32, [0]⟩, ⟨704, 4, 8, [0]⟩]

/-! ## SEP (page 0x021; 08_forwarding_and_redundancy.md, R236) -/

/-- SEP_MISS, offset 0x040, bits [31:0] (R236). -/
def SEP_MISS : Fld := ⟨4327424, 32, 0⟩
/-- SEP_HITn, offset 0x400 + 0x4 n, bits [31:0] (R236). -/
def SEP_HIT (n : Nat) : Fld := ⟨4358144 + n * 128, 32, 0⟩

/-- Rows of the SEP page. -/
def sepRows : List Row :=
  [⟨64, 0, 1, 0, (fun _ => SEP_MISS), .ro⟩,
   ⟨1024, 4, 256, 0, (fun n => SEP_HIT n), .ro⟩]

/-- The registers of the SEP page that hold an RW or RWS field, in ascending order (R106). -/
def sepChk : List ChkGroup :=
  []

/-! ## FDB (page 0x022; 08_forwarding_and_redundancy.md, R236) -/

/-- FDB_CTL_LEARN, offset 0x040, bits [30:16] (R236). -/
def FDB_CTL_LEARN : Fld := ⟨4458512, 15, 16380⟩
/-- FDB_CTL_AGE, offset 0x040, bits [15:0] (R236). -/
def FDB_CTL_AGE : Fld := ⟨4458496, 16, 300⟩
/-- FDB_USE_MULTI, offset 0x044, bits [31:16] (R236). -/
def FDB_USE_MULTI : Fld := ⟨4458640, 16, 0⟩
/-- FDB_USE_UNI, offset 0x044, bits [15:0] (R236). -/
def FDB_USE_UNI : Fld := ⟨4458624, 16, 0⟩
/-- FDB_MISS, offset 0x048, bits [31:0] (R236). -/
def FDB_MISS : Fld := ⟨4458752, 32, 0⟩
/-- FDB_VLANDROP, offset 0x04C, bits [31:0] (R236). -/
def FDB_VLANDROP : Fld := ⟨4458880, 32, 0⟩
/-- FDB_LEARNFAIL, offset 0x050, bits [31:0] (R236). -/
def FDB_LEARNFAIL : Fld := ⟨4459008, 32, 0⟩

/-- Rows of the FDB page. -/
def fdbRows : List Row :=
  [⟨64, 0, 1, 16, (fun _ => FDB_CTL_LEARN), .rw⟩,
   ⟨64, 0, 1, 0, (fun _ => FDB_CTL_AGE), .rw⟩,
   ⟨68, 0, 1, 16, (fun _ => FDB_USE_MULTI), .ro⟩,
   ⟨68, 0, 1, 0, (fun _ => FDB_USE_UNI), .ro⟩,
   ⟨72, 0, 1, 0, (fun _ => FDB_MISS), .ro⟩,
   ⟨76, 0, 1, 0, (fun _ => FDB_VLANDROP), .ro⟩,
   ⟨80, 0, 1, 0, (fun _ => FDB_LEARNFAIL), .ro⟩]

/-- The registers of the FDB page that hold an RW or RWS field, in ascending order (R106). -/
def fdbChk : List ChkGroup :=
  [⟨64, 0, 1, [0]⟩]

/-! ## GATE (page 0x023; 08_forwarding_and_redundancy.md, R236) -/

/-- GATE_PSTAT_ENTRYn, offset 0x100 + 0x20 n, bits [31:24] (R236). -/
def GATE_PSTAT_ENTRY (n : Nat) : Fld := ⟨4595736 + n * 1024, 8, 0⟩
/-- GATE_PSTAT_STATESn, offset 0x100 + 0x20 n, bits [23:16] (R236). -/
def GATE_PSTAT_STATES (n : Nat) : Fld := ⟨4595728 + n * 1024, 8, 255⟩
/-- GATE_PSTAT_ENTRIESn, offset 0x100 + 0x20 n, bits [15:8] (R236). -/
def GATE_PSTAT_ENTRIES (n : Nat) : Fld := ⟨4595720 + n * 1024, 8, 0⟩
/-- GATE_PSTAT_WAITINGn, offset 0x100 + 0x20 n, bits [1:1] (R236). -/
def GATE_PSTAT_WAITING (n : Nat) : Fld := ⟨4595713 + n * 1024, 1, 0⟩
/-- GATE_PSTAT_ONn, offset 0x100 + 0x20 n, bits [0:0] (R236). -/
def GATE_PSTAT_ON (n : Nat) : Fld := ⟨4595712 + n * 1024, 1, 0⟩
/-- GATE_PCRCn, offset 0x104 + 0x20 n, bits [31:0] (R236). -/
def GATE_PCRC (n : Nat) : Fld := ⟨4595840 + n * 1024, 32, 0⟩
/-- GATE_CYCLEn, offset 0x108 + 0x20 n, bits [31:0] (R236). -/
def GATE_CYCLE (n : Nat) : Fld := ⟨4595968 + n * 1024, 32, 0⟩
/-- GATE_CBSA_ENn, offset 0x10C + 0x20 n, bits [31:31] (R236). -/
def GATE_CBSA_EN (n : Nat) : Fld := ⟨4596127 + n * 1024, 1, 0⟩
/-- GATE_CBSA_CLASSn, offset 0x10C + 0x20 n, bits [30:28] (R236). -/
def GATE_CBSA_CLASS (n : Nat) : Fld := ⟨4596124 + n * 1024, 3, 0⟩
/-- GATE_CBSA_SLOPEn, offset 0x10C + 0x20 n, bits [27:0] (R236). -/
def GATE_CBSA_SLOPE (n : Nat) : Fld := ⟨4596096 + n * 1024, 28, 0⟩
/-- GATE_CBSB_ENn, offset 0x110 + 0x20 n, bits [31:31] (R236). -/
def GATE_CBSB_EN (n : Nat) : Fld := ⟨4596255 + n * 1024, 1, 0⟩
/-- GATE_CBSB_CLASSn, offset 0x110 + 0x20 n, bits [30:28] (R236). -/
def GATE_CBSB_CLASS (n : Nat) : Fld := ⟨4596252 + n * 1024, 3, 0⟩
/-- GATE_CBSB_SLOPEn, offset 0x110 + 0x20 n, bits [27:0] (R236). -/
def GATE_CBSB_SLOPE (n : Nat) : Fld := ⟨4596224 + n * 1024, 28, 0⟩

/-- Rows of the GATE page. -/
def gateRows : List Row :=
  [⟨256, 32, 14, 24, (fun n => GATE_PSTAT_ENTRY n), .ro⟩,
   ⟨256, 32, 14, 16, (fun n => GATE_PSTAT_STATES n), .ro⟩,
   ⟨256, 32, 14, 8, (fun n => GATE_PSTAT_ENTRIES n), .ro⟩,
   ⟨256, 32, 14, 1, (fun n => GATE_PSTAT_WAITING n), .ro⟩,
   ⟨256, 32, 14, 0, (fun n => GATE_PSTAT_ON n), .ro⟩,
   ⟨260, 32, 14, 0, (fun n => GATE_PCRC n), .ro⟩,
   ⟨264, 32, 14, 0, (fun n => GATE_CYCLE n), .ro⟩,
   ⟨268, 32, 14, 31, (fun n => GATE_CBSA_EN n), .rw⟩,
   ⟨268, 32, 14, 28, (fun n => GATE_CBSA_CLASS n), .rw⟩,
   ⟨268, 32, 14, 0, (fun n => GATE_CBSA_SLOPE n), .rw⟩,
   ⟨272, 32, 14, 31, (fun n => GATE_CBSB_EN n), .rw⟩,
   ⟨272, 32, 14, 28, (fun n => GATE_CBSB_CLASS n), .rw⟩,
   ⟨272, 32, 14, 0, (fun n => GATE_CBSB_SLOPE n), .rw⟩]

/-- The registers of the GATE page that hold an RW or RWS field, in ascending order (R106). -/
def gateChk : List ChkGroup :=
  [⟨268, 32, 14, [0, 4]⟩]

/-! ## FRER (page 0x024; 08_forwarding_and_redundancy.md, R237) -/

/-- FRER_SEL, offset 0x040, bits [10:0] (R237). -/
def FRER_SEL : Fld := ⟨4720640, 11, 0⟩
/-- FRER_STAT_LAST, offset 0x044, bits [31:16] (R237). -/
def FRER_STAT_LAST : Fld := ⟨4720784, 16, 0⟩
/-- FRER_STAT_VALID, offset 0x044, bits [11:0] (R237). -/
def FRER_STAT_VALID : Fld := ⟨4720768, 12, 0⟩
/-- FRER_CNTn, offset 0x080 + 0x4 n, bits [31:0] (R237). -/
def FRER_CNT (n : Nat) : Fld := ⟨4722688 + n * 128, 32, 0⟩

/-- Rows of the FRER page. -/
def frerRows : List Row :=
  [⟨64, 0, 1, 0, (fun _ => FRER_SEL), .rw⟩,
   ⟨68, 0, 1, 16, (fun _ => FRER_STAT_LAST), .ro⟩,
   ⟨68, 0, 1, 0, (fun _ => FRER_STAT_VALID), .ro⟩,
   ⟨128, 4, 13, 0, (fun n => FRER_CNT n), .ro⟩]

/-- The registers of the FRER page that hold an RW or RWS field, in ascending order (R106). -/
def frerChk : List ChkGroup :=
  [⟨64, 0, 1, [0]⟩]

/-! ## CHURN (page 0x028; 09_churn.md, R273) -/

/-- CHURN_CTL_SPLIT_RETRY, offset 0x040, bits [31:16] (R273). -/
def CHURN_CTL_SPLIT_RETRY : Fld := ⟨5244944, 16, 100⟩
/-- CHURN_CTL_CPL_TRIG, offset 0x040, bits [4:4] (R273). -/
def CHURN_CTL_CPL_TRIG : Fld := ⟨5244932, 1, 1⟩
/-- CHURN_CTL_AUTH, offset 0x040, bits [3:3] (R273). -/
def CHURN_CTL_AUTH : Fld := ⟨5244931, 1, 0⟩
/-- CHURN_CTL_INHIBIT, offset 0x040, bits [1:1] (R273). -/
def CHURN_CTL_INHIBIT : Fld := ⟨5244929, 1, 0⟩
/-- CHURN_CTL_MODE, offset 0x040, bits [0:0] (R273). -/
def CHURN_CTL_MODE : Fld := ⟨5244928, 1, 0⟩
/-- CHURN_LEAD, offset 0x044, bits [15:0] (R273). -/
def CHURN_LEAD : Fld := ⟨5245056, 16, 1000⟩
/-- CHURN_STAT_LAST_CAUSE, offset 0x048, bits [31:24] (R273). -/
def CHURN_STAT_LAST_CAUSE : Fld := ⟨5245208, 8, 0⟩
/-- CHURN_STAT_FAILURES, offset 0x048, bits [17:16] (R273). -/
def CHURN_STAT_FAILURES : Fld := ⟨5245200, 2, 0⟩
/-- CHURN_STAT_ATTEMPT, offset 0x048, bits [15:8] (R273). -/
def CHURN_STAT_ATTEMPT : Fld := ⟨5245192, 8, 0⟩
/-- CHURN_STAT_DEFERRED, offset 0x048, bits [6:6] (R273). -/
def CHURN_STAT_DEFERRED : Fld := ⟨5245190, 1, 0⟩
/-- CHURN_STAT_SINGLE_LINE, offset 0x048, bits [5:5] (R273). -/
def CHURN_STAT_SINGLE_LINE : Fld := ⟨5245189, 1, 0⟩
/-- CHURN_STAT_LEADER, offset 0x048, bits [4:4] (R273). -/
def CHURN_STAT_LEADER : Fld := ⟨5245188, 1, 0⟩
/-- CHURN_STAT_PHASE, offset 0x048, bits [3:0] (R273). -/
def CHURN_STAT_PHASE : Fld := ⟨5245184, 4, 0⟩
/-- CHURN_COUNT, offset 0x04C, bits [31:0] (R273). -/
def CHURN_COUNT : Fld := ⟨5245312, 32, 0⟩
/-- CHURN_DIGESTn, offset 0x050 + 0x4 n, bits [31:0] (R273). -/
def CHURN_DIGEST (n : Nat) : Fld := ⟨5245440 + n * 128, 32, 0⟩
/-- CHURN_COMMIT, offset 0x060, bits [63:0] (R273). -/
def CHURN_COMMIT : Fld := ⟨5245952, 64, 0⟩
/-- CHURN_SELF_HANDLE, offset 0x068, bits [31:16] (R273). -/
def CHURN_SELF_HANDLE : Fld := ⟨5246224, 16, 0⟩
/-- CHURN_SELF_CAR, offset 0x068, bits [15:8] (R273). -/
def CHURN_SELF_CAR : Fld := ⟨5246216, 8, 0⟩
/-- CHURN_SELF_CARS, offset 0x068, bits [7:0] (R273). -/
def CHURN_SELF_CARS : Fld := ⟨5246208, 8, 0⟩
/-- CHURN_LAST, offset 0x06C, bits [31:0] (R273). -/
def CHURN_LAST : Fld := ⟨5246336, 32, 0⟩
/-- CHURN_CNTn, offset 0x080 + 0x4 n, bits [31:0] (R274). -/
def CHURN_CNT (n : Nat) : Fld := ⟨5246976 + n * 128, 32, 0⟩

/-- Rows of the CHURN page. -/
def churnRows : List Row :=
  [⟨64, 0, 1, 16, (fun _ => CHURN_CTL_SPLIT_RETRY), .rws⟩,
   ⟨64, 0, 1, 4, (fun _ => CHURN_CTL_CPL_TRIG), .rws⟩,
   ⟨64, 0, 1, 3, (fun _ => CHURN_CTL_AUTH), .rws⟩,
   ⟨64, 0, 1, 1, (fun _ => CHURN_CTL_INHIBIT), .rw⟩,
   ⟨64, 0, 1, 0, (fun _ => CHURN_CTL_MODE), .rws⟩,
   ⟨68, 0, 1, 0, (fun _ => CHURN_LEAD), .rws⟩,
   ⟨72, 0, 1, 24, (fun _ => CHURN_STAT_LAST_CAUSE), .ro⟩,
   ⟨72, 0, 1, 16, (fun _ => CHURN_STAT_FAILURES), .ro⟩,
   ⟨72, 0, 1, 8, (fun _ => CHURN_STAT_ATTEMPT), .ro⟩,
   ⟨72, 0, 1, 6, (fun _ => CHURN_STAT_DEFERRED), .ro⟩,
   ⟨72, 0, 1, 5, (fun _ => CHURN_STAT_SINGLE_LINE), .ro⟩,
   ⟨72, 0, 1, 4, (fun _ => CHURN_STAT_LEADER), .ro⟩,
   ⟨72, 0, 1, 0, (fun _ => CHURN_STAT_PHASE), .ro⟩,
   ⟨76, 0, 1, 0, (fun _ => CHURN_COUNT), .ro⟩,
   ⟨80, 4, 4, 0, (fun n => CHURN_DIGEST n), .ro⟩,
   ⟨96, 0, 1, 0, (fun _ => CHURN_COMMIT), .ro⟩,
   ⟨104, 0, 1, 16, (fun _ => CHURN_SELF_HANDLE), .ro⟩,
   ⟨104, 0, 1, 8, (fun _ => CHURN_SELF_CAR), .ro⟩,
   ⟨104, 0, 1, 0, (fun _ => CHURN_SELF_CARS), .ro⟩,
   ⟨108, 0, 1, 0, (fun _ => CHURN_LAST), .ro⟩,
   ⟨128, 4, 16, 0, (fun n => CHURN_CNT n), .ro⟩]

/-- The registers of the CHURN page that hold an RW or RWS field, in ascending order (R106). -/
def churnChk : List ChkGroup :=
  [⟨64, 0, 1, [0]⟩, ⟨68, 0, 1, [0]⟩]

/-! ## TIME (page 0x030; 11_train_time.md, R323) -/

/-- TIME_CTL_REVERT, offset 0x040, bits [31:24] (R323). -/
def TIME_CTL_REVERT : Fld := ⟨6293528, 8, 10⟩
/-- TIME_CTL_SYNC_THR, offset 0x040, bits [23:16] (R323). -/
def TIME_CTL_SYNC_THR : Fld := ⟨6293520, 8, 10⟩
/-- TIME_CTL_PREF, offset 0x040, bits [3:3] (R323). -/
def TIME_CTL_PREF : Fld := ⟨6293507, 1, 0⟩
/-- TIME_CTL_SELECT, offset 0x040, bits [1:0] (R323). -/
def TIME_CTL_SELECT : Fld := ⟨6293504, 2, 2⟩
/-- TIME_STAT_TWIN_SKEW, offset 0x044, bits [9:9] (R323). -/
def TIME_STAT_TWIN_SKEW : Fld := ⟨6293641, 1, 0⟩
/-- TIME_STAT_STEPPED, offset 0x044, bits [8:8] (R323). -/
def TIME_STAT_STEPPED : Fld := ⟨6293640, 1, 0⟩
/-- TIME_STAT_HOLDOVER, offset 0x044, bits [7:7] (R323). -/
def TIME_STAT_HOLDOVER : Fld := ⟨6293639, 1, 0⟩
/-- TIME_STAT_SLEWING, offset 0x044, bits [6:6] (R323). -/
def TIME_STAT_SLEWING : Fld := ⟨6293638, 1, 0⟩
/-- TIME_STAT_SEL, offset 0x044, bits [5:5] (R323). -/
def TIME_STAT_SEL : Fld := ⟨6293637, 1, 0⟩
/-- TIME_STAT_GM1_SELF, offset 0x044, bits [3:3] (R323). -/
def TIME_STAT_GM1_SELF : Fld := ⟨6293635, 1, 0⟩
/-- TIME_STAT_GM0_SELF, offset 0x044, bits [2:2] (R323). -/
def TIME_STAT_GM0_SELF : Fld := ⟨6293634, 1, 0⟩
/-- TIME_STAT_SYNC1, offset 0x044, bits [1:1] (R323). -/
def TIME_STAT_SYNC1 : Fld := ⟨6293633, 1, 0⟩
/-- TIME_STAT_SYNC0, offset 0x044, bits [0:0] (R323). -/
def TIME_STAT_SYNC0 : Fld := ⟨6293632, 1, 0⟩
/-- TIME_OFFn, offset 0x060 + 0x4 n, bits [31:0] (R323). -/
def TIME_OFF (n : Nat) : Fld := ⟨6294528 + n * 128, 32, 0⟩
/-- TIME_GMn, offset 0x068 + 0x8 n, bits [63:0] (R323). -/
def TIME_GM (n : Nat) : Fld := ⟨6294784 + n * 256, 64, 0⟩
/-- TIME_DOM_ENn, offset 0x080 + 0x4 n, bits [31:31] (R323). -/
def TIME_DOM_EN (n : Nat) : Fld := ⟨6295583 + n * 128, 1, 1⟩
/-- TIME_DOM_GM_CAPn, offset 0x080 + 0x4 n, bits [30:30] (R323). -/
def TIME_DOM_GM_CAP (n : Nat) : Fld := ⟨6295582 + n * 128, 1, 0⟩
/-- TIME_DOM_LOG_ANNn, offset 0x080 + 0x4 n, bits [27:24] (R323). -/
def TIME_DOM_LOG_ANN (n : Nat) : Fld := ⟨6295576 + n * 128, 4, 0⟩
/-- TIME_DOM_LOG_SYNCn, offset 0x080 + 0x4 n, bits [23:20] (R323). -/
def TIME_DOM_LOG_SYNC (n : Nat) : Fld := ⟨6295572 + n * 128, 4, 12⟩
/-- TIME_DOM_PPS_ENn, offset 0x080 + 0x4 n, bits [19:19] (R323). -/
def TIME_DOM_PPS_EN (n : Nat) : Fld := ⟨6295571 + n * 128, 1, 0⟩
/-- TIME_DOM_PPS_CAPn, offset 0x080 + 0x4 n, bits [18:16] (R323). -/
def TIME_DOM_PPS_CAP (n : Nat) : Fld := ⟨6295568 + n * 128, 3, 0⟩
/-- TIME_DOM_PRIO1n, offset 0x080 + 0x4 n, bits [15:8] (R323). -/
def TIME_DOM_PRIO1 (n : Nat) : Fld := ⟨6295560 + n * 128, 8, 246⟩
/-- TIME_DOM_PRIO2n, offset 0x080 + 0x4 n, bits [7:0] (R323). -/
def TIME_DOM_PRIO2 (n : Nat) : Fld := ⟨6295552 + n * 128, 8, 248⟩
/-- TIME_PORTEN, offset 0x090, bits [14:0] (R323). -/
def TIME_PORTEN : Fld := ⟨6296064, 15, 16387⟩
/-- TIME_DLYLIM, offset 0x094, bits [15:0] (R323). -/
def TIME_DLYLIM : Fld := ⟨6296192, 16, 800⟩
/-- TIME_CAPSKEW, offset 0x098, bits [31:0] (R323). -/
def TIME_CAPSKEW : Fld := ⟨6296320, 32, 0⟩
/-- TIME_PHYLAT_EGRESSn, offset 0x0A0 + 0x4 n, bits [31:16] (R323). -/
def TIME_PHYLAT_EGRESS (n : Nat) : Fld := ⟨6296592 + n * 128, 16, 0⟩
/-- TIME_PHYLAT_INGRESSn, offset 0x0A0 + 0x4 n, bits [15:0] (R323). -/
def TIME_PHYLAT_INGRESS (n : Nat) : Fld := ⟨6296576 + n * 128, 16, 0⟩
/-- TIME_LINKDLY_VALIDn, offset 0x0E0 + 0x4 n, bits [31:31] (R323). -/
def TIME_LINKDLY_VALID (n : Nat) : Fld := ⟨6298655 + n * 128, 1, 0⟩
/-- TIME_LINKDLY_ASCAPABLEn, offset 0x0E0 + 0x4 n, bits [30:30] (R323). -/
def TIME_LINKDLY_ASCAPABLE (n : Nat) : Fld := ⟨6298654 + n * 128, 1, 0⟩
/-- TIME_LINKDLYn, offset 0x0E0 + 0x4 n, bits [23:0] (R323). -/
def TIME_LINKDLY (n : Nat) : Fld := ⟨6298624 + n * 128, 24, 0⟩
/-- TIME_GM_SEC_LO, offset 0x120, bits [31:0] (R323). -/
def TIME_GM_SEC_LO : Fld := ⟨6300672, 32, 0⟩
/-- TIME_GM_SEC_HI, offset 0x124, bits [15:0] (R323). -/
def TIME_GM_SEC_HI : Fld := ⟨6300800, 16, 0⟩

/-- Rows of the TIME page. -/
def timeRows0 : List Row :=
  [⟨64, 0, 1, 24, (fun _ => TIME_CTL_REVERT), .rws⟩,
   ⟨64, 0, 1, 16, (fun _ => TIME_CTL_SYNC_THR), .rws⟩,
   ⟨64, 0, 1, 3, (fun _ => TIME_CTL_PREF), .rws⟩,
   ⟨64, 0, 1, 0, (fun _ => TIME_CTL_SELECT), .rws⟩,
   ⟨68, 0, 1, 9, (fun _ => TIME_STAT_TWIN_SKEW), .ro⟩,
   ⟨68, 0, 1, 8, (fun _ => TIME_STAT_STEPPED), .ro⟩,
   ⟨68, 0, 1, 7, (fun _ => TIME_STAT_HOLDOVER), .ro⟩,
   ⟨68, 0, 1, 6, (fun _ => TIME_STAT_SLEWING), .ro⟩,
   ⟨68, 0, 1, 5, (fun _ => TIME_STAT_SEL), .ro⟩,
   ⟨68, 0, 1, 3, (fun _ => TIME_STAT_GM1_SELF), .ro⟩,
   ⟨68, 0, 1, 2, (fun _ => TIME_STAT_GM0_SELF), .ro⟩,
   ⟨68, 0, 1, 1, (fun _ => TIME_STAT_SYNC1), .ro⟩,
   ⟨68, 0, 1, 0, (fun _ => TIME_STAT_SYNC0), .ro⟩,
   ⟨96, 4, 2, 0, (fun n => TIME_OFF n), .ro⟩,
   ⟨104, 8, 2, 0, (fun n => TIME_GM n), .ro⟩,
   ⟨128, 4, 2, 31, (fun n => TIME_DOM_EN n), .rws⟩,
   ⟨128, 4, 2, 30, (fun n => TIME_DOM_GM_CAP n), .rws⟩,
   ⟨128, 4, 2, 24, (fun n => TIME_DOM_LOG_ANN n), .rws⟩,
   ⟨128, 4, 2, 20, (fun n => TIME_DOM_LOG_SYNC n), .rws⟩,
   ⟨128, 4, 2, 19, (fun n => TIME_DOM_PPS_EN n), .rws⟩,
   ⟨128, 4, 2, 16, (fun n => TIME_DOM_PPS_CAP n), .rws⟩,
   ⟨128, 4, 2, 8, (fun n => TIME_DOM_PRIO1 n), .rws⟩,
   ⟨128, 4, 2, 0, (fun n => TIME_DOM_PRIO2 n), .rws⟩,
   ⟨144, 0, 1, 0, (fun _ => TIME_PORTEN), .rws⟩]

/-- Rows of the TIME page. -/
def timeRows1 : List Row :=
  [⟨148, 0, 1, 0, (fun _ => TIME_DLYLIM), .rws⟩,
   ⟨152, 0, 1, 0, (fun _ => TIME_CAPSKEW), .ro⟩,
   ⟨160, 4, 14, 16, (fun n => TIME_PHYLAT_EGRESS n), .rw⟩,
   ⟨160, 4, 14, 0, (fun n => TIME_PHYLAT_INGRESS n), .rw⟩,
   ⟨224, 4, 15, 31, (fun n => TIME_LINKDLY_VALID n), .ro⟩,
   ⟨224, 4, 15, 30, (fun n => TIME_LINKDLY_ASCAPABLE n), .ro⟩,
   ⟨224, 4, 15, 0, (fun n => TIME_LINKDLY n), .ro⟩,
   ⟨288, 0, 1, 0, (fun _ => TIME_GM_SEC_LO), .rw⟩,
   ⟨292, 0, 1, 0, (fun _ => TIME_GM_SEC_HI), .rw⟩]

/-- All rows of the TIME page. -/
def timeRows : List Row := timeRows0 ++ timeRows1

/-- The registers of the TIME page that hold an RW or RWS field, in ascending order (R106). -/
def timeChk : List ChkGroup :=
  [⟨64, 0, 1, [0]⟩, ⟨128, 4, 2, [0]⟩, ⟨144, 0, 1, [0]⟩, ⟨148, 0, 1, [0]⟩, ⟨160, 4, 14, [0]⟩, ⟨288, 0, 1, [0]⟩, ⟨292, 0, 1, [0]⟩]

/-! ## TRIG (page 0x031; 11_train_time.md, R324) -/

/-- TRIG_FIRED, offset 0x040, bits [31:0] (R324). -/
def TRIG_FIRED : Fld := ⟨6424576, 32, 0⟩
/-- TRIG_LATE, offset 0x044, bits [31:0] (R324). -/
def TRIG_LATE : Fld := ⟨6424704, 32, 0⟩
/-- TRIG_CAPSTAT_LEVEL, offset 0x048, bits [15:8] (R324). -/
def TRIG_CAPSTAT_LEVEL : Fld := ⟨6424840, 8, 0⟩
/-- TRIG_CAPSTAT_OVERRUN, offset 0x048, bits [7:0] (R324). -/
def TRIG_CAPSTAT_OVERRUN : Fld := ⟨6424832, 8, 0⟩
/-- TRIG_OUT_ACTIVE_ONLYn, offset 0x080 + 0x4 n, bits [31:31] (R324). -/
def TRIG_OUT_ACTIVE_ONLY (n : Nat) : Fld := ⟨6426655 + n * 128, 1, 0⟩
/-- TRIG_OUT_INVERTn, offset 0x080 + 0x4 n, bits [30:30] (R324). -/
def TRIG_OUT_INVERT (n : Nat) : Fld := ⟨6426654 + n * 128, 1, 0⟩
/-- TRIG_OUT_TOGGLEn, offset 0x080 + 0x4 n, bits [29:29] (R324). -/
def TRIG_OUT_TOGGLE (n : Nat) : Fld := ⟨6426653 + n * 128, 1, 0⟩
/-- TRIG_OUT_WIDTHn, offset 0x080 + 0x4 n, bits [23:0] (R324). -/
def TRIG_OUT_WIDTH (n : Nat) : Fld := ⟨6426624 + n * 128, 24, 1000⟩
/-- TRIG_CAPCFG_FILTERn, offset 0x0C0 + 0x4 n, bits [5:4] (R324). -/
def TRIG_CAPCFG_FILTER (n : Nat) : Fld := ⟨6428676 + n * 128, 2, 0⟩
/-- TRIG_CAPCFG_EDGEn, offset 0x0C0 + 0x4 n, bits [1:0] (R324). -/
def TRIG_CAPCFG_EDGE (n : Nat) : Fld := ⟨6428672 + n * 128, 2, 0⟩
/-- TRIG_CMP_USEn, offset 0x100 + 0x4 n, bits [31:24] (R324). -/
def TRIG_CMP_USE (n : Nat) : Fld := ⟨6430744 + n * 128, 8, 255⟩
/-- TRIG_CMP_HELD_TCSn, offset 0x100 + 0x4 n, bits [18:18] (R324). -/
def TRIG_CMP_HELD_TCS (n : Nat) : Fld := ⟨6430738 + n * 128, 1, 0⟩
/-- TRIG_CMP_PERIODICn, offset 0x100 + 0x4 n, bits [17:17] (R324). -/
def TRIG_CMP_PERIODIC (n : Nat) : Fld := ⟨6430737 + n * 128, 1, 0⟩
/-- TRIG_CMP_ARMEDn, offset 0x100 + 0x4 n, bits [16:16] (R324). -/
def TRIG_CMP_ARMED (n : Nat) : Fld := ⟨6430736 + n * 128, 1, 0⟩
/-- TRIG_CMP_FIRESn, offset 0x100 + 0x4 n, bits [15:0] (R324). -/
def TRIG_CMP_FIRES (n : Nat) : Fld := ⟨6430720 + n * 128, 16, 0⟩
/-- TRIG_TGTn, offset 0x200 + 0x8 n, bits [63:0] (R324). -/
def TRIG_TGT (n : Nat) : Fld := ⟨6438912 + n * 256, 64, 0⟩
/-- TRIG_CAPn, offset 0x300 + 0x10 n, bits [63:0] (R324). -/
def TRIG_CAP (n : Nat) : Fld := ⟨6447104 + n * 512, 64, 0⟩
/-- TRIG_CAP_FLG_RISINGn, offset 0x308 + 0x10 n, bits [1:1] (R324). -/
def TRIG_CAP_FLG_RISING (n : Nat) : Fld := ⟨6447361 + n * 512, 1, 0⟩
/-- TRIG_CAP_FLG_HALFn, offset 0x308 + 0x10 n, bits [0:0] (R324). -/
def TRIG_CAP_FLG_HALF (n : Nat) : Fld := ⟨6447360 + n * 512, 1, 0⟩
/-- TRIG_CAP_CNTn, offset 0x30C + 0x10 n, bits [31:0] (R324). -/
def TRIG_CAP_CNT (n : Nat) : Fld := ⟨6447488 + n * 512, 32, 0⟩

/-- Rows of the TRIG page. -/
def trigRows : List Row :=
  [⟨64, 0, 1, 0, (fun _ => TRIG_FIRED), .w1c⟩,
   ⟨68, 0, 1, 0, (fun _ => TRIG_LATE), .w1c⟩,
   ⟨72, 0, 1, 8, (fun _ => TRIG_CAPSTAT_LEVEL), .ro⟩,
   ⟨72, 0, 1, 0, (fun _ => TRIG_CAPSTAT_OVERRUN), .w1c⟩,
   ⟨128, 4, 8, 31, (fun n => TRIG_OUT_ACTIVE_ONLY n), .rw⟩,
   ⟨128, 4, 8, 30, (fun n => TRIG_OUT_INVERT n), .rw⟩,
   ⟨128, 4, 8, 29, (fun n => TRIG_OUT_TOGGLE n), .rw⟩,
   ⟨128, 4, 8, 0, (fun n => TRIG_OUT_WIDTH n), .rw⟩,
   ⟨192, 4, 8, 4, (fun n => TRIG_CAPCFG_FILTER n), .rw⟩,
   ⟨192, 4, 8, 0, (fun n => TRIG_CAPCFG_EDGE n), .rw⟩,
   ⟨256, 4, 32, 24, (fun n => TRIG_CMP_USE n), .ro⟩,
   ⟨256, 4, 32, 18, (fun n => TRIG_CMP_HELD_TCS n), .ro⟩,
   ⟨256, 4, 32, 17, (fun n => TRIG_CMP_PERIODIC n), .ro⟩,
   ⟨256, 4, 32, 16, (fun n => TRIG_CMP_ARMED n), .ro⟩,
   ⟨256, 4, 32, 0, (fun n => TRIG_CMP_FIRES n), .ro⟩,
   ⟨512, 8, 32, 0, (fun n => TRIG_TGT n), .ro⟩,
   ⟨768, 16, 8, 0, (fun n => TRIG_CAP n), .ro⟩,
   ⟨776, 16, 8, 1, (fun n => TRIG_CAP_FLG_RISING n), .ro⟩,
   ⟨776, 16, 8, 0, (fun n => TRIG_CAP_FLG_HALF n), .ro⟩,
   ⟨780, 16, 8, 0, (fun n => TRIG_CAP_CNT n), .ro⟩]

/-- The registers of the TRIG page that hold an RW or RWS field, in ascending order (R106). -/
def trigChk : List ChkGroup :=
  [⟨128, 4, 8, [0]⟩, ⟨192, 4, 8, [0]⟩]

/-! ## TLG (page 0x038; 12_telegram_engine.md, R349) -/

/-- TLG_PUBDB_CHK_ERR, offset 0x040, bits [31:31] (R349). -/
def TLG_PUBDB_CHK_ERR : Fld := ⟨7342111, 1, 0⟩
/-- TLG_PUBDB, offset 0x040, bits [10:0] (R349). -/
def TLG_PUBDB : Fld := ⟨7342080, 11, 0⟩
/-- TLG_LASTERR_KIND, offset 0x044, bits [31:28] (R349). -/
def TLG_LASTERR_KIND : Fld := ⟨7342236, 4, 0⟩
/-- TLG_LASTERR_INDEX, offset 0x044, bits [11:0] (R349). -/
def TLG_LASTERR_INDEX : Fld := ⟨7342208, 12, 0⟩
/-- TLG_CNTn, offset 0x080 + 0x4 n, bits [31:0] (R349). -/
def TLG_CNT (n : Nat) : Fld := ⟨7344128 + n * 128, 32, 0⟩

/-- Rows of the TLG page. -/
def tlgRows : List Row :=
  [⟨64, 0, 1, 31, (fun _ => TLG_PUBDB_CHK_ERR), .ro⟩,
   ⟨64, 0, 1, 0, (fun _ => TLG_PUBDB), .rw⟩,
   ⟨68, 0, 1, 28, (fun _ => TLG_LASTERR_KIND), .ro⟩,
   ⟨68, 0, 1, 0, (fun _ => TLG_LASTERR_INDEX), .ro⟩,
   ⟨128, 4, 18, 0, (fun n => TLG_CNT n), .ro⟩]

/-- The registers of the TLG page that hold an RW or RWS field, in ascending order (R106). -/
def tlgChk : List ChkGroup :=
  [⟨64, 0, 1, [0]⟩]

/-! ## TLGW (page 0x039; 12_telegram_engine.md, R350) -/

/-- TLGW_WBASE, offset 0x040, bits [2:0] (R350). -/
def TLGW_WBASE : Fld := ⟨7473152, 3, 0⟩

/-- Rows of the TLGW page. -/
def tlgwRows : List Row :=
  [⟨64, 0, 1, 0, (fun _ => TLGW_WBASE), .rw⟩]

/-- The registers of the TLGW page that hold an RW or RWS field, in ascending order (R106). -/
def tlgwChk : List ChkGroup :=
  [⟨64, 0, 1, [0]⟩]

/-! ## MBUS (page 0x040; 13_message_bus.md, R373) -/

/-- MBUS_CTL_LISTEN, offset 0x040, bits [31:31] (R373). -/
def MBUS_CTL_LISTEN (p : Nat) : Fld := ⟨8390687 + p * 131072, 1, 0⟩
/-- MBUS_CTL_ONE_SHOT, offset 0x040, bits [30:30] (R373). -/
def MBUS_CTL_ONE_SHOT (p : Nat) : Fld := ⟨8390686 + p * 131072, 1, 0⟩
/-- MBUS_CTL_BO_AUTO, offset 0x040, bits [29:29] (R373). -/
def MBUS_CTL_BO_AUTO (p : Nat) : Fld := ⟨8390685 + p * 131072, 1, 1⟩
/-- MBUS_CTL_TXPRIO, offset 0x040, bits [28:28] (R373). -/
def MBUS_CTL_TXPRIO (p : Nat) : Fld := ⟨8390684 + p * 131072, 1, 0⟩
/-- MBUS_CTL_MODE, offset 0x040, bits [27:27] (R373). -/
def MBUS_CTL_MODE (p : Nat) : Fld := ⟨8390683 + p * 131072, 1, 0⟩
/-- MBUS_CTL_ENUM, offset 0x040, bits [26:26] (R373). -/
def MBUS_CTL_ENUM (p : Nat) : Fld := ⟨8390682 + p * 131072, 1, 0⟩
/-- MBUS_CTL_SCHED_CMP, offset 0x040, bits [20:16] (R373). -/
def MBUS_CTL_SCHED_CMP (p : Nat) : Fld := ⟨8390672 + p * 131072, 5, 0⟩
/-- MBUS_CTL_SCHED_EN, offset 0x040, bits [15:15] (R373). -/
def MBUS_CTL_SCHED_EN (p : Nat) : Fld := ⟨8390671 + p * 131072, 1, 0⟩
/-- MBUS_STAT_TEC, offset 0x044, bits [31:24] (R373). -/
def MBUS_STAT_TEC (p : Nat) : Fld := ⟨8390808 + p * 131072, 8, 0⟩
/-- MBUS_STAT_REC, offset 0x044, bits [23:16] (R373). -/
def MBUS_STAT_REC (p : Nat) : Fld := ⟨8390800 + p * 131072, 8, 0⟩
/-- MBUS_STAT_SYNCED, offset 0x044, bits [8:8] (R373). -/
def MBUS_STAT_SYNCED (p : Nat) : Fld := ⟨8390792 + p * 131072, 1, 0⟩
/-- MBUS_STAT_VCAN_LOW, offset 0x044, bits [7:7] (R373). -/
def MBUS_STAT_VCAN_LOW (p : Nat) : Fld := ⟨8390791 + p * 131072, 1, 0⟩
/-- MBUS_STAT_BUS_DOM, offset 0x044, bits [6:6] (R373). -/
def MBUS_STAT_BUS_DOM (p : Nat) : Fld := ⟨8390790 + p * 131072, 1, 0⟩
/-- MBUS_STAT_THERMAL, offset 0x044, bits [5:5] (R373). -/
def MBUS_STAT_THERMAL (p : Nat) : Fld := ⟨8390789 + p * 131072, 1, 0⟩
/-- MBUS_STAT_TXD_TMO, offset 0x044, bits [4:4] (R373). -/
def MBUS_STAT_TXD_TMO (p : Nat) : Fld := ⟨8390788 + p * 131072, 1, 0⟩
/-- MBUS_STAT_TX_GATED, offset 0x044, bits [3:3] (R373). -/
def MBUS_STAT_TX_GATED (p : Nat) : Fld := ⟨8390787 + p * 131072, 1, 0⟩
/-- MBUS_STAT_ERR_STATE, offset 0x044, bits [1:0] (R373). -/
def MBUS_STAT_ERR_STATE (p : Nat) : Fld := ⟨8390784 + p * 131072, 2, 0⟩
/-- MBUS_TIMINGn, offset 0x048 + 0x4 n, bits [31:0] (R352). -/
def MBUS_TIMING (p n : Nat) : Fld := ⟨8390912 + p * 131072 + n * 128, 32, (if n = 0 then 0x20207F01 else if n = 1 then 0x0A0A1D01 else if n = 2 then 0x02020501 else 0)⟩
/-- MBUS_TS, offset 0x068, bits [31:0] (R361). -/
def MBUS_TS (p : Nat) : Fld := ⟨8391936 + p * 131072, 32, 0⟩
/-- MBUS_TXDB_CHK_ERR, offset 0x06C, bits [31:31] (R358). -/
def MBUS_TXDB_CHK_ERR (p : Nat) : Fld := ⟨8392095 + p * 131072, 1, 0⟩
/-- MBUS_TXDB_LENGTH, offset 0x06C, bits [27:16] (R358). -/
def MBUS_TXDB_LENGTH (p : Nat) : Fld := ⟨8392080 + p * 131072, 12, 0⟩
/-- MBUS_TXDB_SEND, offset 0x06C, bits [8:8] (R358). -/
def MBUS_TXDB_SEND (p : Nat) : Fld := ⟨8392072 + p * 131072, 1, 0⟩
/-- MBUS_TXDB_OBJECT, offset 0x06C, bits [7:0] (R358). -/
def MBUS_TXDB_OBJECT (p : Nat) : Fld := ⟨8392064 + p * 131072, 8, 0⟩
/-- MBUS_TXID_APPLY, offset 0x070, bits [31:31] (R364). -/
def MBUS_TXID_APPLY (p : Nat) : Fld := ⟨8392223 + p * 131072, 1, 0⟩
/-- MBUS_TXID_RTR, offset 0x070, bits [30:30] (R364). -/
def MBUS_TXID_RTR (p : Nat) : Fld := ⟨8392222 + p * 131072, 1, 0⟩
/-- MBUS_TXID_IDE, offset 0x070, bits [29:29] (R364). -/
def MBUS_TXID_IDE (p : Nat) : Fld := ⟨8392221 + p * 131072, 1, 0⟩
/-- MBUS_TXID_ID, offset 0x070, bits [28:0] (R364). -/
def MBUS_TXID_ID (p : Nat) : Fld := ⟨8392192 + p * 131072, 29, 0⟩
/-- MBUS_RECOVER, offset 0x074, bits [0:0] (R369). -/
def MBUS_RECOVER (p : Nat) : Fld := ⟨8392320 + p * 131072, 1, 0⟩
/-- MBUS_SCHED_ON, offset 0x078, bits [31:31] (R373). -/
def MBUS_SCHED_ON (p : Nat) : Fld := ⟨8392479 + p * 131072, 1, 0⟩
/-- MBUS_SCHED_WAITING, offset 0x078, bits [30:30] (R373). -/
def MBUS_SCHED_WAITING (p : Nat) : Fld := ⟨8392478 + p * 131072, 1, 0⟩
/-- MBUS_SCHED_B, offset 0x078, bits [28:24] (R373). -/
def MBUS_SCHED_B (p : Nat) : Fld := ⟨8392472 + p * 131072, 5, 0⟩
/-- MBUS_SCHED_W, offset 0x078, bits [21:16] (R373). -/
def MBUS_SCHED_W (p : Nat) : Fld := ⟨8392464 + p * 131072, 6, 0⟩
/-- MBUS_SCHED_CYCLE, offset 0x078, bits [12:8] (R373). -/
def MBUS_SCHED_CYCLE (p : Nat) : Fld := ⟨8392456 + p * 131072, 5, 0⟩
/-- MBUS_SCHED_WINDOW, offset 0x078, bits [5:0] (R373). -/
def MBUS_SCHED_WINDOW (p : Nat) : Fld := ⟨8392448 + p * 131072, 6, 0⟩
/-- MBUS_QTAILn, offset 0x080 + 0x8 n, bits [6:0] (R360). -/
def MBUS_QTAIL (p n : Nat) : Fld := ⟨8392704 + p * 131072 + n * 256, 7, 0⟩
/-- MBUS_QHEADn, offset 0x084 + 0x8 n, bits [6:0] (R360). -/
def MBUS_QHEAD (p n : Nat) : Fld := ⟨8392832 + p * 131072 + n * 256, 7, 0⟩
/-- MBUS_QFID_VALIDn, offset 0x100 + 0x8 n, bits [31:31] (R373). -/
def MBUS_QFID_VALID (p n : Nat) : Fld := ⟨8396831 + p * 131072 + n * 256, 1, 0⟩
/-- MBUS_QFID_IDEn, offset 0x100 + 0x8 n, bits [30:30] (R373). -/
def MBUS_QFID_IDE (p n : Nat) : Fld := ⟨8396830 + p * 131072 + n * 256, 1, 0⟩
/-- MBUS_QFIDn, offset 0x100 + 0x8 n, bits [28:0] (R373). -/
def MBUS_QFID (p n : Nat) : Fld := ⟨8396800 + p * 131072 + n * 256, 29, 0⟩
/-- MBUS_QFMASK_FORMATn, offset 0x104 + 0x8 n, bits [31:30] (R373). -/
def MBUS_QFMASK_FORMAT (p n : Nat) : Fld := ⟨8396958 + p * 131072 + n * 256, 2, 0⟩
/-- MBUS_QFMASKn, offset 0x104 + 0x8 n, bits [28:0] (R373). -/
def MBUS_QFMASK (p n : Nat) : Fld := ⟨8396928 + p * 131072 + n * 256, 29, 0⟩
/-- MBUS_CNTn, offset 0x180 + 0x4 n, bits [31:0] (R373). -/
def MBUS_CNT (p n : Nat) : Fld := ⟨8400896 + p * 131072 + n * 128, 32, 0⟩

/-- Rows of the MBUS page. -/
def mbusRows0 (p : Nat) : List Row :=
  [⟨64, 0, 1, 31, (fun _ => MBUS_CTL_LISTEN p), .rw⟩,
   ⟨64, 0, 1, 30, (fun _ => MBUS_CTL_ONE_SHOT p), .rw⟩,
   ⟨64, 0, 1, 29, (fun _ => MBUS_CTL_BO_AUTO p), .rw⟩,
   ⟨64, 0, 1, 28, (fun _ => MBUS_CTL_TXPRIO p), .rw⟩,
   ⟨64, 0, 1, 27, (fun _ => MBUS_CTL_MODE p), .rw⟩,
   ⟨64, 0, 1, 26, (fun _ => MBUS_CTL_ENUM p), .rw⟩,
   ⟨64, 0, 1, 16, (fun _ => MBUS_CTL_SCHED_CMP p), .rw⟩,
   ⟨64, 0, 1, 15, (fun _ => MBUS_CTL_SCHED_EN p), .rw⟩,
   ⟨68, 0, 1, 24, (fun _ => MBUS_STAT_TEC p), .ro⟩,
   ⟨68, 0, 1, 16, (fun _ => MBUS_STAT_REC p), .ro⟩,
   ⟨68, 0, 1, 8, (fun _ => MBUS_STAT_SYNCED p), .ro⟩,
   ⟨68, 0, 1, 7, (fun _ => MBUS_STAT_VCAN_LOW p), .ro⟩,
   ⟨68, 0, 1, 6, (fun _ => MBUS_STAT_BUS_DOM p), .ro⟩,
   ⟨68, 0, 1, 5, (fun _ => MBUS_STAT_THERMAL p), .ro⟩,
   ⟨68, 0, 1, 4, (fun _ => MBUS_STAT_TXD_TMO p), .ro⟩,
   ⟨68, 0, 1, 3, (fun _ => MBUS_STAT_TX_GATED p), .ro⟩,
   ⟨68, 0, 1, 0, (fun _ => MBUS_STAT_ERR_STATE p), .ro⟩,
   ⟨72, 4, 8, 0, (fun n => MBUS_TIMING p n), .ro⟩,
   ⟨104, 0, 1, 0, (fun _ => MBUS_TS p), .ro⟩,
   ⟨108, 0, 1, 31, (fun _ => MBUS_TXDB_CHK_ERR p), .ro⟩,
   ⟨108, 0, 1, 16, (fun _ => MBUS_TXDB_LENGTH p), .rw⟩,
   ⟨108, 0, 1, 8, (fun _ => MBUS_TXDB_SEND p), .rw⟩,
   ⟨108, 0, 1, 0, (fun _ => MBUS_TXDB_OBJECT p), .rw⟩,
   ⟨112, 0, 1, 31, (fun _ => MBUS_TXID_APPLY p), .rw⟩]

/-- Rows of the MBUS page. -/
def mbusRows1 (p : Nat) : List Row :=
  [⟨112, 0, 1, 30, (fun _ => MBUS_TXID_RTR p), .rw⟩,
   ⟨112, 0, 1, 29, (fun _ => MBUS_TXID_IDE p), .rw⟩,
   ⟨112, 0, 1, 0, (fun _ => MBUS_TXID_ID p), .rw⟩,
   ⟨116, 0, 1, 0, (fun _ => MBUS_RECOVER p), .wo⟩,
   ⟨120, 0, 1, 31, (fun _ => MBUS_SCHED_ON p), .ro⟩,
   ⟨120, 0, 1, 30, (fun _ => MBUS_SCHED_WAITING p), .ro⟩,
   ⟨120, 0, 1, 24, (fun _ => MBUS_SCHED_B p), .ro⟩,
   ⟨120, 0, 1, 16, (fun _ => MBUS_SCHED_W p), .ro⟩,
   ⟨120, 0, 1, 8, (fun _ => MBUS_SCHED_CYCLE p), .ro⟩,
   ⟨120, 0, 1, 0, (fun _ => MBUS_SCHED_WINDOW p), .ro⟩,
   ⟨128, 8, 4, 0, (fun n => MBUS_QTAIL p n), .ro⟩,
   ⟨132, 8, 4, 0, (fun n => MBUS_QHEAD p n), .rw⟩,
   ⟨256, 8, 16, 31, (fun n => MBUS_QFID_VALID p n), .rw⟩,
   ⟨256, 8, 16, 30, (fun n => MBUS_QFID_IDE p n), .rw⟩,
   ⟨256, 8, 16, 0, (fun n => MBUS_QFID p n), .rw⟩,
   ⟨260, 8, 16, 30, (fun n => MBUS_QFMASK_FORMAT p n), .rw⟩,
   ⟨260, 8, 16, 0, (fun n => MBUS_QFMASK p n), .rw⟩,
   ⟨384, 4, 18, 0, (fun n => MBUS_CNT p n), .ro⟩]

/-- All rows of the MBUS page. -/
def mbusRows (p : Nat) : List Row := mbusRows0 p ++ mbusRows1 p

/-- The registers of the MBUS page that hold an RW or RWS field, in ascending order (R106). -/
def mbusChk : List ChkGroup :=
  [⟨64, 0, 1, [0]⟩, ⟨108, 0, 1, [0]⟩, ⟨112, 0, 1, [0]⟩, ⟨132, 8, 4, [0]⟩, ⟨256, 8, 16, [0, 4]⟩]

/-! ## MBW (page 0x044; 13_message_bus.md, R374) -/

/-- MBW_O_NEWn, offset 0x040 + 0x4 n, bits [31:31] (R374). -/
def MBW_O_NEW (p n : Nat) : Fld := ⟨8914975 + p * 131072 + n * 128, 1, 0⟩
/-- MBW_O_LOSTn, offset 0x040 + 0x4 n, bits [30:30] (R374). -/
def MBW_O_LOST (p n : Nat) : Fld := ⟨8914974 + p * 131072 + n * 128, 1, 0⟩
/-- MBW_O_TX_PENDn, offset 0x040 + 0x4 n, bits [29:29] (R374). -/
def MBW_O_TX_PEND (p n : Nat) : Fld := ⟨8914973 + p * 131072 + n * 128, 1, 0⟩
/-- MBW_O_STOPPEDn, offset 0x040 + 0x4 n, bits [28:28] (R374). -/
def MBW_O_STOPPED (p n : Nat) : Fld := ⟨8914972 + p * 131072 + n * 128, 1, 0⟩
/-- MBW_O_CLASHESn, offset 0x040 + 0x4 n, bits [27:26] (R374). -/
def MBW_O_CLASHES (p n : Nat) : Fld := ⟨8914970 + p * 131072 + n * 128, 2, 0⟩
/-- MBW_O_TX_RESULTn, offset 0x040 + 0x4 n, bits [25:23] (R374). -/
def MBW_O_TX_RESULT (p n : Nat) : Fld := ⟨8914967 + p * 131072 + n * 128, 3, 0⟩

/-- Rows of the MBW page. -/
def mbwRows (p : Nat) : List Row :=
  [⟨64, 4, 256, 31, (fun n => MBW_O_NEW p n), .w1c⟩,
   ⟨64, 4, 256, 30, (fun n => MBW_O_LOST p n), .w1c⟩,
   ⟨64, 4, 256, 29, (fun n => MBW_O_TX_PEND p n), .ro⟩,
   ⟨64, 4, 256, 28, (fun n => MBW_O_STOPPED p n), .ro⟩,
   ⟨64, 4, 256, 26, (fun n => MBW_O_CLASHES p n), .ro⟩,
   ⟨64, 4, 256, 23, (fun n => MBW_O_TX_RESULT p n), .ro⟩]

/-- The registers of the MBW page that hold an RW or RWS field, in ascending order (R106). -/
def mbwChk : List ChkGroup :=
  []

/-! ## SLEEP (page 0x048; 14_sleep_and_wake.md, R394) -/

/-- SLEEP_CTL_CONSENT, offset 0x040, bits [31:31] (R394). -/
def SLEEP_CTL_CONSENT : Fld := ⟨9439263, 1, 0⟩
/-- SLEEP_CTL_FW_EN, offset 0x040, bits [30:30] (R394). -/
def SLEEP_CTL_FW_EN : Fld := ⟨9439262, 1, 1⟩
/-- SLEEP_CTL_RING_EN, offset 0x040, bits [29:29] (R394). -/
def SLEEP_CTL_RING_EN : Fld := ⟨9439261, 1, 0⟩
/-- SLEEP_STAT_CAUSE, offset 0x044, bits [23:16] (R394). -/
def SLEEP_STAT_CAUSE : Fld := ⟨9439376, 8, 0⟩
/-- SLEEP_STAT_FW_RUN, offset 0x044, bits [7:4] (R394). -/
def SLEEP_STAT_FW_RUN : Fld := ⟨9439364, 4, 0⟩
/-- SLEEP_STAT_PHASE, offset 0x044, bits [3:0] (R394). -/
def SLEEP_STAT_PHASE : Fld := ⟨9439360, 4, 0⟩
/-- SLEEP_AWAKE, offset 0x048, bits [16:0] (R394). -/
def SLEEP_AWAKE : Fld := ⟨9439488, 17, 1800⟩
/-- SLEEP_WIN_PREPARE, offset 0x04C, bits [31:16] (R394). -/
def SLEEP_WIN_PREPARE : Fld := ⟨9439632, 16, 500⟩
/-- SLEEP_WIN_FALSE_WAKE, offset 0x04C, bits [15:0] (R394). -/
def SLEEP_WIN_FALSE_WAKE : Fld := ⟨9439616, 16, 2000⟩
/-- SLEEP_COMMIT, offset 0x050, bits [63:0] (R394). -/
def SLEEP_COMMIT : Fld := ⟨9439744, 64, 0⟩
/-- SLEEP_EXCL, offset 0x058, bits [63:0] (R394). -/
def SLEEP_EXCL : Fld := ⟨9440000, 64, 0⟩
/-- SLEEP_WAKE_TL_PULSE, offset 0x060, bits [31:31] (R394). -/
def SLEEP_WAKE_TL_PULSE : Fld := ⟨9440287, 1, 0⟩
/-- SLEEP_WAKE_TL_WIDTH, offset 0x060, bits [28:16] (R394). -/
def SLEEP_WAKE_TL_WIDTH : Fld := ⟨9440272, 13, 500⟩
/-- SLEEP_WAKE_TL_FWD, offset 0x060, bits [15:8] (R394). -/
def SLEEP_WAKE_TL_FWD : Fld := ⟨9440264, 8, 14⟩
/-- SLEEP_WAKE_EN, offset 0x060, bits [7:0] (R394). -/
def SLEEP_WAKE_EN : Fld := ⟨9440256, 8, 15⟩
/-- SLEEP_BUSCTL_RING_ENn, offset 0x080 + 0x20 n, bits [31:31] (R394). -/
def SLEEP_BUSCTL_RING_EN (n : Nat) : Fld := ⟨9441311 + n * 1024, 1, 0⟩
/-- SLEEP_BUSCTL_HOST_OKn, offset 0x080 + 0x20 n, bits [30:30] (R394). -/
def SLEEP_BUSCTL_HOST_OK (n : Nat) : Fld := ⟨9441310 + n * 1024, 1, 0⟩
/-- SLEEP_BUSCTL_SW_ENn, offset 0x080 + 0x20 n, bits [29:29] (R394). -/
def SLEEP_BUSCTL_SW_EN (n : Nat) : Fld := ⟨9441309 + n * 1024, 1, 0⟩
/-- SLEEP_BUSCTL_WUP_ENn, offset 0x080 + 0x20 n, bits [28:28] (R394). -/
def SLEEP_BUSCTL_WUP_EN (n : Nat) : Fld := ⟨9441308 + n * 1024, 1, 0⟩
/-- SLEEP_BUSCTL_SLEEP_STATEn, offset 0x080 + 0x20 n, bits [27:26] (R394). -/
def SLEEP_BUSCTL_SLEEP_STATE (n : Nat) : Fld := ⟨9441306 + n * 1024, 2, 3⟩
/-- SLEEP_BUSCTL_XSTATEn, offset 0x080 + 0x20 n, bits [25:24] (R394). -/
def SLEEP_BUSCTL_XSTATE (n : Nat) : Fld := ⟨9441304 + n * 1024, 2, 0⟩
/-- SLEEP_BUSCTL_TOBJn, offset 0x080 + 0x20 n, bits [23:16] (R394). -/
def SLEEP_BUSCTL_TOBJ (n : Nat) : Fld := ⟨9441296 + n * 1024, 8, 0⟩
/-- SLEEP_BUSCTL_ROBJn, offset 0x080 + 0x20 n, bits [15:8] (R394). -/
def SLEEP_BUSCTL_ROBJ (n : Nat) : Fld := ⟨9441288 + n * 1024, 8, 0⟩
/-- SLEEP_BUSCTL_RING_ERRn, offset 0x080 + 0x20 n, bits [7:7] (R394). -/
def SLEEP_BUSCTL_RING_ERR (n : Nat) : Fld := ⟨9441287 + n * 1024, 1, 0⟩
/-- SLEEP_BUSCTL_SW_DLCn, offset 0x080 + 0x20 n, bits [3:0] (R394). -/
def SLEEP_BUSCTL_SW_DLC (n : Nat) : Fld := ⟨9441280 + n * 1024, 4, 0⟩
/-- SLEEP_SWID_IDEn, offset 0x084 + 0x20 n, bits [31:31] (R394). -/
def SLEEP_SWID_IDE (n : Nat) : Fld := ⟨9441439 + n * 1024, 1, 0⟩
/-- SLEEP_SWIDn, offset 0x084 + 0x20 n, bits [28:0] (R394). -/
def SLEEP_SWID (n : Nat) : Fld := ⟨9441408 + n * 1024, 29, 0⟩
/-- SLEEP_SWMASKn, offset 0x088 + 0x20 n, bits [28:0] (R394). -/
def SLEEP_SWMASK (n : Nat) : Fld := ⟨9441536 + n * 1024, 29, 0⟩
/-- SLEEP_SWDATAn, offset 0x08C + 0x20 n, bits [63:0] (R394). -/
def SLEEP_SWDATA (n : Nat) : Fld := ⟨9441664 + n * 1024, 64, 0⟩
/-- SLEEP_BUSCONn, offset 0x094 + 0x20 n, bits [63:0] (R394). -/
def SLEEP_BUSCON (n : Nat) : Fld := ⟨9441920 + n * 1024, 64, 0⟩
/-- SLEEP_SWFECn, offset 0x09C + 0x20 n, bits [5:0] (R394). -/
def SLEEP_SWFEC (n : Nat) : Fld := ⟨9442176 + n * 1024, 6, 0⟩

/-- Rows of the SLEEP page. -/
def sleepRows0 : List Row :=
  [⟨64, 0, 1, 31, (fun _ => SLEEP_CTL_CONSENT), .rw⟩,
   ⟨64, 0, 1, 30, (fun _ => SLEEP_CTL_FW_EN), .rw⟩,
   ⟨64, 0, 1, 29, (fun _ => SLEEP_CTL_RING_EN), .rw⟩,
   ⟨68, 0, 1, 16, (fun _ => SLEEP_STAT_CAUSE), .ro⟩,
   ⟨68, 0, 1, 4, (fun _ => SLEEP_STAT_FW_RUN), .ro⟩,
   ⟨68, 0, 1, 0, (fun _ => SLEEP_STAT_PHASE), .ro⟩,
   ⟨72, 0, 1, 0, (fun _ => SLEEP_AWAKE), .rw⟩,
   ⟨76, 0, 1, 16, (fun _ => SLEEP_WIN_PREPARE), .rw⟩,
   ⟨76, 0, 1, 0, (fun _ => SLEEP_WIN_FALSE_WAKE), .rw⟩,
   ⟨80, 0, 1, 0, (fun _ => SLEEP_COMMIT), .ro⟩,
   ⟨88, 0, 1, 0, (fun _ => SLEEP_EXCL), .ro⟩,
   ⟨96, 0, 1, 31, (fun _ => SLEEP_WAKE_TL_PULSE), .wo⟩,
   ⟨96, 0, 1, 16, (fun _ => SLEEP_WAKE_TL_WIDTH), .rw⟩,
   ⟨96, 0, 1, 8, (fun _ => SLEEP_WAKE_TL_FWD), .rw⟩,
   ⟨96, 0, 1, 0, (fun _ => SLEEP_WAKE_EN), .rw⟩,
   ⟨128, 32, 4, 31, (fun n => SLEEP_BUSCTL_RING_EN n), .rw⟩,
   ⟨128, 32, 4, 30, (fun n => SLEEP_BUSCTL_HOST_OK n), .rw⟩,
   ⟨128, 32, 4, 29, (fun n => SLEEP_BUSCTL_SW_EN n), .rw⟩,
   ⟨128, 32, 4, 28, (fun n => SLEEP_BUSCTL_WUP_EN n), .rw⟩,
   ⟨128, 32, 4, 26, (fun n => SLEEP_BUSCTL_SLEEP_STATE n), .rw⟩,
   ⟨128, 32, 4, 24, (fun n => SLEEP_BUSCTL_XSTATE n), .ro⟩,
   ⟨128, 32, 4, 16, (fun n => SLEEP_BUSCTL_TOBJ n), .rw⟩,
   ⟨128, 32, 4, 8, (fun n => SLEEP_BUSCTL_ROBJ n), .rw⟩,
   ⟨128, 32, 4, 7, (fun n => SLEEP_BUSCTL_RING_ERR n), .ro⟩]

/-- Rows of the SLEEP page. -/
def sleepRows1 : List Row :=
  [⟨128, 32, 4, 0, (fun n => SLEEP_BUSCTL_SW_DLC n), .rw⟩,
   ⟨132, 32, 4, 31, (fun n => SLEEP_SWID_IDE n), .rw⟩,
   ⟨132, 32, 4, 0, (fun n => SLEEP_SWID n), .rw⟩,
   ⟨136, 32, 4, 0, (fun n => SLEEP_SWMASK n), .rw⟩,
   ⟨140, 32, 4, 0, (fun n => SLEEP_SWDATA n), .rw⟩,
   ⟨148, 32, 4, 0, (fun n => SLEEP_BUSCON n), .ro⟩,
   ⟨156, 32, 4, 0, (fun n => SLEEP_SWFEC n), .ro⟩]

/-- All rows of the SLEEP page. -/
def sleepRows : List Row := sleepRows0 ++ sleepRows1

/-- The registers of the SLEEP page that hold an RW or RWS field, in ascending order (R106). -/
def sleepChk : List ChkGroup :=
  [⟨64, 0, 1, [0]⟩, ⟨72, 0, 1, [0]⟩, ⟨76, 0, 1, [0]⟩, ⟨96, 0, 1, [0]⟩, ⟨128, 32, 4, [0, 4, 8, 12]⟩]

/-! ## LOAD (page 0x050; 15_load_channels.md, R417) -/

/-- LOAD_CTL_ADC_ALIGN, offset 0x040, bits [31:31] (R417). -/
def LOAD_CTL_ADC_ALIGN : Fld := ⟨10487839, 1, 0⟩
/-- LOAD_CTL_ADC_CMP, offset 0x040, bits [25:21] (R417). -/
def LOAD_CTL_ADC_CMP : Fld := ⟨10487829, 5, 0⟩
/-- LOAD_CTL_PWM_CMP, offset 0x040, bits [20:16] (R417). -/
def LOAD_CTL_PWM_CMP : Fld := ⟨10487824, 5, 0⟩
/-- LOAD_CTL_VREF, offset 0x040, bits [15:4] (R417). -/
def LOAD_CTL_VREF : Fld := ⟨10487812, 12, 1100⟩
/-- LOAD_CTL_UN, offset 0x040, bits [2:0] (R417). -/
def LOAD_CTL_UN : Fld := ⟨10487808, 3, 4⟩
/-- LOAD_GRPSTAT_PRESENTn, offset 0x044 + 0x1 n, bits [0:0] (R417). -/
def LOAD_GRPSTAT_PRESENT (n : Nat) : Fld := ⟨10487936 + n * 32, 1, 0⟩
/-- LOAD_GRPSTAT_UNDERn, offset 0x044 + 0x1 n, bits [1:1] (R417). -/
def LOAD_GRPSTAT_UNDER (n : Nat) : Fld := ⟨10487937 + n * 32, 1, 0⟩
/-- LOAD_GRPSTAT_SURGEn, offset 0x044 + 0x1 n, bits [2:2] (R417). -/
def LOAD_GRPSTAT_SURGE (n : Nat) : Fld := ⟨10487938 + n * 32, 1, 0⟩
/-- LOAD_GRPSTAT_OVERn, offset 0x044 + 0x1 n, bits [3:3] (R417). -/
def LOAD_GRPSTAT_OVER (n : Nat) : Fld := ⟨10487939 + n * 32, 1, 0⟩
/-- LOAD_GRPSTAT_REVERSEn, offset 0x044 + 0x1 n, bits [4:4] (R417). -/
def LOAD_GRPSTAT_REVERSE (n : Nat) : Fld := ⟨10487940 + n * 32, 1, 0⟩
/-- LOAD_VHVn, offset 0x048 + 0x2 n, bits [15:0] (R417). -/
def LOAD_VHV (n : Nat) : Fld := ⟨10488064 + n * 64, 16, 0⟩
/-- LOAD_STAT_LOSS, offset 0x050, bits [31:16] (R417). -/
def LOAD_STAT_LOSS : Fld := ⟨10488336, 16, 0⟩
/-- LOAD_STAT_ADC_SKIP, offset 0x050, bits [2:2] (R417). -/
def LOAD_STAT_ADC_SKIP : Fld := ⟨10488322, 1, 0⟩
/-- LOAD_STAT_BUDGET, offset 0x050, bits [1:1] (R417). -/
def LOAD_STAT_BUDGET : Fld := ⟨10488321, 1, 0⟩
/-- LOAD_STAT_PGND_LOST, offset 0x050, bits [0:0] (R417). -/
def LOAD_STAT_PGND_LOST : Fld := ⟨10488320, 1, 0⟩
/-- LOAD_TEMPn, offset 0x054 + 0x1 n, bits [7:0] (R417). -/
def LOAD_TEMP (n : Nat) : Fld := ⟨10488448 + n * 32, 8, 0⟩
/-- LOAD_ISNS_BALL, offset 0x058, bits [31:31] (R417). -/
def LOAD_ISNS_BALL : Fld := ⟨10488607, 1, 0⟩
/-- LOAD_ISNS_CLAIMED, offset 0x058, bits [30:30] (R417). -/
def LOAD_ISNS_CLAIMED : Fld := ⟨10488606, 1, 0⟩
/-- LOAD_ISNS_SEL, offset 0x058, bits [15:12] (R417). -/
def LOAD_ISNS_SEL : Fld := ⟨10488588, 4, 0⟩
/-- LOAD_ISNS_CHANNEL, offset 0x058, bits [7:0] (R417). -/
def LOAD_ISNS_CHANNEL : Fld := ⟨10488576, 8, 255⟩
/-- LOAD_IMB_PCT, offset 0x05C, bits [15:8] (R417). -/
def LOAD_IMB_PCT : Fld := ⟨10488712, 8, 25⟩
/-- LOAD_IMB_TIME, offset 0x05C, bits [7:0] (R417). -/
def LOAD_IMB_TIME : Fld := ⟨10488704, 8, 10⟩
/-- LOAD_BUDGET, offset 0x060, bits [15:0] (R417). -/
def LOAD_BUDGET : Fld := ⟨10488832, 16, 12000⟩

/-- Rows of the LOAD page. -/
def loadRows : List Row :=
  [⟨64, 0, 1, 31, (fun _ => LOAD_CTL_ADC_ALIGN), .rw⟩,
   ⟨64, 0, 1, 21, (fun _ => LOAD_CTL_ADC_CMP), .rw⟩,
   ⟨64, 0, 1, 16, (fun _ => LOAD_CTL_PWM_CMP), .rw⟩,
   ⟨64, 0, 1, 4, (fun _ => LOAD_CTL_VREF), .rw⟩,
   ⟨64, 0, 1, 0, (fun _ => LOAD_CTL_UN), .rw⟩,
   ⟨68, 1, 4, 0, (fun n => LOAD_GRPSTAT_PRESENT n), .ro⟩,
   ⟨68, 1, 4, 1, (fun n => LOAD_GRPSTAT_UNDER n), .ro⟩,
   ⟨68, 1, 4, 2, (fun n => LOAD_GRPSTAT_SURGE n), .ro⟩,
   ⟨68, 1, 4, 3, (fun n => LOAD_GRPSTAT_OVER n), .ro⟩,
   ⟨68, 1, 4, 4, (fun n => LOAD_GRPSTAT_REVERSE n), .ro⟩,
   ⟨72, 2, 4, 0, (fun n => LOAD_VHV n), .ro⟩,
   ⟨80, 0, 1, 16, (fun _ => LOAD_STAT_LOSS), .ro⟩,
   ⟨80, 0, 1, 2, (fun _ => LOAD_STAT_ADC_SKIP), .w1c⟩,
   ⟨80, 0, 1, 1, (fun _ => LOAD_STAT_BUDGET), .ro⟩,
   ⟨80, 0, 1, 0, (fun _ => LOAD_STAT_PGND_LOST), .ro⟩,
   ⟨84, 1, 4, 0, (fun n => LOAD_TEMP n), .ro⟩,
   ⟨88, 0, 1, 31, (fun _ => LOAD_ISNS_BALL), .ro⟩,
   ⟨88, 0, 1, 30, (fun _ => LOAD_ISNS_CLAIMED), .ro⟩,
   ⟨88, 0, 1, 12, (fun _ => LOAD_ISNS_SEL), .ro⟩,
   ⟨88, 0, 1, 0, (fun _ => LOAD_ISNS_CHANNEL), .ro⟩,
   ⟨92, 0, 1, 8, (fun _ => LOAD_IMB_PCT), .rw⟩,
   ⟨92, 0, 1, 0, (fun _ => LOAD_IMB_TIME), .rw⟩,
   ⟨96, 0, 1, 0, (fun _ => LOAD_BUDGET), .rw⟩]

/-- The registers of the LOAD page that hold an RW or RWS field, in ascending order (R106). -/
def loadChk : List ChkGroup :=
  [⟨64, 0, 1, [0]⟩, ⟨92, 0, 1, [0]⟩, ⟨96, 0, 1, [0]⟩]

/-! ## LCH (page 0x051; 15_load_channels.md, R418) -/

/-- LCH_CTL_ENn, offset 0x100 + 0x20 n, bits [31:31] (R418). -/
def LCH_CTL_EN (n : Nat) : Fld := ⟨10625055 + n * 1024, 1, 0⟩
/-- LCH_CTL_DUTYn, offset 0x100 + 0x20 n, bits [13:0] (R418). -/
def LCH_CTL_DUTY (n : Nat) : Fld := ⟨10625024 + n * 1024, 14, 10000⟩
/-- LCH_CFG_RETRY_MAXn, offset 0x104 + 0x20 n, bits [31:29] (R418). -/
def LCH_CFG_RETRY_MAX (n : Nat) : Fld := ⟨10625181 + n * 1024, 3, 4⟩
/-- LCH_CFG_RETRY_DELAYn, offset 0x104 + 0x20 n, bits [28:21] (R418). -/
def LCH_CFG_RETRY_DELAY (n : Nat) : Fld := ⟨10625173 + n * 1024, 8, 10⟩
/-- LCH_CFG_SHEDn, offset 0x104 + 0x20 n, bits [20:19] (R418). -/
def LCH_CFG_SHED (n : Nat) : Fld := ⟨10625171 + n * 1024, 2, 1⟩
/-- LCH_CFG_ALIGNn, offset 0x104 + 0x20 n, bits [18:18] (R418). -/
def LCH_CFG_ALIGN (n : Nat) : Fld := ⟨10625170 + n * 1024, 1, 0⟩
/-- LCH_CFG_COMPn, offset 0x104 + 0x20 n, bits [17:17] (R418). -/
def LCH_CFG_COMP (n : Nat) : Fld := ⟨10625169 + n * 1024, 1, 1⟩
/-- LCH_CFG_PWM_FREQn, offset 0x104 + 0x20 n, bits [16:7] (R418). -/
def LCH_CFG_PWM_FREQ (n : Nat) : Fld := ⟨10625159 + n * 1024, 10, 200⟩
/-- LCH_CFG_PARn, offset 0x104 + 0x20 n, bits [6:6] (R418). -/
def LCH_CFG_PAR (n : Nat) : Fld := ⟨10625158 + n * 1024, 1, 0⟩
/-- LCH_CFG_WIRINGn, offset 0x104 + 0x20 n, bits [5:4] (R418). -/
def LCH_CFG_WIRING (n : Nat) : Fld := ⟨10625156 + n * 1024, 2, 0⟩
/-- LCH_CFG_TYPEn, offset 0x104 + 0x20 n, bits [3:0] (R418). -/
def LCH_CFG_TYPE (n : Nat) : Fld := ⟨10625152 + n * 1024, 4, 0⟩
/-- LCH_OL_TIMEn, offset 0x108 + 0x20 n, bits [31:16] (R418). -/
def LCH_OL_TIME (n : Nat) : Fld := ⟨10625296 + n * 1024, 16, 100⟩
/-- LCH_OL_THRn, offset 0x108 + 0x20 n, bits [15:0] (R418). -/
def LCH_OL_THR (n : Nat) : Fld := ⟨10625280 + n * 1024, 16, 0⟩
/-- LCH_STAT_STATEn, offset 0x10C + 0x20 n, bits [31:28] (R418). -/
def LCH_STAT_STATE (n : Nat) : Fld := ⟨10625436 + n * 1024, 4, 0⟩
/-- LCH_STAT_BUSYn, offset 0x10C + 0x20 n, bits [27:27] (R418). -/
def LCH_STAT_BUSY (n : Nat) : Fld := ⟨10625435 + n * 1024, 1, 0⟩
/-- LCH_STAT_HELDn, offset 0x10C + 0x20 n, bits [26:26] (R418). -/
def LCH_STAT_HELD (n : Nat) : Fld := ⟨10625434 + n * 1024, 1, 0⟩
/-- LCH_STAT_LATCHn, offset 0x10C + 0x20 n, bits [25:25] (R418). -/
def LCH_STAT_LATCH (n : Nat) : Fld := ⟨10625433 + n * 1024, 1, 0⟩
/-- LCH_STAT_TRIPPEDn, offset 0x10C + 0x20 n, bits [24:24] (R418). -/
def LCH_STAT_TRIPPED (n : Nat) : Fld := ⟨10625432 + n * 1024, 1, 0⟩
/-- LCH_STAT_FAULTn, offset 0x10C + 0x20 n, bits [23:16] (R418). -/
def LCH_STAT_FAULT (n : Nat) : Fld := ⟨10625424 + n * 1024, 8, 0⟩
/-- LCH_STAT_COUNTn, offset 0x10C + 0x20 n, bits [14:12] (R418). -/
def LCH_STAT_COUNT (n : Nat) : Fld := ⟨10625420 + n * 1024, 3, 0⟩
/-- LCH_STAT_INRUSHn, offset 0x10C + 0x20 n, bits [11:11] (R418). -/
def LCH_STAT_INRUSH (n : Nat) : Fld := ⟨10625419 + n * 1024, 1, 0⟩
/-- LCH_STAT_DERATEDn, offset 0x10C + 0x20 n, bits [10:10] (R418). -/
def LCH_STAT_DERATED (n : Nat) : Fld := ⟨10625418 + n * 1024, 1, 0⟩
/-- LCH_STAT_SEG_OKn, offset 0x10C + 0x20 n, bits [8:0] (R418). -/
def LCH_STAT_SEG_OK (n : Nat) : Fld := ⟨10625408 + n * 1024, 9, 511⟩
/-- LCH_CUR_MAn, offset 0x110 + 0x20 n, bits [31:16] (R418). -/
def LCH_CUR_MA (n : Nat) : Fld := ⟨10625552 + n * 1024, 16, 0⟩
/-- LCH_CUR_CODEn, offset 0x110 + 0x20 n, bits [11:0] (R418). -/
def LCH_CUR_CODE (n : Nat) : Fld := ⟨10625536 + n * 1024, 12, 0⟩
/-- LCH_PWR_DUTYn, offset 0x114 + 0x20 n, bits [31:16] (R418). -/
def LCH_PWR_DUTY (n : Nat) : Fld := ⟨10625680 + n * 1024, 16, 0⟩
/-- LCH_PWR_LOSSn, offset 0x114 + 0x20 n, bits [15:0] (R418). -/
def LCH_PWR_LOSS (n : Nat) : Fld := ⟨10625664 + n * 1024, 16, 0⟩
/-- LCH_FAULTn, offset 0x118 + 0x20 n, bits [10:1] (R418). -/
def LCH_FAULT (n : Nat) : Fld := ⟨10625793 + n * 1024, 10, 0⟩
/-- LCH_CNT_RETRIESn, offset 0x11C + 0x20 n, bits [31:16] (R418). -/
def LCH_CNT_RETRIES (n : Nat) : Fld := ⟨10625936 + n * 1024, 16, 0⟩
/-- LCH_CNT_TRIPSn, offset 0x11C + 0x20 n, bits [15:0] (R418). -/
def LCH_CNT_TRIPS (n : Nat) : Fld := ⟨10625920 + n * 1024, 16, 0⟩

/-- Rows of the LCH page. -/
def lchRows0 : List Row :=
  [⟨256, 32, 16, 31, (fun n => LCH_CTL_EN n), .rw⟩,
   ⟨256, 32, 16, 0, (fun n => LCH_CTL_DUTY n), .rw⟩,
   ⟨260, 32, 16, 29, (fun n => LCH_CFG_RETRY_MAX n), .rw⟩,
   ⟨260, 32, 16, 21, (fun n => LCH_CFG_RETRY_DELAY n), .rw⟩,
   ⟨260, 32, 16, 19, (fun n => LCH_CFG_SHED n), .rw⟩,
   ⟨260, 32, 16, 18, (fun n => LCH_CFG_ALIGN n), .rw⟩,
   ⟨260, 32, 16, 17, (fun n => LCH_CFG_COMP n), .rw⟩,
   ⟨260, 32, 16, 7, (fun n => LCH_CFG_PWM_FREQ n), .rw⟩,
   ⟨260, 32, 16, 6, (fun n => LCH_CFG_PAR n), .rw⟩,
   ⟨260, 32, 16, 4, (fun n => LCH_CFG_WIRING n), .rw⟩,
   ⟨260, 32, 16, 0, (fun n => LCH_CFG_TYPE n), .rw⟩,
   ⟨264, 32, 16, 16, (fun n => LCH_OL_TIME n), .rw⟩,
   ⟨264, 32, 16, 0, (fun n => LCH_OL_THR n), .rw⟩,
   ⟨268, 32, 16, 28, (fun n => LCH_STAT_STATE n), .ro⟩,
   ⟨268, 32, 16, 27, (fun n => LCH_STAT_BUSY n), .ro⟩,
   ⟨268, 32, 16, 26, (fun n => LCH_STAT_HELD n), .ro⟩,
   ⟨268, 32, 16, 25, (fun n => LCH_STAT_LATCH n), .ro⟩,
   ⟨268, 32, 16, 24, (fun n => LCH_STAT_TRIPPED n), .ro⟩,
   ⟨268, 32, 16, 16, (fun n => LCH_STAT_FAULT n), .ro⟩,
   ⟨268, 32, 16, 12, (fun n => LCH_STAT_COUNT n), .ro⟩,
   ⟨268, 32, 16, 11, (fun n => LCH_STAT_INRUSH n), .ro⟩,
   ⟨268, 32, 16, 10, (fun n => LCH_STAT_DERATED n), .ro⟩,
   ⟨268, 32, 16, 0, (fun n => LCH_STAT_SEG_OK n), .ro⟩,
   ⟨272, 32, 16, 16, (fun n => LCH_CUR_MA n), .ro⟩]

/-- Rows of the LCH page. -/
def lchRows1 : List Row :=
  [⟨272, 32, 16, 0, (fun n => LCH_CUR_CODE n), .ro⟩,
   ⟨276, 32, 16, 16, (fun n => LCH_PWR_DUTY n), .ro⟩,
   ⟨276, 32, 16, 0, (fun n => LCH_PWR_LOSS n), .ro⟩,
   ⟨280, 32, 16, 1, (fun n => LCH_FAULT n), .w1c⟩,
   ⟨284, 32, 16, 16, (fun n => LCH_CNT_RETRIES n), .ro⟩,
   ⟨284, 32, 16, 0, (fun n => LCH_CNT_TRIPS n), .ro⟩]

/-- All rows of the LCH page. -/
def lchRows : List Row := lchRows0 ++ lchRows1

/-- The registers of the LCH page that hold an RW or RWS field, in ascending order (R106). -/
def lchChk : List ChkGroup :=
  [⟨256, 32, 16, [0, 4, 8]⟩]

/-! ## KEY (page 0x060; 17_keys_life_cycle_attestation.md, R466) -/

/-- KEY_LC_STATE, offset 0x040, bits [2:0] (R466). -/
def KEY_LC_STATE : Fld := ⟨12584960, 3, 0⟩
/-- KEY_LC_ENROLLED, offset 0x040, bits [8:8] (R466). -/
def KEY_LC_ENROLLED : Fld := ⟨12584968, 1, 0⟩
/-- KEY_LC_MAP, offset 0x040, bits [9:9] (R466). -/
def KEY_LC_MAP : Fld := ⟨12584969, 1, 0⟩
/-- KEY_LC_JTAG, offset 0x040, bits [10:10] (R466). -/
def KEY_LC_JTAG : Fld := ⟨12584970, 1, 0⟩
/-- KEY_LC_MAP_FAULT, offset 0x040, bits [11:11] (R466). -/
def KEY_LC_MAP_FAULT : Fld := ⟨12584971, 1, 0⟩
/-- KEY_MAINT, offset 0x044, bits [15:0] (R466). -/
def KEY_MAINT : Fld := ⟨12585088, 16, 0⟩
/-- KEY_VALID, offset 0x048, bits [63:0] (R466). -/
def KEY_VALID : Fld := ⟨12585216, 64, 0⟩
/-- KEY_TKR, offset 0x050, bits [31:0] (R466). -/
def KEY_TKR : Fld := ⟨12585472, 32, 0⟩
/-- KEY_TKR_PEND, offset 0x054, bits [31:0] (R466). -/
def KEY_TKR_PEND : Fld := ⟨12585600, 32, 0⟩
/-- KEY_SEC_MACSEC, offset 0x058, bits [0:0] (R466). -/
def KEY_SEC_MACSEC : Fld := ⟨12585728, 1, 0⟩
/-- KEY_SEC_CONF, offset 0x058, bits [1:1] (R466). -/
def KEY_SEC_CONF : Fld := ⟨12585729, 1, 0⟩
/-- KEY_SEC_KEYREQ, offset 0x058, bits [2:2] (R466). -/
def KEY_SEC_KEYREQ : Fld := ⟨12585730, 1, 0⟩
/-- KEY_CNTn, offset 0x080 + 0x4 n, bits [31:0] (R466). -/
def KEY_CNT (n : Nat) : Fld := ⟨12587008 + n * 128, 32, 0⟩

/-- Rows of the KEY page. -/
def keyRows : List Row :=
  [⟨64, 0, 1, 0, (fun _ => KEY_LC_STATE), .fz⟩,
   ⟨64, 0, 1, 8, (fun _ => KEY_LC_ENROLLED), .fz⟩,
   ⟨64, 0, 1, 9, (fun _ => KEY_LC_MAP), .fz⟩,
   ⟨64, 0, 1, 10, (fun _ => KEY_LC_JTAG), .ro⟩,
   ⟨64, 0, 1, 11, (fun _ => KEY_LC_MAP_FAULT), .fz⟩,
   ⟨68, 0, 1, 0, (fun _ => KEY_MAINT), .ro⟩,
   ⟨72, 0, 1, 0, (fun _ => KEY_VALID), .ro⟩,
   ⟨80, 0, 1, 0, (fun _ => KEY_TKR), .ro⟩,
   ⟨84, 0, 1, 0, (fun _ => KEY_TKR_PEND), .ro⟩,
   ⟨88, 0, 1, 0, (fun _ => KEY_SEC_MACSEC), .ro⟩,
   ⟨88, 0, 1, 1, (fun _ => KEY_SEC_CONF), .ro⟩,
   ⟨88, 0, 1, 2, (fun _ => KEY_SEC_KEYREQ), .ro⟩,
   ⟨128, 4, 8, 0, (fun n => KEY_CNT n), .ro⟩]

/-- The registers of the KEY page that hold an RW or RWS field, in ascending order (R106). -/
def keyChk : List ChkGroup :=
  []

/-! ## RSV (page 0x070; 19_reserve.md, R491) -/

/-- RSV_STAT_PENDING, offset 0x040, bits [23:16] (R491). -/
def RSV_STAT_PENDING : Fld := ⟨14682128, 8, 0⟩
/-- RSV_STAT_EXHAUSTED, offset 0x040, bits [10:10] (R491). -/
def RSV_STAT_EXHAUSTED : Fld := ⟨14682122, 1, 0⟩
/-- RSV_STAT_FULL, offset 0x040, bits [9:9] (R491). -/
def RSV_STAT_FULL : Fld := ⟨14682121, 1, 0⟩
/-- RSV_STAT_USED, offset 0x040, bits [8:0] (R491). -/
def RSV_STAT_USED : Fld := ⟨14682112, 9, 0⟩
/-- RSV_SPAREn, offset 0x044 + 0x1 n, bits [7:0] (R491). -/
def RSV_SPARE (n : Nat) : Fld := ⟨14682240 + n * 32, 8, 0⟩
/-- RSV_WEAR_ELEMENTn, offset 0x050 + 0x4 n, bits [31:16] (R491). -/
def RSV_WEAR_ELEMENT (n : Nat) : Fld := ⟨14682640 + n * 128, 16, 0⟩
/-- RSV_WEAR_VALUEn, offset 0x050 + 0x4 n, bits [15:0] (R491). -/
def RSV_WEAR_VALUE (n : Nat) : Fld := ⟨14682624 + n * 128, 16, 0⟩
/-- RSV_CNTn, offset 0x080 + 0x4 n, bits [31:0] (R491). -/
def RSV_CNT (n : Nat) : Fld := ⟨14684160 + n * 128, 32, 0⟩

/-- Rows of the RSV page. -/
def rsvRows : List Row :=
  [⟨64, 0, 1, 16, (fun _ => RSV_STAT_PENDING), .ro⟩,
   ⟨64, 0, 1, 10, (fun _ => RSV_STAT_EXHAUSTED), .ro⟩,
   ⟨64, 0, 1, 9, (fun _ => RSV_STAT_FULL), .ro⟩,
   ⟨64, 0, 1, 0, (fun _ => RSV_STAT_USED), .ro⟩,
   ⟨68, 1, 8, 0, (fun n => RSV_SPARE n), .ro⟩,
   ⟨80, 4, 6, 16, (fun n => RSV_WEAR_ELEMENT n), .ro⟩,
   ⟨80, 4, 6, 0, (fun n => RSV_WEAR_VALUE n), .ro⟩,
   ⟨128, 4, 4, 0, (fun n => RSV_CNT n), .ro⟩]

/-- The registers of the RSV page that hold an RW or RWS field, in ascending order (R106). -/
def rsvChk : List ChkGroup :=
  []

/-! ## ATT (page 0x061; 17_keys_life_cycle_attestation.md, R467) -/

/-- ATT_STAT_HELD, offset 0x040, bits [1:1] (R467). -/
def ATT_STAT_HELD : Fld := ⟨12716033, 1, 0⟩
/-- ATT_STAT_SIGNING, offset 0x040, bits [0:0] (R467). -/
def ATT_STAT_SIGNING : Fld := ⟨12716032, 1, 0⟩
/-- ATT_SEQ, offset 0x044, bits [31:0] (R467). -/
def ATT_SEQ : Fld := ⟨12716160, 32, 0⟩
/-- ATT_LEN, offset 0x048, bits [31:0] (R467). -/
def ATT_LEN : Fld := ⟨12716288, 32, 0⟩
/-- ATT_FAILS, offset 0x04C, bits [31:0] (R467). -/
def ATT_FAILS : Fld := ⟨12716416, 32, 0⟩

/-- Rows of the ATT page. -/
def attRows : List Row :=
  [⟨64, 0, 1, 1, (fun _ => ATT_STAT_HELD), .ro⟩,
   ⟨64, 0, 1, 0, (fun _ => ATT_STAT_SIGNING), .ro⟩,
   ⟨68, 0, 1, 0, (fun _ => ATT_SEQ), .ro⟩,
   ⟨72, 0, 1, 0, (fun _ => ATT_LEN), .ro⟩,
   ⟨76, 0, 1, 0, (fun _ => ATT_FAILS), .ro⟩]

/-- The registers of the ATT page that hold an RW or RWS field, in ascending order (R106). -/
def attChk : List ChkGroup :=
  []

/-! ## NODE (page 0x1000; 05_host_bridge_and_command_transport.md, R134) -/

/-- NODE_RQ_PASSn, offset 0x000 + 0x4 n, bits [0:0] (R134). -/
def NODE_RQ_PASS (n : Nat) : Fld := ⟨536870912 + n * 128, 1, 0⟩
/-- NODE_RR_PASSn, offset 0x020 + 0x4 n, bits [0:0] (R134). -/
def NODE_RR_PASS (n : Nat) : Fld := ⟨536871936 + n * 128, 1, 0⟩
/-- NODE_CR_PASS, offset 0x030, bits [0:0] (R134). -/
def NODE_CR_PASS : Fld := ⟨536872448, 1, 0⟩
/-- NODE_FQ_PASS, offset 0x034, bits [0:0] (R125). -/
def NODE_FQ_PASS : Fld := ⟨536872576, 1, 0⟩
/-- NODE_HQ_PASSn, offset 0x040 + 0x4 n, bits [0:0] (R234). -/
def NODE_HQ_PASS (n : Nat) : Fld := ⟨536872960 + n * 128, 1, 0⟩
/-- NODE_HQ_POSn, offset 0x0C0 + 0x4 n, bits [31:0] (R234). -/
def NODE_HQ_POS (n : Nat) : Fld := ⟨536877056 + n * 128, 32, 0⟩
/-- NODE_OVERLAPn, offset 0x180 + 0x4 n, bits [31:0] (R29). -/
def NODE_OVERLAP (n : Nat) : Fld := ⟨536883200 + n * 128, 32, 0⟩
/-- NODE_ATT_SEQ, offset 0x1C8, bits [31:0] (R463). -/
def NODE_ATT_SEQ : Fld := ⟨536885504, 32, 0⟩
/-- NODE_BALL_WAITn, offset 0x200 + 0x8 n, bits [1:0] (R46). -/
def NODE_BALL_WAIT (n : Nat) : Fld := ⟨536887296 + n * 256, 2, 0⟩
/-- NODE_HOUR_US, offset 0x248, bits [31:0] (R487). -/
def NODE_HOUR_US : Fld := ⟨536889600, 32, 0⟩
/-- NODE_RQ_USEDn, offset 0x260 + 0x4 n, bits [15:0] (R135). -/
def NODE_RQ_USED (n : Nat) : Fld := ⟨536890368 + n * 128, 16, 0⟩
/-- NODE_RR_USEDn, offset 0x280 + 0x4 n, bits [15:0] (R135). -/
def NODE_RR_USED (n : Nat) : Fld := ⟨536891392 + n * 128, 16, 0⟩
/-- NODE_CR_USED, offset 0x290, bits [15:0] (R136). -/
def NODE_CR_USED : Fld := ⟨536891904, 16, 0⟩
/-- NODE_FQ_USED, offset 0x294, bits [15:0] (R125). -/
def NODE_FQ_USED : Fld := ⟨536892032, 16, 0⟩
/-- NODE_HQ_USEDn, offset 0x2A0 + 0x4 n, bits [15:0] (R234). -/
def NODE_HQ_USED (n : Nat) : Fld := ⟨536892416 + n * 128, 16, 0⟩
/-- NODE_LINK_CHGn, offset 0x400 + 0x8 n, bits [63:0] (R153). -/
def NODE_LINK_CHG (n : Nat) : Fld := ⟨536903680 + n * 256, 64, 0⟩

end Sys2Proof.Machine
end

