-- ==== Sys2Proof/Machine/Ops.lean ====
section
/-! DEFINITION. The named operations over the register file, device memory and byte strings; every register and memory access of a
meaning goes through them. -/

namespace Sys2Proof.Machine

/-! ## Sparse tables -/

/-- The value at key k, d where the table lists none. -/
def lookupD {α : Type} (m : List (Nat × α)) (k : Nat) (d : α) : α :=
  match m with
  | [] => d
  | (j, v) :: t => if j = k then v else lookupD t k d

/-- The table with key k removed. -/
def eraseK {α : Type} (m : List (Nat × α)) (k : Nat) : List (Nat × α) :=
  match m with
  | [] => []
  | (j, v) :: t => if j = k then eraseK t k else (j, v) :: eraseK t k

/-- The table with v at key k, keys rising. -/
def insertK {α : Type} (m : List (Nat × α)) (k : Nat) (v : α) : List (Nat × α) :=
  match m with
  | [] => [(k, v)]
  | (j, u) :: t => if j = k then (k, v) :: t else if k < j then (k, v) :: (j, u) :: t else (j, u) :: insertK t k v

/-- A table keeps no entry equal to its default d: writing d removes the entry, so that equal tables are equal data. -/
def putD {α : Type} [DecidableEq α] (m : List (Nat × α)) (k : Nat) (v d : α) : List (Nat × α) :=
  if v = d then eraseK m k else insertK m k v

/-- The keys of a table rise strictly. -/
def risingKeys {α : Type} : List (Nat × α) → Bool
  | [] => true
  | [_] => true
  | (j, _) :: (k, v) :: t => decide (j < k) && risingKeys ((k, v) :: t)

/-! ## Registers -/

/-- The committed value of a field. -/
def rd (s : State) (f : Fld) : Nat := lookupD s.regs f.key f.rst

/-- Sets a field; the value is cut to the field's width. -/
def wr (s : State) (f : Fld) (v : Nat) : State := { s with regs := putD s.regs f.key (v % 2 ^ f.w) f.rst }

/-- Sets a one-bit field from a truth value. -/
def wrB (s : State) (f : Fld) (b : Bool) : State := wr s f (if b then 1 else 0)

/-- A one-bit field is 1. -/
def rdB (s : State) (f : Fld) : Bool := decide (rd s f ≠ 0)

/-- A counter that wraps at its width. -/
def inc (s : State) (f : Fld) : State := wr s f (rd s f + 1)

/-- A counter advanced by n, wrapping. -/
def incBy (s : State) (f : Fld) (n : Nat) : State := wr s f (rd s f + n)

/-- A counter that saturates at its width. -/
def incSat (s : State) (f : Fld) : State := wr s f (min (rd s f + 1) (2 ^ f.w - 1))

/-- The shadow value of an RWS field; the committed value where no shadow differs (R8). -/
def rdShadow (s : State) (f : Fld) : Nat := lookupD s.shadow f.key (rd s f)

/-- Sets the shadow value of an RWS field (R8). -/
def wrShadow (s : State) (f : Fld) (v : Nat) : State := { s with shadow := putD s.shadow f.key (v % 2 ^ f.w) (rd s f) }

/-- Bit b of a number. -/
def bit (v b : Nat) : Bool := decide ((v / 2 ^ b) % 2 = 1)

/-- Bits [hi:lo] of a number. -/
def bits (v hi lo : Nat) : Nat := (v / 2 ^ lo) % 2 ^ (hi - lo + 1)

/-- A number with bit b set. -/
def setBit (v b : Nat) : Nat := if bit v b then v else v + 2 ^ b

/-- A number with bit b clear. -/
def clrBit (v b : Nat) : Nat := if bit v b then v - 2 ^ b else v

/-- One field's bit set or cleared. -/
def wrBit (s : State) (f : Fld) (b : Nat) (v : Bool) : State := wr s f (if v then setBit (rd s f) b else clrBit (rd s f) b)

/-- Page of a register key. -/
def keyPage (k : Nat) : Nat := k / 32 / 4096

/-- Offset in the page of a register key. -/
def keyOff (k : Nat) : Nat := k / 32 % 4096

/-! ## Header fields of every page (R99) -/

/-- PAGE_CTL.EN (R100). -/
def H_EN (page : Nat) : Fld := ⟨(page * 0x1000 + 0x008) * 32, 1, 0⟩
/-- PAGE_STAT.CHK_ERR (R100). -/
def H_CHK_ERR (page : Nat) : Fld := ⟨(page * 0x1000 + 0x00C) * 32 + 5, 1, 0⟩
/-- EV_RAW (R100). -/
def H_RAW (page : Nat) : Fld := ⟨(page * 0x1000 + 0x010) * 32, 16, 0⟩
/-- EV_EN (R100). -/
def H_EVEN (page : Nat) : Fld := ⟨(page * 0x1000 + 0x014) * 32, 16, 0⟩
/-- EV_PEND (R100). -/
def H_PEND (page : Nat) : Fld := ⟨(page * 0x1000 + 0x018) * 32, 16, 0⟩
/-- EV_ROUTE (R100). -/
def H_ROUTE (page : Nat) : Fld := ⟨(page * 0x1000 + 0x01C) * 32, 32, 0⟩
/-- LOCK.LOCKED (R100). -/
def H_LOCKED (page : Nat) : Fld := ⟨(page * 0x1000 + 0x020) * 32, 1, 0⟩
/-- PAGE_CHK (R100); undefined until first written, PageSt.chkOk tells that it was (log entry 8). -/
def H_CHK (page : Nat) : Fld := ⟨(page * 0x1000 + 0x02C) * 32, 32, 0⟩

/-- The header state of a page. -/
def pageSt (s : State) (page : Nat) : PageSt := lookupD s.pages page PageSt.init

/-- Sets the header state of a page. -/
def setPageSt (s : State) (page : Nat) (p : PageSt) : State := { s with pages := putD s.pages page p PageSt.init }

/-! ## Pages (R95, R100 and the header settings of each chapter) -/

/-- What is fixed about a page: page class, first event source and how many, slot, the PAGE_CAP flags, BLOCK_CAP, block type and instance (R95, R99). -/
structure PageInfo where
  cls : Nat
  src : Nat
  nev : Nat
  slot : Nat
  sens : Bool
  hasEn : Bool
  hasBusy : Bool
  hasShadow : Bool
  lockable : Bool
  cap : Nat
  type : Nat
  inst : Nat

/-- The pages of R95 with the settings of R100, R197, R201, R273, R323, R324, R349, R373, R393, R417, R418, R441, R466, R467, R479 and R491;
none at an index that R95 does not list. -/
def pageInfo (page : Nat) : Option PageInfo :=
  if page = 0x000 then some ⟨0, 0, 16, 0, false, false, false, false, true, 0, 0x00, 0⟩
  else if page = 0x001 then some ⟨0, 16, 8, 1, false, false, false, false, false, 0, 0x01, 0⟩
  else if page = 0x002 then some ⟨0, 24, 16, 2, false, false, false, false, true, 0, 0x02, 0⟩
  else if page = 0x003 then some ⟨0, 40, 16, 3, false, false, false, false, true, 0, 0x03, 0⟩
  else if 0x010 ≤ page ∧ page ≤ 0x01D then
    some ⟨1, 56 + 8 * (page - 0x010), 8, 4 + (page - 0x010), false, true, true, true, true, if page ≤ 0x011 then 0x571 else 0x31F, 0x10, page - 0x010⟩
  else if page = 0x01E then some ⟨1, 168, 8, 18, false, false, true, true, true, 0x80, 0x10, 14⟩
  else if page = 0x020 then some ⟨1, 176, 16, 19, false, false, false, true, true, 0x10, 0x20, 0⟩
  else if page = 0x021 then some ⟨1, 192, 8, 20, false, false, false, false, true, 0, 0x21, 0⟩
  else if page = 0x022 then some ⟨1, 200, 8, 21, false, false, false, false, true, 0, 0x22, 0⟩
  else if page = 0x023 then some ⟨1, 208, 16, 22, false, false, false, false, true, 0, 0x23, 0⟩
  else if page = 0x024 then some ⟨1, 224, 16, 23, false, false, false, false, true, 0, 0x24, 0⟩
  else if page = 0x028 then some ⟨1, 240, 16, 24, false, false, false, true, true, 0x140, 0x28, 0⟩
  else if page = 0x030 then some ⟨2, 256, 16, 25, false, false, false, true, true, 2, 0x30, 0⟩
  else if page = 0x031 then some ⟨2, 272, 16, 26, false, false, false, false, true, 0x820, 0x31, 0⟩
  else if page = 0x038 then some ⟨2, 288, 16, 27, false, true, true, false, true, 4, 0x38, 0⟩
  else if page = 0x039 then some ⟨2, 0, 0, 44, false, false, false, false, false, 0, 0x39, 0⟩
  else if 0x040 ≤ page ∧ page ≤ 0x043 then
    some ⟨3, 304 + 16 * (page - 0x040), 16, 28 + (page - 0x040), false, true, true, false, true, 0xF4, 0x40, page - 0x040⟩
  else if 0x044 ≤ page ∧ page ≤ 0x047 then some ⟨3, 0, 0, 44, false, false, false, false, false, 0, 0x44, page - 0x044⟩
  else if page = 0x048 then some ⟨4, 368, 8, 32, false, false, false, false, true, 0x14, 0x48, 0⟩
  else if page = 0x050 then some ⟨4, 376, 16, 33, false, false, false, false, true, 0x310, 0x50, 0⟩
  else if page = 0x051 then some ⟨4, 392, 16, 34, false, false, false, false, true, 0x10, 0x51, 0⟩
  else if page = 0x058 then some ⟨4, 408, 16, 35, false, false, false, false, true, 2, 0x58, 0⟩
  else if page = 0x060 then some ⟨5, 424, 8, 36, false, false, false, false, true, 0x40, 0x60, 0⟩
  else if page = 0x061 then some ⟨5, 432, 8, 37, false, false, false, false, true, 0, 0x61, 0⟩
  else if page = 0x068 then some ⟨6, 440, 16, 38, false, false, false, false, true, 2, 0x68, 0⟩
  else if page = 0x070 then some ⟨6, 456, 8, 39, false, false, false, false, true, 7, 0x70, 0⟩
  else if page = 0x078 then some ⟨7, 464, 8, 40, true, false, false, false, true, 0, 0x78, 0⟩
  else if page = 0x079 then some ⟨7, 472, 8, 41, true, false, false, false, true, 0, 0x78, 1⟩
  else none

/-- All page indices that R95 lists, ascending. -/
def allPages : List Nat :=
  [0x000, 0x001, 0x002, 0x003] ++ (List.range 15).map (0x010 + ·) ++ [0x020, 0x021, 0x022, 0x023, 0x024, 0x028, 0x030, 0x031, 0x038, 0x039] ++
  (List.range 8).map (0x040 + ·) ++ [0x048, 0x050, 0x051, 0x058, 0x060, 0x061, 0x068, 0x070, 0x078, 0x079]

/-! ## Byte strings (R5) -/

/-- The n bytes of v, least significant first (registers, descriptors, responses, records). -/
def le (n v : Nat) : List Byte :=
  match n with
  | 0 => []
  | n + 1 => BitVec.ofNat 8 v :: le n (v / 256)

/-- The n bytes of v, most significant first (frames). -/
def be (n v : Nat) : List Byte := (le n v).reverse

/-- The number that bytes spell, least significant first. -/
def ofLe : List Byte → Nat
  | [] => 0
  | b :: t => b.toNat + 256 * ofLe t

/-- The number that bytes spell, most significant first. -/
def ofBe (l : List Byte) : Nat := ofLe l.reverse

/-- The bytes of l from offset o, n of them, 0 beyond its end. -/
def slice (l : List Byte) (o n : Nat) : List Byte := ((l.drop o).take n) ++ List.replicate (n - ((l.drop o).take n).length) 0

/-- A little-endian number inside bytes. -/
def leAt (l : List Byte) (o n : Nat) : Nat := ofLe (slice l o n)

/-- A big-endian number inside bytes. -/
def beAt (l : List Byte) (o n : Nat) : Nat := ofBe (slice l o n)

/-- Bytes padded with 0 or cut to n. -/
def padTo (n : Nat) (l : List Byte) : List Byte := slice l 0 n

/-- n zero bytes. -/
def zeros (n : Nat) : List Byte := List.replicate n 0

/-- One bit of the reflected CRC-32C (00_scope, R14). -/
def crcBit (c : Nat) : Nat := if c % 2 = 1 then (c / 2) ^^^ 0x82F63B78 else c / 2

/-- One byte of the reflected CRC-32C. -/
def crcByte (c : Nat) (b : Byte) : Nat := crcBit (crcBit (crcBit (crcBit (crcBit (crcBit (crcBit (crcBit (c ^^^ b.toNat))))))))

/-- The reflected CRC-32C over bytes from a start value; the value is settled before the next byte. -/
def crcBytes (a : Nat) : List Byte → Nat
  | [] => a
  | b :: t =>
    match crcByte a b with
    | 0 => crcBytes 0 t
    | k + 1 => crcBytes (k + 1) t

/-- CRC-32C: Castagnoli, reflected, initial and final exclusive-or 0xFFFF_FFFF (00_scope, R14). -/
def crc32c (l : List Byte) : Nat := (crcBytes 0xFFFFFFFF l) ^^^ 0xFFFFFFFF

/-! ## Device memory: BAR2 (R113 to R115) -/

/-- What an unlisted byte of BAR2 reads as (log entry 6). -/
def memDefault : Byte := 0

/-- The byte at an address of a memory. -/
def memRead (m : List Host.Cell) (a : Nat) : Byte := lookupD m a memDefault

/-- A memory with one byte written; writing the default removes the entry. -/
def memWrite (m : List Host.Cell) (a : Nat) (b : Byte) : List Host.Cell := putD m a b memDefault

/-- The canonical form: addresses rise strictly and no entry equals the default. -/
def Memory.wf (m : List Host.Cell) : Bool := risingKeys m && m.all (fun c => decide (c.2 ≠ memDefault))

/-- A memory with bytes written from an address on. -/
def memWrites (m : List Host.Cell) (a : Nat) (l : List Byte) : List Host.Cell :=
  match l with
  | [] => m
  | b :: t => memWrites (memWrite m a b) (a + 1) t

/-- n bytes of a memory from an address on. -/
def memReads (m : List Host.Cell) (a n : Nat) : List Byte := (List.range n).map (fun i => memRead m (a + i))

/-- Bytes of device memory. -/
def bar2Read (s : State) (a n : Nat) : List Byte := memReads s.bar2 a n

/-- Bytes written to device memory. -/
def bar2Write (s : State) (a : Nat) (l : List Byte) : State := { s with bar2 := memWrites s.bar2 a l }

/-! ## What leaves the node, and free values -/

/-- Appends to the log of outputs (log entry 7). -/
def emit (s : State) (o : Output) : State := { s with out := s.out ++ [o] }

/-- Sends a frame on a port. -/
def sendFrame (s : State) (port : Nat) (bytes : List Byte) : State := emit s (.frame port bytes)

/-- Draws a fresh free value: the index of Config's opaque values, which then advances (log entry 5). -/
def nextFree (s : State) : State := { s with free := s.free + 1 }

/-! ## Small helpers -/

/-- Applies f for each element in turn. -/
def forEach {α : Type} (l : List α) (f : α → State → State) (s : State) : State := l.foldl (fun t a => f a t) s

/-- Keeps only what happens while the node runs: a command for a node that does not run changes nothing (R13, log entry 9). -/
def whenRun (s : State) (f : State → State) : State := if s.phase = .running then f s else s

/-- f where c holds, nothing otherwise (R13). -/
def onlyIf (c : Bool) (f : State → State) (s : State) : State := if c then f s else s

/-- The nanosecond counter (R300). -/
def nowNs (s : State) : Nat := s.time.ns % 2 ^ 64

/-- Train time is synchronized: the step has been made, the selected domain is synchronized, and a slew that runs began while it was (R301, R307, R309). -/
def trainSync (s : State) : Bool :=
  rdB s TIME_STAT_STEPPED && (if rdB s TIME_STAT_SEL then rdB s TIME_STAT_SYNC1 else rdB s TIME_STAT_SYNC0) &&
  (!rdB s TIME_STAT_SLEWING || s.time.slewSync)

/-- What answers a false wake stops the timer of R390 for good. -/
def answerWake (s : State) : State := wr s SLEEP_STAT_FW_RUN 0

/-- Own role code of R419. -/
def role (s : State) : Nat := rd s TWIN_STAT_ROLE

/-- The node drives control outputs: active or solo. -/
def isActive (s : State) : Bool := decide (role s = 0 ∨ role s = 2)

/-- The node releases control traffic: it drives, and has not missed a contribution deadline of its own (R419, R426). -/
def sendsControl (s : State) : Bool := isActive s && !rdB s TWIN_STAT_LATE

/-- The node is in a joined pair: active or shadow. -/
def joined (s : State) : Bool := decide (role s = 0 ∨ role s = 1)

/-- Fenced or JOIN_WAIT. -/
def isFenced (s : State) : Bool := decide (role s = 3 ∨ role s = 4)

/-- This node's twin number. -/
def twinNo (s : State) : Nat := if s.fuses.twinId then 1 else 0

/-- Link state of a port. -/
def linkUp (s : State) (p : Nat) : Bool := rdB s (PORT_STATUS_LINK_UP p)

/-- T is up: some lane carries. -/
def tUp (s : State) : Bool := linkUp s 14

/-- A port's state. -/
def portSt (s : State) (p : Nat) : PortSt := lookupD s.ports p PortSt.init

/-- Sets a port's state. -/
def setPort (s : State) (p : Nat) (v : PortSt) : State := { s with ports := putD s.ports p v PortSt.init }

end Sys2Proof.Machine
end

