-- ==== Sys2Proof/Machine/Flags.lean ====
section
/-! DEFINITION. Events, event delivery, IRQ balls and MSI-X messages (R108 to R111), and the status values every unit shares (R137). -/

namespace Sys2Proof.Machine

/-! ## Status codes (R137) -/

/-- OK. -/
def stOK : Nat := 0x00
/-- ACCEPTED. -/
def stACCEPTED : Nat := 0x01
/-- BUSY. -/
def stBUSY : Nat := 0xE0
/-- CONFLICT. -/
def stCONFLICT : Nat := 0xE1
/-- DENIED. -/
def stDENIED : Nat := 0xE2
/-- BAD_ARG. -/
def stBAD_ARG : Nat := 0xE3
/-- WRONG_STATE. -/
def stWRONG_STATE : Nat := 0xE4
/-- NO_RESOURCE. -/
def stNO_RESOURCE : Nat := 0xE5
/-- INTEGRITY. -/
def stINTEGRITY : Nat := 0xE6
/-- KEY_INVALID. -/
def stKEY_INVALID : Nat := 0xE7
/-- TOO_LATE. -/
def stTOO_LATE : Nat := 0xE8
/-- UNKNOWN. -/
def stUNKNOWN : Nat := 0xE9
/-- FENCED. -/
def stFENCED : Nat := 0xEA
/-- STALE_GENERATION. -/
def stSTALE_GENERATION : Nat := 0xEB
/-- TIMEOUT. -/
def stTIMEOUT : Nat := 0xEC
/-- RESERVE_EXHAUSTED. -/
def stRESERVE_EXHAUSTED : Nat := 0xED

/-! ## Delivery -/

/-- The delivery byte of a line of a slot (R110, EVC_LMAPs). -/
def lineByte (s : State) (slot line : Nat) : Nat := bits (rd s (EVC_LMAP slot)) (8 * line + 7) (8 * line)

/-- Adds one asserted source's delivery byte to the sets of vectors and IRQ balls. -/
def addDelivery (acc : Nat × Nat) (b : Nat) : Nat × Nat :=
  (if bit b 3 then setBit acc.1 (bits b 7 4) else acc.1, if bit b 2 then setBit acc.2 (bits b 1 0) else acc.2)

/-- The event bits of a page that are asserted: pending and enabled (R108). -/
def assertedBits (s : State) (page : Nat) : Nat := rd s (H_PEND page) &&& rd s (H_EVEN page)

/-- The deliveries of one page. -/
def pageDelivery (s : State) (acc : Nat × Nat) (page : Nat) : Nat × Nat :=
  let a := assertedBits s page
  if a = 0 then acc
  else
    match pageInfo page with
    | none => acc
    | some i =>
      let route := rd s (H_ROUTE page)
      (List.range i.nev).foldl (fun acc k => if bit a k then addDelivery acc (lineByte s i.slot (bits route (2 * k + 1) (2 * k))) else acc) acc

/-- The deliveries of the software sources 480 to 511 (R110). -/
def swDelivery (s : State) (acc : Nat × Nat) : Nat × Nat :=
  let a := rd s EVC_SWPEND &&& rd s EVC_SWEN
  if a = 0 then acc
  else
    (List.range 32).foldl (fun acc b =>
      if bit a b then
        let route := if b < 16 then rd s EVC_SWROUTE_LO else rd s EVC_SWROUTE_HI
        let k := b % 16
        addDelivery acc (lineByte s (if b < 16 then 42 else 43) (bits route (2 * k + 1) (2 * k)))
      else acc) acc

/-- The vectors and the IRQ balls that have an asserted source mapped to them (R111). -/
def deliveries (s : State) : Nat × Nat := swDelivery s (allPages.foldl (pageDelivery s) (0, 0))

/-- Sends the message of a vector, or sets its pending bit while the vector is masked (R111, R131). -/
def sendVector (v : Nat) (s : State) : State :=
  if rdB s (BRG_MSIX_CTL_MASK v) then wrBit s BRG_MSIX_PBA v true
  else emit s (.msix v (rd s (BRG_MSIX_ADDR v) + 2 ^ 32 * rd s (BRG_MSIX_ADDRH v)) (rd s (BRG_MSIX_DATA v)))

/-- Brings IRQ balls and vectors up to date; sends a message on each vector whose set of asserted sources went from empty to non-empty,
and, with again, on every vector that still has one (R111). -/
def deliver (again : Bool) (s : State) : State :=
  let d := deliveries s
  let old := s.vecs.toNat
  let t := forEach (List.range 16) (fun v t => if bit d.1 v && (again || !bit old v) then sendVector v t else t) s
  { t with vecs := BitVec.ofNat 16 d.1, irq := BitVec.ofNat 4 d.2 }

/-- An occurrence of event k of a page: EV_PEND sets whatever EV_EN holds, and so does the cores' own copy (R108, R109). -/
def raise (s : State) (page k : Nat) : State :=
  match pageInfo page with
  | none => s
  | some i =>
    if k < i.nev then
      let t := { s with events := s.events ||| (1#512 <<< (i.src + k)) }
      deliver false (wrBit t (H_PEND page) k true)
    else s

/-- An occurrence where c holds. -/
def raiseIf (c : Bool) (page k : Nat) (s : State) : State := if c then raise s page k else s

/-- Counters in the error group of R199 raise the CNT event of their port (R200). -/
def errorGroup (k : Nat) : Bool :=
  decide (k = 5 ∨ k = 6 ∨ k = 7 ∨ k = 8 ∨ k = 13 ∨ k = 15 ∨ k = 16 ∨ k = 17 ∨ k = 24 ∨ k = 25 ∨ k = 29 ∨ k = 30 ∨ k = 31)

/-- Counter k of port p (R198). -/
def portCtr (p k : Nat) : Fld := if p < 8 then CNT_CTR 0 (32 * p + k) else CNT_CTR 1 (32 * (p - 8) + k)

/-- Advances a port counter by n; a counter of the error group raises the port's CNT event (R199, R200). -/
def cntBy (s : State) (p k n : Nat) : State :=
  let t := incBy s (portCtr p k) n
  if errorGroup k && decide (n ≠ 0) then (if p < 8 then raise t 0x078 p else raise t 0x079 (p - 8)) else t

/-- Advances a port counter by 1. -/
def cnt (s : State) (p k : Nat) : State := cntBy s p k 1

end Sys2Proof.Machine
end

