-- ==== Sys2Proof/Machine/Recorder.lean ====
section
/-! DEFINITION. The event recorder (18_event_recorder.md): records, coalescing, the buffer, banks, export. -/

namespace Sys2Proof.Machine

/-- Bytes 0x00 to 0x3B of a record (R468). -/
def recordBody (r : Record) : List Byte :=
  le 8 r.time.toNat ++ le 4 r.churn.toNat ++ le 2 r.source ++ le 2 r.code ++ le 4 r.rpt ++ le 4 r.seq.toNat ++
  padTo 32 (r.payload.flatMap (fun w => le 4 w.toNat)) ++
  le 4 ((if r.cellar then 1 else 0) + (if r.partner then 2 else 0) + (if r.unsync then 4 else 0) + (if r.user then 8 else 0) + r.span * 65536)

/-- The 64 bytes of a record (R468). -/
def recordBytes (r : Record) : List Byte := recordBody r ++ le 4 (crc32c (recordBody r))

/-- Eight payload words from the words given. -/
def payload8 (l : List Word) : List Word := (l ++ List.replicate 8 0).take 8

/-- The recorder's next position after p: the cellar in ascending order, then the rolling area, wrapping to 16,384 (R473). -/
def nextPos (p : Nat) : Nat := if p = 196607 then 16384 else p + 1

/-- COALESCE in ms: above 10,000 acts as 10,000 (R479). -/
def coalesceMs (s : State) : Nat := min (rd s REC_CTL_COALESCE) 10000

/-- REC_STAT.BUF follows the buffer (R479). -/
def syncBuf (s : State) : State := wr s REC_STAT_BUF (min s.rcd.buffer.length 255)

/-- Puts a record in the buffer for a position. -/
def pushRecord (s : State) (pos : Nat) (r : Record) : State :=
  syncBuf { s with rcd := { s.rcd with buffer := s.rcd.buffer ++ [(pos, r)] } }

/-- Both banks have failed (R477). -/
def bothFailed (s : State) : Bool := rdB s REC_STAT_BANK0_FAIL && rdB s REC_STAT_BANK1_FAIL

/-- Writes the occurrences held for the last record as one update (R472). Where both banks have failed the update goes to the partner (R477). -/
def flushHeld (s : State) : State :=
  match s.rcd.last with
  | none => s
  | some (pos, r) =>
    if s.rcd.heldN = 0 then s
    else
      let r2 := { r with rpt := min (r.rpt + s.rcd.heldN) 0xFFFFFFFF, span := min s.rcd.heldSpan 65535 }
      let t := { s with rcd := { s.rcd with last := some (pos, r2), heldN := 0 } }
      let t := wrB t REC_STAT_OPEN false
      if bothFailed t then
        if tUp t then inc (emit t (.overT 0x0477 (recordBytes r2))) (REC_CNT 5) else inc t (REC_CNT 4)
      else pushRecord t pos r2

/-- A new record: sequence, position, flags (R468, R471, R473). A full buffer drops it and counts it in LOST (R473). -/
def newRecord (s : State) (source code : Nat) (payload : List Word) (user : Bool) : State :=
  let s := flushHeld s
  let mk (seq pos : Nat) : Record :=
    { time := BitVec.ofNat 64 (nowNs s), churn := BitVec.ofNat 32 (rd s CHURN_COUNT), source := source, code := code, rpt := 1,
      seq := BitVec.ofNat 32 seq, payload := payload8 payload, cellar := decide (pos < 16384), partner := false,
      unsync := !trainSync s, user := user, span := 0 }
  if bothFailed s then
    let r := mk (rd s REC_SEQ) (rd s REC_WPOS)
    if tUp s then
      let t := emit s (.overT 0x0477 (recordBytes r))
      let t := inc (inc t REC_SEQ) (REC_CNT 5)
      { t with rcd := { t.rcd with last := some (rd s REC_WPOS, r), heldN := 0, heldSpan := 0, lastAt := nowNs s, firstAt := nowNs s } }
    else raise (inc s (REC_CNT 4)) 0x068 4
  else if 256 ≤ s.rcd.buffer.length then
    let t := { s with rcd := { s.rcd with lost := s.rcd.lost + 1 } }
    raise (inc t (REC_CNT 4)) 0x068 4
  else
    let pos := rd s REC_WPOS
    let r := mk (rd s REC_SEQ) pos
    let t := pushRecord s pos r
    let t := inc t REC_SEQ
    let t := wr t REC_WPOS (nextPos pos)
    let t := { t with rcd := { t.rcd with last := some (pos, r), heldN := 0, heldSpan := 0, lastAt := nowNs s, firstAt := nowNs s } }
    let t := if pos = 196607 then
        raise (inc { t with rcd := { t.rcd with wrapped := true } } (REC_CNT 7)) 0x068 6 else t
    t

/-- An identical occurrence within COALESCE of the previous one (R472). -/
def coalesces (s : State) (source code : Nat) (payload : List Word) : Bool :=
  match s.rcd.last with
  | none => false
  | some (_, r) =>
    decide (r.source = source ∧ r.code = code ∧ r.churn = BitVec.ofNat 32 (rd s CHURN_COUNT) ∧ r.payload = payload8 payload ∧
      source ≠ 0x0200 ∧ source ≠ 0x0201 ∧ r.user = false ∧ coalesceMs s ≠ 0 ∧ nowNs s - s.rcd.lastAt ≤ coalesceMs s * 1000000)

/-- The records owed once space returns: the count dropped, under source 0x0201, code 0x0004 (R473). -/
def oweLost (s : State) : State :=
  if s.rcd.lost ≠ 0 ∧ s.rcd.buffer.length < 256 ∧ bothFailed s = false then
    let n := s.rcd.lost
    newRecord { s with rcd := { s.rcd with lost := 0 } } 0x0201 4 [0, BitVec.ofNat 32 n] false
  else s

/-- An occurrence to record: coalesced into the last record, or a new record (R468, R472). -/
def record (s : State) (source code : Nat) (payload : List Word) : State :=
  if coalesces s source code payload then
    let first := match s.rcd.last with | none => 0 | some (_, r) => r.time.toNat
    let t := { s with rcd := { s.rcd with heldN := s.rcd.heldN + 1, heldSpan := (nowNs s - first) / 1000000, lastAt := nowNs s,
                                          firstAt := if s.rcd.heldN = 0 then nowNs s else s.rcd.firstAt } }
    inc (wrB t REC_STAT_OPEN true) (REC_CNT 1)
  else newRecord (oweLost s) source code payload false

/-- A record of an event source of a page (R469, R470): object number in payload word 0, 0xFFFF_FFFF where the rule names none. -/
def recordEvent (s : State) (page k code : Nat) (object : Option Nat) : State :=
  match pageInfo page with
  | none => s
  | some i => record s (i.src + k) code [BitVec.ofNat 32 (object.getD 0xFFFFFFFF)]

/-- A record that a rule asks for without naming an event source: its source is a free value, its code 0 (R469, log entry 50). -/
def recordUnnamed (object : Option Nat) (s : State) : State :=
  nextFree (record s (Config.freeNat s.free % 512) 0 [BitVec.ofNat 32 (object.getD 0xFFFFFFFF)])

/-- An event and its record. -/
def raiseRec (s : State) (page k code : Nat) (object : Option Nat) : State := recordEvent (raise s page k) page k code object

end Sys2Proof.Machine
end

