-- ==== Sys2Proof/Machine/Access.lean ====
section
/-! DEFINITION. Register access: the register words of a page, the protection map (R101, R444, R450), faults (R110), locks (R105),
shadows (R8, R102) and the page check (R106). -/

namespace Sys2Proof.Machine

/-! ## Protection map -/

/-- Initiator code of EVC_FAULT.INIT (R110). -/
def initCode : Initiator → Nat
  | .host => 0 | .manager => 1 | .partner => 2 | .firmware => 3 | .debug => 4

/-- Index of an initiator's word inside the words of one state (R450); the firmware has no word. -/
def mapIndex : Initiator → Nat
  | .host => 0 | .manager => 1 | .partner => 2 | .firmware => 3 | .debug => 3

/-- JTAG beyond BYPASS and IDCODE is open (R444). -/
def jtagOpen (s : State) : Bool := decide (s.fuses.lc ≤ 1) || (decide (s.fuses.lc = 3) && s.keys.debugBit)

/-- The least map that R451 permits, applied where the fused rows are unusable (R450). -/
def leastMap : Initiator → Nat
  | .host => 2 ^ 0 + 2 ^ 16
  | _ => 0

/-- The protection word of an initiator in the life-cycle state in force (R444, R450). In FACTORY and CUSTOMIZE it permits all;
in RETIRED only the host's reads of classes 0 and 6 (its commands follow retiredCommand). -/
def mapWord (s : State) (i : Initiator) : Nat :=
  if s.fuses.lc ≤ 1 then 2 ^ 33 - 1
  else if s.fuses.lc = 4 then (match i with | .host => 0x41 | _ => 0)
  else if s.fuses.mapBad then leastMap i
  else match s.fuses.map with
    | none => leastMap i
    | some ws => ws.getD (4 * (s.fuses.lc - 2) + mapIndex i) 0

/-- Debug acts only where JTAG is open (R465); the firmware is permitted everything (R450). -/
def initOpen (s : State) (i : Initiator) : Bool := match i with | .debug => jtagOpen s | _ => true

/-- The map permits reads of a page class (R101). -/
def mayRead (s : State) (i : Initiator) (cls : Nat) : Bool :=
  match i with | .firmware => true | _ => initOpen s i && bit (mapWord s i) cls

/-- The map permits writes of a page class (R101). -/
def mayWrite (s : State) (i : Initiator) (cls : Nat) : Bool :=
  match i with | .firmware => true | _ => initOpen s i && bit (mapWord s i) (8 + cls)

/-- The ring indices that the host writes to issue commands and take their answers: CMD_SQTAILn, CMD_RQHEADn, CMD_CRHEAD (R132). -/
def ringIndex (page off : Nat) : Bool :=
  decide (page = 0x003) && (decide (0x040 ≤ off ∧ off < 0x060) || decide (0x0A0 ≤ off ∧ off < 0x0C0) || decide (0x0C4 ≤ off ∧ off < 0x0C8))

/-- The map leaves the host some command (R444, R450). -/
def hostCommands (s : State) : Bool := decide (s.fuses.lc = 4) || (List.range 17).any (fun g => bit (mapWord s .host) (16 + g))

/-- The map permits a register write (R101); where it leaves the host commands, it leaves it the ring indices by which they are issued (log entry 131). -/
def writePermitted (s : State) (i : Initiator) (page off cls : Nat) : Bool :=
  mayWrite s i cls || (decide (i = .host) && ringIndex page off && hostCommands s)

/-- The five initiators in the order of the ACCESS bits (R100). -/
def initiators : List Initiator := [.host, .manager, .partner, .firmware, .debug]

/-- Five permission bits in the order of ACCESS. -/
def permBits (f : Initiator → Bool) : Nat := initiators.foldl (fun a i => if f i then setBit a (initCode i) else a) 0

/-! ## Faults (R110) -/

/-- Whether a fault kind writes a record: CHK_MISMATCH (R107) and DENIED (example of R472). -/
def faultRecords (kind : Nat) : Bool := decide (3 ≤ kind)

/-- A fault: kind 1 access, 2 lock, 3 denied, 4 check mismatch. Every fault counts; the first is captured until VALID is cleared. -/
def fault (s : State) (kind : Nat) (i : Initiator) (region page word : Nat) : State :=
  let t := incSat s EVC_FAULTCNT
  let t := if rdB t EVC_FAULT_VALID then t else
    wr (wr (wr (wr (wr (wrB t EVC_FAULT_VALID true) EVC_FAULT_KIND kind) EVC_FAULT_INIT (initCode i)) EVC_FAULT_REGION region)
      EVC_FAULT_PAGE page) EVC_FAULT_WORD word
  let t := raise t 0x001 (kind - 1)
  if faultRecords kind then recordEvent t 0x001 (kind - 1) 0 (some page) else t

/-- A register-page fault at a byte offset. -/
def regFault (s : State) (kind : Nat) (i : Initiator) (page off : Nat) : State := fault s kind i 0 page (off / 4)

/-- An access fault of BAR2 at a byte address (R110, R114). -/
def bar2Fault (s : State) (i : Initiator) (addr : Nat) : State := fault s 1 i 1 (addr / 2 ^ 14 % 4096) (addr / 16 % 1024)

/-! ## The registers of a page -/

/-- A field as one word of a page shows it: the field, its lowest bit in the word's view, its place and width in the word, its type. -/
structure Part where
  fld : Fld
  src : Nat
  lo : Nat
  w : Nat
  ty : RTy

/-- All register rows of a page. -/
def rowsOf (page : Nat) : List Row :=
  if page = 0x000 then devRows else if page = 0x001 then evcRows else if page = 0x002 then brgRows else if page = 0x003 then cmdRows
  else if 0x010 ≤ page ∧ page ≤ 0x01E then portRows (page - 0x010)
  else if page = 0x020 then fwdRows else if page = 0x021 then sepRows else if page = 0x022 then fdbRows else if page = 0x023 then gateRows
  else if page = 0x024 then frerRows else if page = 0x028 then churnRows else if page = 0x030 then timeRows else if page = 0x031 then trigRows
  else if page = 0x038 then tlgRows else if page = 0x039 then tlgwRows
  else if 0x040 ≤ page ∧ page ≤ 0x043 then mbusRows (page - 0x040)
  else if 0x044 ≤ page ∧ page ≤ 0x047 then mbwRows (page - 0x044)
  else if page = 0x048 then sleepRows else if page = 0x050 then loadRows else if page = 0x051 then lchRows else if page = 0x058 then twinRows
  else if page = 0x060 then keyRows else if page = 0x061 then attRows else if page = 0x068 then recRows else if page = 0x070 then rsvRows
  else if page = 0x078 then cntRows 0 else if page = 0x079 then cntRows 1
  else []

/-- The registers of a page that hold an RW or RWS field (R106). -/
def chkOf (page : Nat) : List ChkGroup :=
  if page = 0x001 then evcChk else if page = 0x002 then brgChk else if page = 0x003 then cmdChk
  else if 0x010 ≤ page ∧ page ≤ 0x01E then portChk
  else if page = 0x020 then fwdChk else if page = 0x022 then fdbChk else if page = 0x023 then gateChk
  else if page = 0x024 then frerChk else if page = 0x028 then churnChk else if page = 0x030 then timeChk else if page = 0x031 then trigChk
  else if page = 0x038 then tlgChk else if page = 0x039 then tlgwChk
  else if 0x040 ≤ page ∧ page ≤ 0x043 then mbusChk
  else if page = 0x048 then sleepChk else if page = 0x050 then loadChk else if page = 0x051 then lchChk else if page = 0x058 then twinChk
  else if page = 0x068 then recChk
  else []

/-- What a row of the register map shows in the word at an offset: a 64-bit field stands in two words (R97), an array of bytes or
halfwords packs into words. -/
def rowParts (off : Nat) (r : Row) : List Part :=
  if r.stride = 1 ∨ r.stride = 2 then
    (List.range r.count).filterMap fun n =>
      let a := r.off + n * r.stride
      if off ≤ a ∧ a < off + 4 then some ⟨r.fld n, 0, 8 * (a - off) + r.lo, (r.fld n).w, r.ty⟩ else none
  else if off < r.off then []
  else
    let n := if r.stride = 0 then 0 else (off - r.off) / r.stride
    let f := r.fld n
    if r.count ≤ n then []
    else if off = r.off + n * r.stride then [⟨f, 0, r.lo, min f.w (32 - r.lo), r.ty⟩]
    else if off = r.off + n * r.stride + 4 ∧ 32 < f.w then [⟨f, 32, 0, f.w - 32, r.ty⟩]
    else []

/-- Fields that a PORT page of the register map has and this port has not: PHY, FC and the other fields of R196 and R197. -/
def portAbsent (p off lo : Nat) : Bool :=
  (decide (p = 14) && (decide (0x050 ≤ off) || (decide (off = 0x040) && decide (lo = 9 ∨ lo = 10 ∨ lo = 11 ∨ lo = 16)))) ||
  (decide (p < 2) && decide (0x058 ≤ off ∧ off ≤ 0x060)) ||
  (decide (off = 0x064 ∧ lo = 16) && decide (p ≠ 0 ∧ p ≠ 2))

/-- The types that differ on a page: MODE and MAXLEN are RO on T (R197). -/
def portType (p off : Nat) (q : Part) : Part :=
  if p = 14 ∧ (off = 0x048 ∨ (off = 0x040 ∧ q.lo = 0)) then { q with ty := .ro } else q

/-- The fields of the word at an offset of a page. -/
def partsAt (page off : Nat) : List Part :=
  let l := (rowsOf page).flatMap (rowParts off)
  if 0x010 ≤ page ∧ page ≤ 0x01E then
    (l.filter (fun q => !portAbsent (page - 0x010) off q.lo)).map (portType (page - 0x010) off)
  else l

/-- The value of a part in its word. -/
def partVal (v : Nat) (q : Part) : Nat := (v / 2 ^ q.src % 2 ^ q.w) * 2 ^ q.lo

/-- The word that fields spell; WO fields read 0 (R7). -/
def partsWord (s : State) (l : List Part) : Nat :=
  l.foldl (fun a q => match q.ty with | .wo => a | _ => a + partVal (rd s q.fld) q) 0

/-- What the bits of a written word say about a part. -/
def partOf (v : Nat) (q : Part) : Nat := v / 2 ^ q.lo % 2 ^ q.w

/-- A field's value with the part replaced. -/
def withPart (old v : Nat) (q : Part) : Nat := old - (old / 2 ^ q.src % 2 ^ q.w) * 2 ^ q.src + partOf v q * 2 ^ q.src

/-! ## Views that no stored field holds -/

/-- The sources asserted by event pages (R108), as one number by source. -/
def assertedSources (s : State) : Nat :=
  allPages.foldl (fun a p => match pageInfo p with | none => a | some i => a + assertedBits s p * 2 ^ i.src) 0 +
  (rd s EVC_SWPEND &&& rd s EVC_SWEN) * 2 ^ 480

/-- The subscription slot state that TLG_Sn shows (R350). -/
def tlgSlotWord (s : State) (n : Nat) : Nat :=
  match s.tlg.subs.lookup n with
  | none => 3 * 2 ^ 26
  | some u =>
    let slot := (if u.claimed.isSome then u.claimed else u.newest).getD 3
    let f := u.slots.lookup slot
    (if u.claimed.isSome then 2 ^ 31 + (if u.newer then 2 ^ 25 else 0) + (if u.claimTwin then 2 ^ 24 else 0) else 0) + slot * 2 ^ 26 +
    match f with
    | none => 0
    | some (seq, flags) => (if bit flags 0 then 2 ^ 30 else 0) + (if bit flags 1 then 2 ^ 29 else 0) + (if bit flags 2 then 2 ^ 28 else 0) + seq % 65536

/-- UPD_END [15:0] of object k of channel m (R356, R374). -/
def objUpd (s : State) (m k : Nat) : Nat := if k < 256 then leAt (bar2Read s (0x3800000 + m * 0x100000 + k * 0x1000 + 0x3C) 2) 0 2 else 0

/-- PTP seconds of train time. -/
def ptpSeconds (s : State) : Nat := s.time.ns / 1000000000

/-- Minutes of MAINT left (R448, R466), of a not-after time and of an end on the nanosecond counter. -/
def maintMinutes (s : State) : Nat :=
  match s.keys.maint with
  | none => 0
  | some (notAfter, until_) => (min (notAfter - ptpSeconds s) ((until_ - nowNs s) / 1000000000) + 59) / 60

/-- Seconds since the worker of roster entry n was last seen, saturating (R299). -/
def workerAge (s : State) (n : Nat) : Nat :=
  if lookupD s.regs (DEV_WRK_STATE n).key 0 = 0 then 0 else min (2 ^ 32 - 1) ((nowNs s - lookupD s.roster.seen n 0) / 1000000000)

/-- PAGE_ID (R99). -/
def pageIdWord (s : State) (i : PageInfo) : Nat := i.type * 2 ^ 24 + i.inst * 2 ^ 16 + 0x0100 + s.fuses.romIssue % 256

/-- PAGE_CAP (R99, R100). -/
def pageCapWord (i : PageInfo) (lockable : Bool) : Nat :=
  (if i.sens then 2 ^ 31 else 0) + (if i.hasEn then 2 ^ 30 else 0) + (if i.hasBusy then 2 ^ 29 else 0) + (if i.hasShadow then 2 ^ 28 else 0) +
  (if lockable then 2 ^ 27 else 0) + (if i.nev ≠ 0 then 2 ^ 26 else 0) + i.cap

/-- Some shadow value of the page differs from its committed value (R100). -/
def shadowDirty (s : State) (page : Nat) : Bool := s.shadow.any (fun c => decide (keyPage c.1 = page))

/-- PAGE_STAT (R100); BLOCK_STAT reads 0 on every page. -/
def pageStatWord (s : State) (page : Nat) (i : PageInfo) : Nat :=
  let p := pageSt s page
  (if rdB s (H_CHK_ERR page) then 32 else 0) + (if rdB s (H_LOCKED page) then 16 else 0) + (if shadowDirty s page then 8 else 0) +
  if i.hasEn then
    (if p.held.isSome then 4 else 0) + (match p.en with | .off => 0 | .starting => 2 | .on => 1 | .stopping => 2)
  else 1

/-- ACCESS (R100, R101). -/
def accessWord (s : State) (i : PageInfo) : Nat :=
  s.fuses.lc * 2 ^ 24 + i.cls * 2 ^ 16 + permBits (fun a => mayWrite s a i.cls) * 2 ^ 8 + permBits (fun a => mayRead s a i.cls)

/-- The header words of a page (R99). -/
def headerWord (s : State) (page off : Nat) (i : PageInfo) : Nat :=
  if off = 0x000 then pageIdWord s i
  else if off = 0x004 then pageCapWord i i.lockable
  else if off = 0x008 then (if i.hasEn then rd s (H_EN page) else 1)
  else if off = 0x00C then pageStatWord s page i
  else if off = 0x010 then rd s (H_RAW page)
  else if off = 0x014 then rd s (H_EVEN page)
  else if off = 0x018 then rd s (H_PEND page)
  else if off = 0x01C then rd s (H_ROUTE page)
  else if off = 0x020 then rd s (H_LOCKED page)
  else if off = 0x024 then accessWord s i
  else if off = 0x02C then rd s (H_CHK page)
  else 0

/-- The word of a register as a read shows it, without any latch: header, views computed from the state, or stored fields.
The MSI-X table and PBA are reachable only from H (R131). -/
def regWord (s : State) (i : Initiator) (page off : Nat) : Nat :=
  match pageInfo page with
  | none => 0
  | some info =>
    if off < 0x040 then headerWord s page off info
    else if page = 0x001 ∧ 0x040 ≤ off ∧ off < 0x080 then assertedSources s / 2 ^ (32 * ((off - 0x040) / 4)) % 2 ^ 32
    else if page = 0x002 ∧ 0x800 ≤ off ∧ i ≠ .host then 0
    else if page = 0x000 ∧ 0x400 ≤ off ∧ off < 0x800 ∧ off % 16 = 12 then workerAge s ((off - 0x400) / 16)
    else if page = 0x060 ∧ off = 0x044 then maintMinutes s
    else if page = 0x030 ∧ off = 0x048 then nowNs s % 2 ^ 32
    else if page = 0x030 ∧ off = 0x04C then nowNs s / 2 ^ 32
    else if page = 0x030 ∧ off = 0x050 then s.time.ns / 1000000000 % 2 ^ 32
    else if page = 0x030 ∧ off = 0x054 then s.time.ns / 1000000000 / 2 ^ 32
    else if page = 0x030 ∧ off = 0x058 then s.time.ns % 1000000000
    else if page = 0x039 ∧ 0x800 ≤ off then tlgSlotWord s (512 * rd s TLGW_WBASE + (off - 0x800) / 4)
    else if 0x044 ≤ page ∧ page ≤ 0x047 then partsWord s (partsAt page off) + objUpd s (page - 0x044) ((off - 0x040) / 4)
    else partsWord s (partsAt page off)

/-! ## Page check (R106) -/

/-- The part counts in PAGE_CHK: RW or RWS, and the LOC field of R128. -/
def chkPart (q : Part) : Bool := match q.ty with | .rw => true | .rws => true | .sem => true | _ => false

/-- The offsets that a group of registers covers. -/
def chkOffsets (g : ChkGroup) : List Nat := (List.range g.count).flatMap (fun n => g.inner.map (fun o => g.base + n * g.stride + o))

/-- The offsets of a page that hold an RW or RWS field; a 64-bit RW field holds two registers. -/
def pageOffsets (page : Nat) : List Nat :=
  (chkOf page).flatMap chkOffsets |>.flatMap (fun o => if (partsAt page o).any (fun q => 32 < q.fld.w) then [o, o + 4] else [o])

/-- The bytes that PAGE_CHK covers. -/
def chkBytes (s : State) (page : Nat) : List Byte :=
  (pageOffsets page).flatMap (fun o =>
    let l := (partsAt page o).filter chkPart
    if l.isEmpty then [] else le 4 (l.foldl (fun a q => a + partVal (rd s q.fld) q) 0))

/-- The CRC-32C of R106; a page without such a register holds 0. -/
def pageCheck (s : State) (page : Nat) : Nat := let b := chkBytes s page; if b.isEmpty then 0 else crc32c b

/-- Brings PAGE_CHK up to date after an applied write or commit, which clears CHK_ERR (R106, R107). -/
def touch (page : Nat) (s : State) : State :=
  let t := wr s (H_CHK page) (pageCheck s page)
  let t := wrB t (H_CHK_ERR page) false
  setPageSt t page { pageSt t page with chkOk := true }

/-! ## Locks, shadows, event writes -/

/-- The page is locked (R105). -/
def pageLocked (s : State) (page : Nat) : Bool := rdB s (H_LOCKED page)

/-- Every shadow value of the page becomes its committed value (R102). -/
def commitPage (page : Nat) (s : State) : State :=
  let mine := s.shadow.filter (fun c => decide (keyPage c.1 = page))
  let rest := s.shadow.filter (fun c => decide (keyPage c.1 ≠ page))
  { s with shadow := rest, regs := mine.foldl (fun r c => insertK r c.1 c.2) s.regs }

/-- Every shadow value of the page returns to its committed value (R102). -/
def discardPage (page : Nat) (s : State) : State := { s with shadow := s.shadow.filter (fun c => decide (keyPage c.1 ≠ page)) }

/-- Sets an RWS field and its shadow together: what a command that writes and commits one field leaves. -/
def wrBoth (s : State) (f : Fld) (v : Nat) : State := let t := wr s f v; { t with shadow := eraseK t.shadow f.key }

/-- The plain effect of one part of a write by its type (R7): RW takes the bits, RWS takes them in its shadow, W1C clears, W1S sets. -/
def writePart (v : Nat) (q : Part) (s : State) : State :=
  match q.ty with
  | .rw => wr s q.fld (withPart (rd s q.fld) v q)
  | .rws => wrShadow s q.fld (withPart (rdShadow s q.fld) v q)
  | .w1c => wr s q.fld (withPart (rd s q.fld) ((rd s q.fld / 2 ^ q.src % 2 ^ q.w &&& (2 ^ q.w - 1 - partOf v q)) * 2 ^ q.lo) q)
  | .w1s => wr s q.fld (withPart (rd s q.fld) ((rd s q.fld / 2 ^ q.src % 2 ^ q.w ||| partOf v q) * 2 ^ q.lo) q)
  | _ => s

/-- The plain effect of a write on the stored fields of a word. -/
def writeParts (page off v : Nat) (s : State) : State := forEach (partsAt page off) (writePart v) s

/-- The part is protected by a lock (R105). -/
def lockPart (q : Part) : Bool := match q.ty with | .rw => true | .rws => true | .w1s => true | .wo => true | .sem => true | _ => false

/-- The register holds a W1C field. -/
def hasW1c (l : List Part) : Bool := l.any (fun q => match q.ty with | .w1c => true | _ => false)

/-- What a write carries for a locked part differs from what the lock keeps (R105). -/
def lockHits (s : State) (v : Nat) (q : Part) : Bool :=
  match q.ty with
  | .rw => decide (partOf v q ≠ rd s q.fld / 2 ^ q.src % 2 ^ q.w)
  | .sem => decide (partOf v q ≠ rd s q.fld / 2 ^ q.src % 2 ^ q.w)
  | .rws => decide (partOf v q ≠ rdShadow s q.fld / 2 ^ q.src % 2 ^ q.w)
  | .w1s => decide (partOf v q ≠ 0)
  | .wo => decide (partOf v q ≠ 0)
  | _ => false

/-- What a lock does with a write: nothing, discard the whole of it, or keep its W1C bits and discard the rest; and whether LOCK_FAULT raises. -/
inductive LockVerdict where
  | free | discard | w1cOnly (raises : Bool)

/-- The lock of R105 against one write. -/
def lockVerdict (s : State) (page off v : Nat) : LockVerdict :=
  if pageLocked s page = false then .free
  else if off = 0x008 ∨ off = 0x028 then .discard
  else if off < 0x040 then .free
  else
    let l := partsAt page off
    if hasW1c l then .w1cOnly (l.any (lockHits s v))
    else if l.any lockPart then .discard
    else .free

/-- A lock or an unlock write (R105). A lock takes 0xB10C_0100; an unlock takes 0x5EED_0000 and then 0xB10C_0000 by the same initiator. -/
def lockWrite (i : Initiator) (page v : Nat) (s : State) : State :=
  match pageInfo page with
  | none => s
  | some info =>
    if info.lockable = false then s
    else if v = 0xB10C0100 then setPageSt (wrB s (H_LOCKED page) true) page { pageSt s page with unlockBy := none }
    else if v = 0x5EED0000 then setPageSt s page { pageSt s page with unlockBy := some i }
    else if v = 0xB10C0000 ∧ (pageSt s page).unlockBy = some i then
      setPageSt (wrB s (H_LOCKED page) false) page { pageSt s page with unlockBy := none }
    else setPageSt s page { pageSt s page with unlockBy := none }

/-- Any other write to the page cancels an unlock (R105). -/
def cancelUnlock (page : Nat) (s : State) : State :=
  if (pageSt s page).unlockBy.isSome then setPageSt s page { pageSt s page with unlockBy := none } else s

/-! ## Enables (R103) -/

/-- A write of the enable of a page: the table of R103. The register shows the request, held or not. -/
def enRequest (page : Nat) (v : Bool) (s : State) : State :=
  let s := wrB s (H_EN page) v
  let p := pageSt s page
  match p.en with
  | .off => if v then setPageSt s page { p with en := .starting } else s
  | .starting => setPageSt s page { p with held := some v }
  | .on => if v then s else setPageSt s page { p with en := .stopping }
  | .stopping => setPageSt s page { p with held := some v }

/-- A start ends: to STOPPING where 0 is held, otherwise to ON (R103). -/
def enStartDone (page : Nat) (s : State) : State :=
  let p := pageSt s page
  if p.en = .starting then
    if p.held = some false then setPageSt s page { p with en := .stopping, held := none }
    else setPageSt s page { p with en := .on, held := none }
  else s

/-- A stop ends: to STARTING where 1 is held, otherwise to OFF (R103). -/
def enStopDone (page : Nat) (s : State) : State :=
  let p := pageSt s page
  if p.en = .stopping then
    if p.held = some true then setPageSt s page { p with en := .starting, held := none }
    else setPageSt s page { p with en := .off, held := none }
  else s

/-- The block of a page is ON; a block without an enable always runs (R100). -/
def pageOn (s : State) (page : Nat) : Bool :=
  match pageInfo page with
  | none => false
  | some i => !i.hasEn || decide ((pageSt s page).en = .on)

/-! ## Reads with their latches (R97) -/

/-- Initiator and key of a read latch. -/
def latchKey (i : Initiator) (page off : Nat) : Nat × Nat := (initCode i, page * 4096 + off)

/-- Removes a latch. -/
def unlatch (l : List ((Nat × Nat) × Nat)) (k : Nat × Nat) : List ((Nat × Nat) × Nat) := l.filter (fun c => decide (c.1 ≠ k))

/-- The word at an offset is the low word of a 64-bit register (R97): a stored 64-bit field, TIME_NS and TIME_GM_SEC. -/
def is64Low (page off : Nat) : Bool :=
  (decide (page = 0x030) && decide (off = 0x048 ∨ off = 0x120)) || (partsAt page off).any (fun q => decide (32 < q.fld.w ∧ q.src = 0))

/-- Sets a latch of an initiator. -/
def setLatch (s : State) (i : Initiator) (page off v : Nat) : State :=
  { s with latch := unlatch s.latch (latchKey i page off) ++ [(latchKey i page off, v)] }

/-- Takes a latch of an initiator. -/
def takeLatch (s : State) (i : Initiator) (page off : Nat) : Option Nat := s.latch.lookup (latchKey i page off)

/-- Clears the RC fields of a word: an RC counter clears on the read of its low word (R7, R97). -/
def clearRc (page off : Nat) (s : State) : State :=
  forEach (partsAt page off) (fun q t => match q.ty with | .rc => if q.src = 0 then wr t q.fld 0 else t | _ => t) s

/-- One word read by an initiator: its value, and the latches and clears that the read makes (R97, R323). -/
def readWord (s : State) (i : Initiator) (page off : Nat) : Nat × State :=
  match takeLatch s i page off with
  | some v => (v, { s with latch := unlatch s.latch (latchKey i page off) })
  | none =>
    let v := regWord s i page off
    let t := if page = 0x030 ∧ off = 0x050 then
        setLatch (setLatch s i page 0x054 (regWord s i page 0x054)) i page 0x058 (regWord s i page 0x058)
      else if is64Low page off then setLatch s i page (off + 4) (regWord s i page (off + 4))
      else s
    (v, clearRc page off t)

/-- The pages a halted node gives access to (R85). -/
def haltedPage (page : Nat) : Bool := decide (page = 0x000 ∨ page = 0x002 ∨ page = 0x003)

/-- Register accesses are served: the node runs, or is halted and the page is one of R85. -/
def served (s : State) (page : Nat) : Bool := decide (s.phase = .running) || (decide (s.phase = .halted) && haltedPage page)

/-- One permitted or denied word read: 0 with DENIED where the map denies it; 0 on an index that holds no page, and on a page that a halted
node does not serve (R85, R95, R101). -/
def readChecked (s : State) (i : Initiator) (page off : Nat) : Nat × State :=
  match pageInfo page with
  | none => (0, s)
  | some info =>
    if served s page = false then (0, s)
    else if mayRead s i info.cls = false then (0, regFault s 3 i page off)
    else readWord s i page off


end Sys2Proof.Machine
end

