-- ==== Sys2Proof/Machine/Egress.lean ====
section
/-! DEFINITION. Sending frames: tags (R188, R189), size (R184, R185), buffer cells (R219, R220), transmission selection with gates, shapers
and pauses (R194, R221 to R224), MACsec on the backbone (R229), host receive queues (R233, R234). A transmission takes no time in the
model (log entry 13). -/

namespace Sys2Proof.Machine

/-! ## Frames and tags -/

/-- A frame as the pipeline carries it: addresses, the VID, PCP and DEI of R188, whether it was tagged, what follows the tag, the R-TAG's
sequence number where it carries one, and the bytes as received. -/
structure Frm where
  dst : List Byte
  src : List Byte
  vid : Nat
  pcp : Nat
  dei : Bool
  tagged : Bool
  rtag : Option Nat
  rest : List Byte
  raw : List Byte
deriving DecidableEq, Repr

/-- A 48-bit address as bytes. -/
def macBytes (m : Nat) : List Byte := be 6 m

/-- The individual/group bit of a destination. -/
def isGroup (dst : List Byte) : Bool := decide ((beAt dst 0 1) % 2 = 1)

/-- The broadcast address. -/
def isBroadcast (dst : List Byte) : Bool := decide (ofBe dst = 2 ^ 48 - 1)

/-- The effective PVID: 0x000 and 0xFFF act as 0x001 (R197). -/
def pvid (s : State) (p : Nat) : Nat :=
  let v := rd s (PORT_VLAN_PVID p)
  if v = 0 ∨ v = 0xFFF then 1 else v

/-- The R-TAG of what follows the VLAN tag: its sequence number (R225). -/
def rtagOf (rest : List Byte) : Option Nat := if beAt rest 0 2 = 0xF1C1 then some (beAt rest 4 2) else none

/-- A frame from its bytes with the VID, PCP and DEI that an untagged one takes (R188). rest has the R-TAG removed. -/
def parseFrame (bytes : List Byte) (defVid defPcp : Nat) : Frm :=
  let tagged := decide (beAt bytes 12 2 = 0x8100)
  let tci := beAt bytes 14 2
  let after := if tagged then bytes.drop 16 else bytes.drop 12
  let r := rtagOf after
  { dst := slice bytes 0 6, src := slice bytes 6 6,
    vid := if tagged then (if tci % 4096 = 0 then defVid else tci % 4096) else defVid,
    pcp := if tagged then tci / 8192 else defPcp,
    dei := tagged && bit tci 12, tagged := tagged, rtag := r,
    rest := if r.isSome then after.drop 6 else after, raw := bytes }

/-- The R-TAG bytes (R225). -/
def rtagBytes (r : Option Nat) : List Byte := match r with | none => [] | some n => be 2 0xF1C1 ++ be 2 0 ++ be 2 n

/-- A frame in tagged form. -/
def taggedBytes (f : Frm) : List Byte :=
  f.dst ++ f.src ++ be 2 0x8100 ++ be 2 (f.pcp * 8192 + (if f.dei then 4096 else 0) + f.vid) ++ rtagBytes f.rtag ++ f.rest

/-- A frame in untagged form. -/
def untaggedBytes (f : Frm) : List Byte := f.dst ++ f.src ++ rtagBytes f.rtag ++ f.rest

/-- The form in which a port sends a frame (R189); 0b11 acts as 0b00. -/
def egressBytes (s : State) (p : Nat) (f : Frm) : List Byte :=
  let e := rd s (PORT_VLAN_EGRESS_TAG p)
  if e = 1 ∨ (e = 2 ∧ f.vid = pvid s p) then untaggedBytes f else taggedBytes f

/-- The maximum length in force on a port (R185); T's is fixed at 9,600 (R196). -/
def maxLen (s : State) (p : Nat) : Nat := if p = 14 then 9600 else max 1518 (min 9600 (rd s (PORT_MAXLEN p)))

/-- A frame's length on the wire, FCS and padding included (R184). -/
def wireLen (bytes : List Byte) : Nat := max 64 (bytes.length + 4)

/-- The traffic class of a PCP (FWD_PCPMAP, R219). -/
def pcpClass (s : State) (pcp : Nat) : Nat := bits (rd s FWD_PCPMAP) (3 * pcp + 2) (3 * pcp)

/-! ## Buffer cells (R220) -/

/-- Cells of L bytes. -/
def cellsOf (n : Nat) : Nat := (n + 127) / 128

/-- Cells that the queued frames hold: copies of one frame share them. -/
def cellsHeld (l : List Queued) : Nat :=
  (l.foldl (fun (a : Nat × List Nat) q => if a.2.contains q.id then a else (a.1 + cellsOf (q.bytes.length + 4), q.id :: a.2)) (0, [])).1

/-- FWD_STAT.FREE_CELLS follows the queues. -/
def syncCells (s : State) : State := wr s FWD_STAT_FREE_CELLS (0x20000 - cellsHeld s.fwd.egress)

/-- Cells in one egress queue. T has one queue. -/
def queueCells (s : State) (p c : Nat) : Nat :=
  (s.fwd.egress.filter (fun q => decide (q.port = p) && (decide (p = 14) || decide (q.cls = c)))).foldl (fun a q => a + cellsOf (q.bytes.length + 4)) 0

/-- A class is express on a port (R219). -/
def expressClass (s : State) (p c : Nat) : Bool := decide (p = 14) || bit (rd s (PORT_PREEMPT_EXPRESS_TC p)) c

/-! ## Gates, shapers, pauses -/

/-- Data rate of a port in kbit/s (PORT_STATUS.SPEED, R197). -/
def portRate (s : State) (p : Nat) : Nat :=
  match rd s (PORT_STATUS_SPEED p) with
  | 1 => 10000 | 2 => 100000 | 3 => 1000000 | 4 => 2500000 | 5 => 10000000 | 6 => 50000000 | 7 => 25000000 | _ => 0

/-- Nanoseconds that a frame occupies a port: 8 bytes of preamble and the frame with its FCS. -/
def frameNs (s : State) (p : Nat) (bytes : List Byte) : Nat :=
  let r := portRate s p
  if r = 0 then 0 else (wireLen bytes + 8) * 8 * 1000000 / r

/-- The gate of a class is open now (GATE_PSTAT.STATES; while no list has been loaded every gate is open, R221). -/
def gateOpen (s : State) (p c : Nat) : Bool := decide (p = 14) || bit (rd s (GATE_PSTAT_STATES p)) c

/-- Time until the gate of a class closes, counted from the start of entry k over the following entries; fuel covers one pass of the list. -/
def gateRun (l : List (Nat × Nat × Nat)) (k c fuel acc : Nat) : Option Nat :=
  match fuel with
  | 0 => none
  | fuel + 1 =>
    match l[k % l.length]? with
    | none => none
    | some (iv, st, _) => if bit st c then gateRun l (k + 1) c fuel (acc + iv) else some acc

/-- A frame of a class can end before its gate closes (R221). -/
def fitsGate (s : State) (p c : Nat) (bytes : List Byte) : Bool :=
  match s.fwd.gates.lookup p with
  | none => true
  | some g =>
    match gateRun g.entries (rd s (GATE_PSTAT_ENTRY p)) c g.entries.length 0 with
    | none => true
    | some n => decide (nowNs s - ((s.fwd.gateAt.lookup p).getD 0) + frameNs s p bytes ≤ n)

/-- The shaper of a class: its idleSlope in kbit/s. GATE_CBSA is in force where both name the class; a slope above the data rate acts as it (R224). -/
def shaper (s : State) (p c : Nat) : Option Nat :=
  if p = 14 then none
  else if rdB s (GATE_CBSA_EN p) && decide (rd s (GATE_CBSA_CLASS p) = c) then some (min (rd s (GATE_CBSA_SLOPE p)) (portRate s p))
  else if rdB s (GATE_CBSB_EN p) && decide (rd s (GATE_CBSB_CLASS p) = c) then some (min (rd s (GATE_CBSB_SLOPE p)) (portRate s p))
  else none

/-- Key of a class in the credit table. -/
def creditKey (p c : Nat) : Nat := 8 * p + c

/-- The credit of a shaped class now, in millionths of a bit: it grows at idleSlope while its gate is open and stops at zero, since nothing
interferes with a transmission that takes no time (R224). -/
def creditNow (s : State) (p c slope : Nat) : Int :=
  match s.fwd.credit.lookup (creditKey p c) with
  | none => 0
  | some (v, at_) => if gateOpen s p c then min 0 (v + (slope * (nowNs s - at_) : Nat)) else v

/-- Sets the credit of a class as of now; zero is not listed. -/
def setCredit (s : State) (p c : Nat) (v : Int) : State :=
  { s with fwd := { s.fwd with credit := if v = 0 then eraseK s.fwd.credit (creditKey p c) else insertK s.fwd.credit (creditKey p c) (v, nowNs s) } }

/-- Brings the credits of a port up to date before its gates change. -/
def settleCredits (p : Nat) (s : State) : State :=
  forEach (List.range 8) (fun c t => match shaper t p c with | none => t | some sl => setCredit t p c (creditNow t p c sl)) s

/-- A class is held by PFC: some paused priority maps to it (R194). -/
def pfcHeld (s : State) (p c : Nat) : Bool :=
  (List.range 8).any (fun q => bit (portSt s p).pausedPrio.toNat q && decide (pcpClass s q = c))

/-- A class is held by a pause in force. -/
def pauseHeld (s : State) (p c : Nat) : Bool := rdB s (PORT_STATUS_PAUSED p) || pfcHeld s p c

/-- The association number that a frame of the controlled port takes: 3 for train configurations and key frames (KIND 0x08, 0x0C, 0x0D of a tagged
0x88B6 frame), otherwise that of the committed churn (R459). -/
def txAn (s : State) (p : Nat) (bytes : List Byte) : Nat :=
  let kind := beAt bytes 19 1
  if beAt bytes 12 2 = 0x8100 ∧ beAt bytes 16 2 = 0x88B6 ∧ (kind = 0x08 ∨ kind = 0x0C ∨ kind = 0x0D) then 3 else rd s (FWD_SECSTAT_TX_AN p)

/-- A backbone port holds a key of an association number. -/
def secKey (s : State) (p an : Nat) : Bool := ((s.fwd.secPort.lookup p).getD []).any (fun k => decide (k.1 = an))

/-- MACsec holds back a frame of the controlled port while no valid transmit key for it is installed (R229). -/
def secHeld (s : State) (p : Nat) (bytes : List Byte) : Bool := decide (p < 2) && rdB s (FWD_SECSTAT_ON p) && !secKey s p (txAn s p bytes)

/-- A queued frame can start now (R212, R221). -/
def canStart (s : State) (q : Queued) : Bool :=
  linkUp s q.port && !pauseHeld s q.port q.cls && !secHeld s q.port q.bytes &&
  (q.skim || (gateOpen s q.port q.cls && fitsGate s q.port q.cls q.bytes &&
    match shaper s q.port q.cls with | none => true | some sl => decide (0 ≤ creditNow s q.port q.cls sl)))

/-- A frame leaves a port whole: counters of R199, MACsec of R229, padding of R184. -/
def transmit (p : Nat) (bytes : List Byte) (s : State) : State :=
  let b := padTo (max 60 bytes.length) bytes
  let s := cntBy (cnt s p 18) p 19 (wireLen bytes)
  let s := if isGroup bytes then cnt s p 20 else s
  if p < 2 ∧ rdB s (FWD_SECSTAT_ON p) then emit s (.secured p (txAn s p b) (rdB s (FWD_SECSTAT_CONF p)) b) else sendFrame s p b

/-- A frame of the node's own that passes the uncontrolled port and goes ahead of every queued frame (R229, R244, R304). -/
def transmitUncontrolled (p : Nat) (bytes : List Byte) (s : State) : State :=
  if linkUp s p then
    let b := padTo (max 60 bytes.length) bytes
    let s := cntBy (cnt s p 18) p 19 (wireLen bytes)
    let s := if isGroup bytes then cnt s p 20 else s
    sendFrame s p b
  else s

/-- A queued frame starts and ends; a shaped class spends its credit at sendSlope (R224). -/
def startQueued (q : Queued) (s : State) : State :=
  let s := if q.skim then s else match shaper s q.port q.cls with
    | none => s
    | some sl =>
      let r := portRate s q.port
      if r = 0 then s
      else setCredit s q.port q.cls (creditNow s q.port q.cls sl - (((r - sl) * (wireLen q.bytes + 8) * 8 * 1000000 / r : Nat) : Int))
  transmit q.port q.bytes s

/-- One frame is ahead of another in the transmission selection of R221: skim first, then the higher class; equal ones keep their order. -/
def ahead (a b : Queued) : Bool := (a.skim && !b.skim) || (a.skim == b.skim && !a.skim && decide (b.cls < a.cls))

/-- The first frame of each queue that can start; the best of them. -/
def pickFrame (s : State) (p : Nat) : Option Queued :=
  let heads := s.fwd.egress.foldl (fun (a : List Queued) q =>
    if q.port = p && !(a.any (fun h => h.skim == q.skim && h.cls == q.cls)) then a ++ [q] else a) []
  (heads.filter (canStart s)).foldl (fun o q => match o with | none => some q | some b => if ahead q b then some q else o) none

/-- Removes the first frame equal to q. -/
def dropFirst (l : List Queued) (q : Queued) : List Queued :=
  match l with
  | [] => []
  | h :: t => if h = q then t else h :: dropFirst t q

/-- Sends every queued frame of a port that can start, in the order of R221; fuel bounds the number of frames. -/
def drainN (fuel p : Nat) (s : State) : State :=
  match fuel with
  | 0 => s
  | fuel + 1 =>
    match pickFrame s p with
    | none => s
    | some q => drainN fuel p (startQueued q { s with fwd := { s.fwd with egress := dropFirst s.fwd.egress q } })

/-- Sends what can be sent on a port. -/
def drainPort (p : Nat) (s : State) : State := syncCells (drainN s.fwd.egress.length p s)

/-! ## Admission -/

/-- A frame that fits no size limit of a port is dropped there and counted in TX_OVERSIZE (R184). -/
def tooLong (s : State) (p : Nat) (bytes : List Byte) : Bool := decide (maxLen s p < wireLen bytes)

/-- Admission of R220: every egress queue stays at or below QMAX; a frame neither skim nor express leaves XRES cells free. -/
def admits (s : State) (ports : List Nat) (cls : Nat) (skim : Bool) (len : Nat) : Bool :=
  let need := cellsOf (len + 4)
  let free := 0x20000 - cellsHeld s.fwd.egress
  let qmax := max 1 (rd s FWD_BUF_QMAX)
  decide (need ≤ free) && ports.all (fun p => decide (queueCells s p cls + need ≤ qmax)) &&
  (skim || ports.all (fun p => expressClass s p cls) || decide (rd s FWD_BUF_XRES + need ≤ free))

/-- Queues one frame on one port, or drops it there where the port is link down or the frame is too long (R184). -/
def queueOn (id p cls : Nat) (skim : Bool) (bytes : List Byte) (ingress prio : Nat) (s : State) : State :=
  if linkUp s p = false then s
  else if tooLong s p bytes then cnt s p 25
  else drainPort p (syncCells { s with fwd := { s.fwd with egress := s.fwd.egress ++ [⟨id, p, cls, skim, bytes, ingress, prio⟩] } })

/-- Queues a frame on every port of a list in the form of R189. -/
def queueFrame (ports : List Nat) (cls : Nat) (skim : Bool) (f : Frm) (ingress : Nat) (s : State) : State :=
  let id := s.fwd.frameNo
  let s := { s with fwd := { s.fwd with frameNo := id + 1 } }
  forEach ports (fun p t => queueOn id p cls skim (egressBytes t p f) ingress f.pcp t) s

/-- A frame of the node's own on a port, under admission: dropped where no cells are free. -/
def sendOwn (p cls : Nat) (bytes : List Byte) (s : State) : State :=
  let id := s.fwd.frameNo
  let s := { s with fwd := { s.fwd with frameNo := id + 1 } }
  if admits s [p] cls false bytes.length then queueOn id p cls false bytes 16 cls s else s

/-- The ports of a mask below n. -/
def portsOf (mask n : Nat) : List Nat := (List.range n).filter (fun p => bit mask p)

/-! ## Host receive queues (R233, R234) -/

/-- The claim of a resource. -/
def claimOf (s : State) (res : Nat) : Option Claim := s.claims.find? (fun c => decide (c.res = res))

/-- Start of a queue's region in BAR2. -/
def hqBase (q : Nat) : Nat := 0x1000000 + q * 0x80000

/-- Data position of the next frame: the internal position, 0x2000 at first. -/
def hqPos (s : State) (q : Nat) : Nat := max 0x2000 (rd s (NODE_HQ_POS q))

/-- First data byte of the oldest unconsumed frame of a queue. -/
def hqOldest (s : State) (q : Nat) : Nat := leAt (bar2Read s (hqBase q + 16 * rd s (FWD_HQHEAD q)) 4) 0 4

/-- Where n bytes go: after the previous frame in whole 128-byte units, from 0x2000 where they do not fit before the end, and never over an
unconsumed frame. -/
def hqPlace (s : State) (q n : Nat) : Option Nat :=
  let pos := hqPos s q
  let size := 128 * ((n + 127) / 128)
  let used := rd s (NODE_HQ_USED q)
  if used = 0 then (if pos + size ≤ 0x80000 then some pos else if 0x2000 + size ≤ 0x80000 then some 0x2000 else none)
  else
    let old := hqOldest s q
    if old < pos then
      if pos + size ≤ 0x80000 then some pos else if 0x2000 + size ≤ old then some 0x2000 else none
    else if pos + size ≤ old then some pos else none

/-- Drops a frame for a host queue. -/
def hqDrop (q : Nat) (s : State) : State := raise (inc s (FWD_HQDROP q)) 0x020 2

/-- Delivers bytes to a host queue: data, then the descriptor with PHASE last (R234). -/
def hqDeliver (q ingress : Nat) (tagged : Bool) (bytes : List Byte) (s : State) : State :=
  if (claimOf s (0x300 + q)).isNone ∨ 512 ≤ rd s (NODE_HQ_USED q) then hqDrop q s
  else match hqPlace s q bytes.length with
  | none => hqDrop q s
  | some pos =>
    let tail := rd s (FWD_HQTAIL q)
    let phase := 1 - rd s (NODE_HQ_PASS q)
    let s := bar2Write s (hqBase q + pos) bytes
    let s := bar2Write s (hqBase q + 16 * tail)
      (le 4 pos ++ le 2 bytes.length ++ le 1 ingress ++ le 1 (phase * 128 + (if tagged then 64 else 0)) ++ le 8 (nowNs s))
    let s := if tail = 511 then wr s (NODE_HQ_PASS q) (1 - rd s (NODE_HQ_PASS q)) else s
    let s := wr (wr s (FWD_HQTAIL q) (tail + 1)) (FWD_HQTAIL_PHASE q) (1 - rd s (NODE_HQ_PASS q))
    let s := wr (inc s (NODE_HQ_USED q)) (NODE_HQ_POS q) (pos + 128 * ((bytes.length + 127) / 128))
    raise (wrBit s FWD_HQPEND q true) 0x020 (8 + q / 4)

end Sys2Proof.Machine
end

