-- ==== Sys2Proof/Machine/Formats.lean ====
section
/-! DEFINITION. Names of nodes on the train (R276, R277, R280, R284) and the frame formats that carry remote accesses (R118). -/

namespace Sys2Proof.Machine

/-- The node's individual address: 00-EB-1E and the low 24 bits of the node die ID (R276). -/
def nodeMac : Nat := 0x00EB1E * 2 ^ 24 + Config.nodeDie.toNat % 2 ^ 24

/-- A train unicast address: which is 0 for twin 0, 1 for twin 1, 2 for the car node (R277). -/
def trainMac (which handle : Nat) : Nat := 0x02EB1E * 2 ^ 24 + which * 65536 + handle

/-- The node's own stable handle in the committed curd; 0 for none (R273). -/
def ownHandle (s : State) : Nat := rd s CHURN_SELF_HANDLE

/-- The node's own train unicast address. -/
def ownTrainMac (s : State) : Nat := trainMac (twinNo s) (ownHandle s)

/-- The management VID (R280), as the last attempt took it from the train configuration in force (R292). -/
def mgmtVid (s : State) : Nat := s.tcfg.vid

/-- The address map entry of a car UID in the bank in force (R284). -/
def amapByUid (s : State) (uid : BitVec 64) : Option AmapEntry := s.fwd.bank0.amap.find? (fun e => decide (e.uid = uid))

/-- The address map entry of a stable handle. -/
def amapByHandle (s : State) (h : Nat) : Option AmapEntry := s.fwd.bank0.amap.find? (fun e => decide (e.handle = h))

/-- The address map entry of a car number. -/
def amapByCar (s : State) (c : Nat) : Option AmapEntry := s.fwd.bank0.amap.find? (fun e => decide (e.car = c))

/-- Number-based address of car c, host part h (R278). -/
def numIp (c h : Nat) : Nat := 0x0A800000 + (c - 1) * 0x20000 + h
/-- Handle-based address of handle H, host part k (R278). -/
def handleIp (h k : Nat) : Nat := 0x0A000000 + h * 0x80 + k
/-- The IPv4 multicast mapping (R283). -/
def mcastMac (ip : Nat) : Nat := 0x01005E000000 + ip % 2 ^ 23

/-- The address map entry of this node's own car. -/
def ownEntry (s : State) : Option AmapEntry := s.fwd.bank0.amap.find? (fun e => e.own)

/-- The backbone port toward a car: B2 where TOWARD_B2, otherwise B1 (R284, R285). -/
def towardPort (e : AmapEntry) : Nat := if e.towardB2 then 1 else 0

/-- The car UID of this node's car. -/
def ownUid (s : State) : BitVec 64 := s.fuses.uid

/-- The car and twin hold the manager role in the committed curd (R286, DEV_ROLE). -/
def isManager (s : State) (uid : BitVec 64) (twin : Bool) : Bool :=
  match amapByUid s uid with
  | none => false
  | some e => decide (rd s DEV_ROLE_HANDLE ≠ 0 ∧ rd s DEV_ROLE_HANDLE = e.handle ∧ rdB s DEV_ROLE_TWIN = twin)

/-- The pair generation of a car in the committed curd. -/
def curdGen (s : State) (uid : BitVec 64) : Option Nat := (amapByUid s uid).map (fun e => e.gen)

/-- The generation that control traffic carries: that of the committed curd for this car, or the node's own where it is lower (R431). -/
def carriedGen (s : State) : Nat := match curdGen s (ownUid s) with | none => rd s TWIN_GEN | some g => min g (rd s TWIN_GEN)

/-- A remote frame of R118 from offset 0: destination car, fields, data, and the CRC-32C over offsets 18 to the end of the data. -/
def remoteBytes (s : State) (e : AmapEntry) (twin : Bool) (kind flags seq words page word : Nat) (data : List Byte) : List Byte :=
  let body := be 1 1 ++ be 1 kind ++ be 8 (ownUid s).toNat ++ be 8 e.uid.toNat ++
    be 1 ((if s.fuses.twinId then 16 else 0) + (if twin then 1 else 0)) ++ be 1 flags ++ be 4 (carriedGen s) ++ be 4 (rd s CHURN_COUNT) ++
    be 4 seq ++ be 2 words ++ be 2 page ++ be 2 word ++ data
  macBytes (trainMac (if twin then 1 else 0) e.handle) ++ macBytes (ownTrainMac s) ++ be 2 0x8100 ++ be 2 (6 * 8192 + mgmtVid s) ++
    be 2 0x88B6 ++ body ++ be 4 (crc32c body)

/-- Sends a remote frame: over T to the own partner (R117), otherwise on the backbone toward the car. -/
def sendRemote (e : AmapEntry) (twin : Bool) (bytes : List Byte) (s : State) : State :=
  if e.uid = ownUid s ∧ twin ≠ s.fuses.twinId then emit s (.overT 0x0117 bytes) else sendOwn (towardPort e) (pcpClass s 6) bytes s

/-- The address map as its 32-byte entries of R284 spell one car. -/
def amapBytes (e : AmapEntry) : List Byte :=
  le 8 e.uid.toNat ++ le 2 e.handle ++ le 1 (1 + (if e.own then 2 else 0) + (if e.towardB2 then 4 else 0)) ++ le 1 e.twin0 ++ le 1 e.twin1 ++
  zeros 3 ++ le 4 (0x0A800000 + (e.car - 1) * 0x20000) ++ le 4 (0x0A000000 + e.handle * 0x80) ++ zeros 8

end Sys2Proof.Machine
end

