-- ==== Sys2Proof/Machine/Operands.lean ====
section
/-! DEFINITION. The operands of the Tuimbitor Command Set: descriptors and their fields (R133, R142), the checks made when a command is
taken (R135, R139, R144, R145, R148, R149, R509), responses (R134) and completion records (R136). -/

namespace Sys2Proof.Machine

/-- A command as it is taken: its path, its descriptor, the origin and sequence number of a manager's command, and, of a host ring, what the
doorbell that submitted it found written through the remote window (R126). -/
structure Cmd where
  path : CmdPath
  desc : List Byte
  uid : BitVec 64
  twin : Bool
  seq : Nat
  mark : Nat
deriving DecidableEq, Repr

/-- An unsigned field of the descriptor. -/
def Cmd.u (c : Cmd) (off size : Nat) : Nat := leAt c.desc off size

/-- OPCODE (R133). -/
def Cmd.opcode (c : Cmd) : Nat := c.u 0 2

/-- FLAGS (R133). -/
def Cmd.flags (c : Cmd) : Nat := c.u 2 1

/-- QUEUE (R133). -/
def Cmd.queue (c : Cmd) : Nat := c.u 3 1

/-- TAG (R133). -/
def Cmd.tag (c : Cmd) : Nat := c.u 4 4

/-- QUEUE as R133 codes a path. -/
def pathQueue : CmdPath → Nat
  | .host n => n.val
  | .manager a => 8 + a.val
  | .partner => 12

/-- The initiator of a path (R140). -/
def pathInit : CmdPath → Initiator
  | .host _ => .host
  | .manager _ => .manager
  | .partner => .partner

/-- The holder kind of a path's caller (R170). -/
def callerKind : CmdPath → Nat
  | .host _ => 0
  | .manager _ => 1
  | .partner => 2

/-- What a command does with the car's state (R143, group 2). -/
inductive CmdKind where
  | rd | shared | only
deriving DecidableEq, Repr

/-- The outcome of a command's own run: its status, none where the response comes later (MB_CANCEL, R146); its result bytes; the state; for an ACCEPTED
command that ends at once, the status and results of its completion record (R509). -/
structure Reply where
  status : Option Nat
  res : List Byte
  st : State
  done : Option (Nat × List Byte)

/-- Plain success. -/
def Reply.ok (s : State) : Reply := ⟨some stOK, [], s, none⟩
/-- Success with results. -/
def Reply.okWith (res : List Byte) (s : State) : Reply := ⟨some stOK, res, s, none⟩
/-- A refusal: nothing changed. -/
def Reply.fail (st : Nat) (s : State) : Reply := ⟨some st, [], s, none⟩
/-- ACCEPTED. -/
def Reply.accepted (s : State) : Reply := ⟨some stACCEPTED, [], s, none⟩
/-- ACCEPTED, with the completion record at once. -/
def Reply.ends (status : Nat) (res : List Byte) (s : State) : Reply := ⟨some stACCEPTED, [], s, some (status, res)⟩

/-- A row of the catalogue: opcode, asynchronous or not, kind, host only, the argument bytes it lists, the range checks of its arguments,
the pages whose protected fields it changes (R105), its object (R148), the host receive queue it names (R149), and its run. -/
structure CmdSpec where
  opcode : Nat
  async : Bool
  kind : CmdKind
  hostOnly : Bool
  used : Cmd → List (Nat × Nat)
  argOk : State → Cmd → Bool
  pages : State → Cmd → List Nat
  obj : State → Cmd → CmdObj
  bulk : Cmd → Option Nat
  input : Cmd → Option (Nat × Nat)
  run : Cmd → State → Reply

/-- A synchronous command without object or bulk data. -/
def CmdSpec.sync (opcode : Nat) (kind : CmdKind) (used : List (Nat × Nat)) (argOk : State → Cmd → Bool) (run : Cmd → State → Reply) : CmdSpec :=
  { opcode := opcode, async := false, kind := kind, hostOnly := false, used := fun _ => used, argOk := argOk, pages := fun _ _ => [],
    obj := fun _ _ => .none, bulk := fun _ => none, input := fun _ => none, run := run }

/-- Every opcode of the catalogue (R150 to R167). -/
def knownOpcode (op : Nat) : Bool :=
  let g := op / 256
  let c := op % 256
  (decide (g = 0x01) && decide (c ≤ 3)) || (decide (g = 0x02) && decide (c ≤ 3)) || (decide (g = 0x03) && decide (c ≤ 3)) ||
  (decide (g = 0x04) && decide (c ≤ 4)) || (decide (g = 0x05) && decide (c ≤ 3)) || (decide (g = 0x06) && decide (c ≤ 4)) ||
  (decide (g = 0x07) && decide (c ≤ 4)) || (decide (g = 0x08) && decide (c ≤ 5)) || (decide (g = 0x09) && decide (c ≤ 5)) ||
  (decide (g = 0x0A) && decide (c ≤ 6)) || (decide (g = 0x0B) && decide (c ≤ 4)) || (decide (g = 0x0C) && decide (c ≤ 3)) ||
  (decide (g = 0x0D) && decide (c ≤ 1)) || (decide (g = 0x0E) && decide (c ≤ 3)) || (decide (g = 0x0F) && decide (c ≤ 2)) ||
  (decide (g = 0x10) && decide (c ≤ 1)) || (decide (g = 0x11) && decide (c ≤ 2))

/-! ## Protection (R145, R444, R450) -/

/-- What R145 lets an initiator issue at most. -/
def pathMay (p : CmdPath) (k : CmdSpec) : Bool :=
  match p with
  | .host _ => true
  | .manager _ => !k.hostOnly
  | .partner => decide (k.opcode / 256 = 0x0B) || decide (k.kind = .rd)

/-- The commands a retired node's host can issue (R444). -/
def retiredCommand (c : Cmd) (k : CmdSpec) : Bool :=
  match c.path with
  | .host _ =>
    (decide (k.kind = .rd) && decide (k.opcode / 256 = 0x01 ∨ k.opcode / 256 = 0x0E)) || decide (k.opcode = 0x0E01) ||
    (decide (k.opcode / 256 = 0x11) && decide (c.u 9 1 = 0x03))
  | _ => false

/-- The protection map permits a command (R135, R450). -/
def commandPermitted (s : State) (c : Cmd) (k : CmdSpec) : Bool :=
  pathMay c.path k &&
  if s.fuses.lc = 4 then retiredCommand c k else bit (mapWord s (pathInit c.path)) (16 + k.opcode / 256 - 1)

/-! ## Taking a command (R135) -/

/-- Start of a ring in BAR2 (R114). -/
def sqBase (n : Nat) : Nat := n * 0x4000
/-- Start of a response ring (R114). -/
def rqBase (n : Nat) : Nat := 0x20000 + n * 0x4000

/-- The last write that the oldest doorbell of a ring with untaken entries covers. -/
def ringMark (s : State) (n : Nat) : Nat := match s.remote.marks.find? (fun m => decide (m.1 = n)) with | none => s.remote.lastWrite | some m => m.2.2

/-- The command at the head of a path. -/
def headCmd (s : State) (p : CmdPath) : Option Cmd :=
  match p with
  | .host n =>
    if rd s (CMD_SQHEAD n.val) = rd s (CMD_SQTAIL n.val) then none
    else some ⟨p, bar2Read s (sqBase n.val + 64 * rd s (CMD_SQHEAD n.val)) 64, 0, false, 0, ringMark s n.val⟩
  | .manager a =>
    match s.remote.inbox.find? (fun e => decide (e.1 = a.val)) with
    | none => none
    | some (_, uid, twin, d, seq) => some ⟨p, padTo 64 d, uid, twin, seq, 0⟩
  | .partner =>
    match s.remote.partnerIn with
    | [] => none
    | d :: _ => some ⟨p, padTo 64 d, 0, false, 0, 0⟩

/-- Removes the first element that satisfies c. -/
def removeFirst {α : Type} (c : α → Bool) (l : List α) : List α :=
  match l with
  | [] => []
  | h :: t => if c h then t else h :: removeFirst c t

/-- The command leaves its path. -/
def popCmd (p : CmdPath) (s : State) : State :=
  match p with
  | .host n =>
    let t := inc s (CMD_SQHEAD n.val)
    { t with remote := { t.remote with
        marks := t.remote.marks.filter (fun m => !decide (m.1 = n.val ∧ m.2.1 = rd t (CMD_SQHEAD n.val))) } }
  | .manager a => { s with remote := { s.remote with inbox := removeFirst (fun e => decide (e.1 = a.val)) s.remote.inbox } }
  | .partner => { s with remote := { s.remote with partnerIn := s.remote.partnerIn.tail } }

/-- A response of the path is still owed: an MB_CANCEL that waits for the end of its frame (R146, R160). -/
def responseOwed (s : State) (p : CmdPath) : Bool := s.mbus.any (fun m => m.2.cancels.any (fun c => decide (c.2.path = p)))

/-- The command can be taken: the paired response ring has a free entry, an ORDERED command has nothing earlier of its ring outstanding, and
no earlier response of the path is still owed (R133, R135). -/
def readyCmd (s : State) (c : Cmd) : Bool :=
  (match c.path with | .host n => decide (rd s (NODE_RQ_USED n.val) < 256) | _ => true) &&
  !(bit c.flags 0 && s.accepted.any (fun a => decide (a.path = c.path))) && !responseOwed s c.path

/-- CMD_STAT.OUTSTANDING and FULL follow the state (R132). -/
def syncCmdStat (s : State) : State :=
  let full := (List.range 8).foldl (fun a n => if 256 ≤ rd s (NODE_RQ_USED n) then setBit a n else a) 0
  wr (wr s CMD_STAT_FULL full) CMD_STAT_OUTSTANDING (s.accepted.filter (fun a => !a.discard)).length

/-- The 64 bytes of a response with PHASE p (R134). -/
def responseBytes (c : Cmd) (phase status : Nat) (res : List Byte) : List Byte :=
  le 2 c.opcode ++ le 1 status ++ le 1 (phase * 128 + c.queue % 16) ++ le 4 c.tag ++ padTo 56 res

/-- Keeps an answer for repeats: the last 256 of each origin (R119). -/
def keepAnswer (a : RemAnswer) (s : State) : State :=
  let mine := s.remote.answers.filter (fun b => decide (b.uid = a.uid ∧ b.twin = a.twin))
  let others := s.remote.answers.filter (fun b => decide (¬ (b.uid = a.uid ∧ b.twin = a.twin)))
  { s with remote := { s.remote with answers := others ++ (mine.drop (mine.length - 255)) ++ [a] } }

/-- Sends an answer of the remote path: kind, status, words and data (R118). -/
def sendAnswer (uid : BitVec 64) (twin : Bool) (kind status seq words page word : Nat) (data : List Byte) (s : State) : State :=
  match amapByUid s uid with
  | none => s
  | some e => sendRemote e twin (remoteBytes s e twin kind status seq words page word data) s

/-- Posts a response on the path its command came from (R134, R140): in the paired response ring, in a RESPONSE frame, or to the partner's TCS. -/
def respond (c : Cmd) (status : Nat) (res : List Byte) (s : State) : State :=
  match c.path with
  | .host n =>
    let t := rd s (CMD_RQTAIL n.val)
    let s := bar2Write s (rqBase n.val + 64 * t) (responseBytes c (1 - rd s (NODE_RQ_PASS n.val)) status res)
    let s := if t = 255 then wr s (NODE_RQ_PASS n.val) (1 - rd s (NODE_RQ_PASS n.val)) else s
    let s := wr (wr s (CMD_RQTAIL n.val) (t + 1)) (CMD_RQTAIL_PHASE n.val) (1 - rd s (NODE_RQ_PASS n.val))
    syncCmdStat (raise (inc s (NODE_RQ_USED n.val)) 0x003 n.val)
  | .manager _ =>
    let b := responseBytes c 0 status res
    keepAnswer ⟨c.uid, c.twin, c.seq, 6, status, [], b⟩ (sendAnswer c.uid c.twin 6 status c.seq 16 0 0 b s)
  | .partner => emit s (.overT 0x0140 (responseBytes c 0 status res))

/-- The bytes 8 to 63 that a row does not list are 0 (R142). -/
def reservedZero (d : List Byte) (used : List (Nat × Nat)) : Bool :=
  (List.range 56).all (fun i => let o := 8 + i; used.any (fun u => decide (u.1 ≤ o ∧ o < u.1 + u.2)) || decide (leAt d o 1 = 0))

/-- The caller holds a resource (R149, R171); the host counts as one caller for every ring, and the manager role is one caller (R45). -/
def holds (s : State) (p : CmdPath) (res : Nat) : Bool :=
  match claimOf s res with | none => false | some c => decide (c.kind = callerKind p)

/-- A separator rule in force can steer frames to host queue q (R149). -/
def ruleSteers (s : State) (q : Nat) : Bool := s.fwd.bank0.rules.any (fun r => r.2.valid && decide (r.2.action = 1 ∧ r.2.target = q))

/-- A command on the same object is still running (R148). -/
def objectBusy (s : State) (o : CmdObj) : Bool := decide (o ≠ .none) && s.accepted.any (fun a => decide (a.obj = o))

/-- No completion entry is left: every one is reserved or unconsumed (R136). -/
def noCompletion (s : State) (p : CmdPath) : Bool :=
  match p with
  | .host _ => decide (1024 ≤ rd s NODE_CR_USED + (s.accepted.filter (fun a => match a.path with | .host _ => !a.discard | _ => false)).length)
  | _ => false

/-- The role check of R139 for commands that change the car's shared state. -/
def roleStatus (s : State) (k : CmdSpec) : Option Nat :=
  if k.kind = .shared then (if role s = 1 then some stWRONG_STATE else if isFenced s then some stFENCED else none) else none

/-- The first failing check of a taken command, in order: descriptor CRC, QUEUE, opcode (R135). -/
def firstChecks (t : Take) (c : Cmd) : Option Nat :=
  if (match t.path with | .host _ => !t.crcGood | _ => false) then some stINTEGRITY
  else if c.queue ≠ pathQueue c.path then some stBAD_ARG
  else if knownOpcode c.opcode = false then some stUNKNOWN
  else none

/-- The checks after R135's first three, in the order of log entry 14: protection map; halted node (R85); role (R139); reserved bytes and
ranges (R142); lock (R105); object (R148); completion entry (R136); bulk queue and staged data (R149). -/
def laterChecks (k : CmdSpec) (c : Cmd) (s : State) : Option Nat :=
  if commandPermitted s c k = false then some stDENIED
  else if s.phase = .halted ∧ k.opcode / 256 ≠ 0x01 then some stWRONG_STATE
  else match roleStatus s k with
  | some st => some st
  | none =>
    if reservedZero c.desc (k.used c) = false ∨ c.flags / 4 ≠ 0 ∨ k.argOk s c = false then some stBAD_ARG
    else if (k.pages s c).any (pageLocked s) then some stWRONG_STATE
    else if objectBusy s (k.obj s c) then some stBUSY
    else if k.async ∧ noCompletion s c.path then some stBUSY
    else match k.bulk c with
    | none => none
    | some q =>
      if holds s c.path (0x300 + q) = false ∨ ruleSteers s q then some stWRONG_STATE
      else match k.input c with
      | none => none
      | some (len, crc) => if crc32c (bar2Read s (hqBase q) len) = crc then none else some stINTEGRITY

/-- The accepted entry of a command. -/
def acceptedOf (k : CmdSpec) (c : Cmd) (s : State) : Accepted :=
  ⟨c.opcode, c.flags, c.tag, c.path, k.obj s c, c.desc, false, c.uid, c.twin, c.seq⟩

/-- A command enters the outstanding list (R136). -/
def addAccepted (a : Accepted) (s : State) : State := syncCmdStat { s with accepted := s.accepted ++ [a] }

/-- Class of a command in the journal (R421): 2 manager, 3 partner path, 4 host. -/
def journalClass : CmdPath → Fin 6
  | .manager _ => 2
  | .partner => 3
  | .host _ => 4

/-- A command that a joined node takes from its host or manager enters the journal (R135, R140, R143). -/
def journalCmd (c : Cmd) (s : State) : State :=
  if joined s ∧ c.path ≠ .partner then
    { s with twin := { s.twin with own := s.twin.own ++ [⟨journalClass c.path, .command ⟨c.desc⟩, true⟩] } }
  else s

/-- A command of kind C from the host or the manager answers a false wake (R390). -/
def answersFalseWake (k : CmdSpec) (c : Cmd) (s : State) : State :=
  if k.kind = .shared ∧ c.path ≠ .partner then answerWake s else s

/-! ## Completion records (R136) -/

/-- The 64 bytes of a completion record with PHASE p. -/
def completionBytes (a : Accepted) (phase status now : Nat) (res : List Byte) : List Byte :=
  le 2 a.opcode ++ le 1 status ++ le 1 (phase * 128 + pathQueue a.path) ++ le 4 a.tag ++ le 8 now ++ padTo 48 res

/-- Posts the completion record of an accepted command and takes it off the outstanding list (R136, R140); nothing is posted where a PCIe
reset discarded it (R79), or for a command that the partner took. -/
def complete (a : Accepted) (status : Nat) (res : List Byte) (s : State) : State :=
  let s := syncCmdStat { s with accepted := removeFirst (fun b => decide (b = a)) s.accepted }
  if a.discard then s
  else match a.path with
  | .host _ =>
      let t := rd s CMD_CRTAIL
      let s := bar2Write s (0x40000 + 64 * t) (completionBytes a (1 - rd s NODE_CR_PASS) status (nowNs s) res)
      let s := if t = 1023 then wr s NODE_CR_PASS (1 - rd s NODE_CR_PASS) else s
      let s := wr (wr s CMD_CRTAIL (t + 1)) CMD_CRTAIL_PHASE (1 - rd s NODE_CR_PASS)
      raiseIf (!bit a.flags 1) 0x003 8 (inc s NODE_CR_USED)
  | .manager _ => sendAnswer a.uid a.twin 7 status a.seq 16 0 0 (completionBytes a 0 status (nowNs s) res) s
  | .partner => emit s (.overT 0x0140 (completionBytes a 0 status (nowNs s) res))

/-- The response of a command that ran: an ACCEPTED one enters the outstanding list, and posts its completion record where it has ended. -/
def answer (k : CmdSpec) (c : Cmd) (st : Nat) (r : Reply) : State :=
  if st = stACCEPTED then
    let s := respond c st [] (addAccepted (acceptedOf k c r.st) r.st)
    match r.done with
    | none => s
    | some (st, res) => complete (acceptedOf k c r.st) st res s
  else respond c st r.res r.st

/-- Takes the command at the head of a path and runs it as row k of the catalogue: nothing where the path holds no command that can be taken,
or holds a known command of another row. -/
def takeState (k : CmdSpec) (t : Take) (s : State) : State :=
  if s.phase ≠ .running ∧ s.phase ≠ .halted then s
  else match headCmd s t.path with
  | none => s
  | some c =>
    if readyCmd s c = false then s
    else match firstChecks t c with
    | some st => respond c st [] (popCmd t.path s)
    | none =>
      if c.opcode ≠ k.opcode then s
      else match laterChecks k c s with
      | some st => respond c st [] (popCmd t.path s)
      | none =>
        let r := k.run c (answersFalseWake k c (journalCmd c (popCmd t.path s)))
        match r.status with
        | none => r.st
        | some st => answer k c st r

/-- The outstanding command with an opcode and an object. -/
def findAccepted (s : State) (opcode : Nat) (o : CmdObj) : Option Accepted :=
  s.accepted.find? (fun a => decide (a.opcode = opcode ∧ a.obj = o))

/-- Completes the outstanding command with an opcode and an object, if there is one. -/
def completeObj (opcode : Nat) (o : CmdObj) (status : Nat) (res : List Byte) (s : State) : State :=
  match findAccepted s opcode o with
  | none => s
  | some a => complete a status res s

/-- A field of an accepted command's descriptor. -/
def Accepted.u (a : Accepted) (off size : Nat) : Nat := leAt a.args off size

/-- Completes every outstanding command that satisfies p, in the order in which they were taken. -/
def completeWhere (p : Accepted → Bool) (status : Nat) (res : List Byte) (s : State) : State :=
  forEach (s.accepted.filter p) (fun a s => complete a status res s) s

end Sys2Proof.Machine
end

