-- ==== Sys2Proof/Machine/Reserve.lean ====
section
/-! DEFINITION. The Reserve (19_reserve.md): spares, wear, scheduled repairs, the ledger, and the RESERVE commands (R166). Safe points stand in
SafePoint.lean. -/

namespace Sys2Proof.Machine

/-! ## The ledger (R486, R487) -/

/-- Bytes 0x00 to 0x0B of an entry. -/
def ledgerBody (e : LedgerEntry) : List Byte :=
  le 1 e.kind ++ le 1 e.inst ++ le 2 e.element ++ le 1 e.flags ++ le 1 e.cause ++ le 1 e.point ++ le 1 e.spare ++ le 4 e.hours

/-- The 16 bytes of an entry as burned; those of a void entry are free values. -/
def ledgerBytes (e : LedgerEntry) : List Byte :=
  match e.void with
  | some k => le 16 (Config.freeNat k)
  | none => ledgerBody e ++ le 2 (crc32c (ledgerBody e)) ++ le 1 0 ++ le 1 0xA5

/-- All 256 entries in order; an entry not burned reads 0. -/
def ledgerAll (s : State) : List Byte := padTo 4096 (s.fuses.ledger.flatMap ledgerBytes)

/-- Valid entries that satisfy p. -/
def ledgerCount (s : State) (p : LedgerEntry → Bool) : Nat := (s.fuses.ledger.filter (fun e => e.void.isNone && p e)).length

/-! ## Spares (R480, R481) -/

/-- A usable spare is left for a repair; a retiring entry needs none (R483, R489). -/
def spareLeft (s : State) (r : Repair) : Bool :=
  if bit r.flags 0 then true
  else if r.kind = 0 then decide (ledgerCount s (fun e => decide (e.kind = 0)) < 2)
  else if r.kind = 1 then decide (ledgerCount s (fun e => decide (e.kind = 1)) < 1)
  else if r.kind = 3 then
    if bit r.flags 2 then decide (ledgerCount s (fun e => decide (e.kind = 3) && bit e.flags 2) < 8)
    else decide (ledgerCount s (fun e => decide (e.kind = 3 ∧ e.inst = r.inst) && !bit e.flags 2 && (bit e.flags 1 == bit r.flags 1)) < 2)
  else if r.kind = 4 then decide (ledgerCount s (fun e => decide (e.kind = 4)) < 246)
  else decide (ledgerCount s (fun e => decide (e.kind = r.kind ∧ e.inst = r.inst)) = 0)

/-- Index of the spare that an entry uses within its kind; 0xFF for RETIRE. -/
def spareIndex (s : State) (r : Repair) : Nat :=
  if bit r.flags 0 then 0xFF
  else if r.kind = 2 ∨ r.kind = 5 then r.inst
  else if r.kind = 6 then 0
  else if r.kind = 3 ∧ bit r.flags 2 = false then
    ledgerCount s (fun e => decide (e.kind = 3 ∧ e.inst = r.inst) && !bit e.flags 2 && (bit e.flags 1 == bit r.flags 1))
  else ledgerCount s (fun e => decide (e.kind = r.kind) && (decide (r.kind ≠ 3) || bit e.flags 2))

/-- The spare count of a kind as RSV_STATUS reports it. -/
def spareCount (s : State) (kind : Nat) : Nat :=
  let used := ledgerCount s (fun e => decide (e.kind = kind))
  if kind = 0 then 2 - used
  else if kind = 1 then 1 - used
  else if kind = 2 then 20 - used
  else if kind = 3 then 8 - ledgerCount s (fun e => decide (e.kind = 3) && bit e.flags 2)
  else if kind = 4 then (246 - used) * 1000 / 4096
  else if kind = 5 then 16 - used
  else if kind = 6 then 1 - used
  else 0

/-- RSV_STAT and the spare counts follow the ledger and the list. -/
def syncRsv (s : State) : State :=
  let n := s.fuses.ledger.length
  let s := wr (wrB (wr s RSV_STAT_USED n) RSV_STAT_FULL (decide (256 ≤ n))) RSV_STAT_PENDING s.rsv.pend.length
  forEach (List.range 8) (fun k s => wr s (RSV_SPARE k) (spareCount s k)) s

/-! ## Scheduling (R483, R485, R489) -/

/-- The RSV_SCHEDULE commands of a repair. -/
def schedules (r : Repair) (a : Accepted) : Bool := decide (a.opcode = 0x0F02 ∧ a.u 0x08 1 = r.kind ∧ a.u 0x09 1 = r.inst)

/-- A repair is exhausted: the element stays in service (R489). -/
def rsvExhausted (r : Repair) (s : State) : State :=
  let s := inc (raiseRec (wrB s RSV_STAT_EXHAUSTED true) 0x070 3 0 (some r.inst)) (RSV_CNT 3)
  completeWhere (schedules r) stRESERVE_EXHAUSTED [] s

/-- A repair is exhausted: no usable spare, or the ledger is full. -/
def isExhausted (s : State) (r : Repair) : Bool := decide (256 ≤ s.fuses.ledger.length) || !spareLeft s r

/-- The same element. -/
def sameElement (a b : Repair) : Bool := decide (a.kind = b.kind ∧ a.inst = b.inst ∧ a.element = b.element ∧ a.flags = b.flags)

/-- A node of a joined pair with a repair that a drill allows asks for a drill: the active itself, the shadow through the journal (R485). -/
def askDrill (s : State) : State :=
  if role s = 0 then { s with rsv := { s.rsv with drillAsked := true } }
  else if role s = 1 then { s with twin := { s.twin with own := s.twin.own ++ [⟨5, .drillAsk, true⟩] } }
  else s

/-- Schedules a repair: it joins a pending one of its element; failures come before wear; a full list takes none. -/
def scheduleRepair (r : Repair) (s : State) : State :=
  if s.rsv.pend.any (sameElement r) then s
  else if isExhausted s r then rsvExhausted r s
  else if 32 ≤ s.rsv.pend.length then s
  else
    let fails := s.rsv.pend.filter (fun x => x.failure)
    let wears := s.rsv.pend.filter (fun x => !x.failure)
    let s := { s with rsv := { s.rsv with pend := if r.failure then fails ++ [r] ++ wears else fails ++ wears ++ [r] } }
    let s := raise (syncRsv s) 0x070 0
    if r.kind = 0 ∨ r.kind = 4 ∨ r.kind = 5 then askDrill s else s

/-- An SRAM row or column, then the bank once the bank's spare rows or columns are used (R482). -/
def sramRepair (s : State) (r : Repair) : Repair := if r.kind = 3 ∧ spareLeft s r = false then { r with element := 0, flags := 4 } else r

/-! ## Wear (R482) -/

/-- WEAR_SAMPLE: RSV_WEARi shows the element nearest its REPAIR limit; WATCH once per element; a crossed REPAIR limit schedules. -/
def wearSample (w : WearSample) (s : State) : State :=
  let i := w.indicator.val
  let e := w.element.toNat
  let s := if rd s (RSV_WEAR_VALUE i) ≤ w.permille ∨ rd s (RSV_WEAR_ELEMENT i) = e then
      wr (wr s (RSV_WEAR_VALUE i) (min 65535 w.permille)) (RSV_WEAR_ELEMENT i) e else s
  let key := (w.kind.val, w.inst.toNat, e)
  let s := if w.watch ∧ s.rsv.watched.contains key = false then
      inc (raiseRec { s with rsv := { s.rsv with watched := s.rsv.watched ++ [key] } } 0x070 2 0 (some w.inst.toNat)) (RSV_CNT 2) else s
  if 1000 ≤ w.permille then
    let r : Repair := ⟨w.kind.val, w.inst.toNat, e, if w.column then 2 else 0, i + 1, false⟩
    scheduleRepair (sramRepair s r) s
  else s

/-- WEAR_SAMPLE. -/
def execWearSample (w : WearSample) (s : State) : Host.Outcome State Fault Refusal := .next (whenRun s (wearSample w))

/-! ## Commands (R166, R481) -/

/-- RSV_STATUS. -/
def rsvStatusRun (_ : Cmd) (s : State) : Reply :=
  Reply.okWith (le 1 (min 255 s.fuses.ledger.length) ++ zeros 3 ++ (List.range 8).flatMap (fun k => le 1 (spareCount s k))) s

/-- The row of RSV_STATUS. -/
def rsvStatusSpec : CmdSpec := CmdSpec.sync 0x0F00 .rd [] (fun _ _ => true) rsvStatusRun

/-- RSV_STATUS (R166, R481). -/
def execRsvStatus (t : Take) (s : State) : Host.Outcome State Fault Refusal := .next (takeState rsvStatusSpec t s)

/-- RSV_LEDGER: the entry as burned; an entry not burned reads 0. -/
def rsvLedgerRun (c : Cmd) (s : State) : Reply :=
  Reply.okWith (match s.fuses.ledger[c.u 0x08 1]? with | none => zeros 16 | some e => ledgerBytes e) s

/-- The row of RSV_LEDGER. -/
def rsvLedgerSpec : CmdSpec := CmdSpec.sync 0x0F01 .rd [(0x08, 1)] (fun _ _ => true) rsvLedgerRun

/-- RSV_LEDGER (R166, R487). -/
def execRsvLedger (t : Take) (s : State) : Host.Outcome State Fault Refusal := .next (takeState rsvLedgerSpec t s)

/-- Largest instance of a kind (R480). -/
def rsvLastInst (kind : Nat) : Nat :=
  if kind = 0 then 15 else if kind = 1 then 3 else if kind = 2 then 19 else if kind = 3 then 127 else if kind = 4 then 255 else if kind = 5 then 15 else 0

/-- MRAM sector of a record position: the banks one after the other, 128 records of 64 bytes to a sector (PRESUMED, log entry 22). -/
def sectorOf (bank pos : Nat) : Nat := bank * 1536 + pos / 128

/-- Sectors of a group that hold a bad position. -/
def badSectors (s : State) (group : Nat) : List Nat :=
  ((List.range 16).map (fun k => 16 * group + k)).filter (fun x => s.rcd.bad0.any (fun p => decide (sectorOf 0 p = x)) || s.rcd.bad1.any (fun p => decide (sectorOf 1 p = x)))

/-- What RSV_SCHEDULE names: the engine, core or lane; a whole bank; the group's bad sectors; the channel's failed segment (log entry 23). -/
def scheduleElements (s : State) (kind inst : Nat) : List Repair :=
  let mk (e f : Nat) : Repair := ⟨kind, inst, e, f, 0x20, false⟩
  if kind = 3 then [mk 0 4]
  else if kind = 4 then
    let l := badSectors s inst
    if l = [] then (match s.rsv.pend.find? (fun r => decide (r.kind = 4 ∧ r.inst = inst)) with | some r => [r] | none => [mk (16 * inst) 0])
    else l.map (fun e => mk e 0)
  else if kind = 5 then
    match s.store.segs.find? (fun x => decide (x.1 = inst ∧ x.2 < 8)) with | some x => [mk x.2 0] | none => [mk 0 0]
  else if kind = 6 then [mk 0 0]
  else [mk inst 0]

/-- RSV_SCHEDULE: schedules, or joins the pending repair; a full list is BUSY. -/
def rsvScheduleRun (c : Cmd) (s : State) : Reply :=
  let rs := scheduleElements s (c.u 0x08 1) (c.u 0x09 1)
  let fresh := rs.filter (fun r => !s.rsv.pend.any (sameElement r))
  if fresh ≠ [] ∧ fresh.all (isExhausted s) then Reply.ends stRESERVE_EXHAUSTED [] (forEach fresh rsvExhausted s)
  else if 32 < s.rsv.pend.length + fresh.length then Reply.fail stBUSY s
  else Reply.accepted (forEach fresh scheduleRepair s)

/-- The row of RSV_SCHEDULE. -/
def rsvScheduleSpec : CmdSpec :=
  { CmdSpec.sync 0x0F02 .only [(0x08, 2)] (fun _ c => decide (c.u 0x08 1 ≤ 6 ∧ c.u 0x09 1 ≤ rsvLastInst (c.u 0x08 1))) rsvScheduleRun with async := true }

/-- RSV_SCHEDULE (R166, R483). -/
def execRsvSchedule (t : Take) (s : State) : Host.Outcome State Fault Refusal := .next (takeState rsvScheduleSpec t s)

end Sys2Proof.Machine
end

