-- ==== Sys2Proof/Machine/RecordRows.lean ====
section
/-! DEFINITION. The rows of the event recorder (18_event_recorder.md): occurrences, writes to the banks, partner records, and the RECORD group (R166). -/

namespace Sys2Proof.Machine

/-! ## Occurrences -/

/-- RECORD_OCCURRENCE (R468, R472). -/
def execRecordOccurrence (source code : Fin 65536) (payload : List Word) (s : State) : Host.Outcome State Fault Refusal :=
  .next (whenRun s (fun s => record s source.val code.val payload))

/-- COALESCE_FLUSH (R472): 1 s after the oldest occurrence not yet written. -/
def execCoalesceFlush (s : State) : Host.Outcome State Fault Refusal := .next (whenRun s flushHeld)

/-! ## Writing a record to the banks (R473 to R475) -/

/-- FAIL bit of a bank. -/
def bankFailFld (b : Nat) : Fld := if b = 0 then REC_STAT_BANK0_FAIL else REC_STAT_BANK1_FAIL

/-- The records of a bank. -/
def bankOf (s : State) (b : Nat) : List (Nat × Record) := if b = 0 then s.rcd.bank0 else s.rcd.bank1

/-- The bad positions of a bank. -/
def badOf (s : State) (b : Nat) : List Nat := if b = 0 then s.rcd.bad0 else s.rcd.bad1

/-- REC_BAD follows the bad positions. -/
def syncBad (s : State) : State := wr (wr s REC_BAD_B0 s.rcd.bad0.length) REC_BAD_B1 s.rcd.bad1.length

/-- A bank fails (R475); the second failure sets the sticky status, and later records go to the partner (R477). -/
def bankFails (b pos : Nat) (s : State) : State :=
  if rdB s (bankFailFld b) then s
  else
    let s := raise (wrB s (bankFailFld b) true) 0x068 0
    let s := if bothFailed s then
        raise { wrB (wrB s REC_STAT_STICKY true) REC_STAT_TO_PARTNER true with park := { s.park with recSticky := true } } 0x068 1
      else s
    record s 0x0201 1 [BitVec.ofNat 32 b, BitVec.ofNat 32 pos]

/-- A good copy is in a bank. -/
def storeCopy (b pos : Nat) (r : Record) (s : State) : State :=
  if b = 0 then { s with rcd := { s.rcd with bank0 := insertK s.rcd.bank0 pos r } } else { s with rcd := { s.rcd with bank1 := insertK s.rcd.bank1 pos r } }

/-- A position is bad in a bank (R474): counted, reported, its sector scheduled; 64 of them fail the bank. -/
def markBad (b pos : Nat) (s : State) : State :=
  let l := badOf s b
  let l := if l.contains pos then l else l ++ [pos]
  let s := syncBad (if b = 0 then { s with rcd := { s.rcd with bad0 := l } } else { s with rcd := { s.rcd with bad1 := l } })
  let s := record (raise s 0x068 2) 0x0201 2 [BitVec.ofNat 32 b, BitVec.ofNat 32 pos]
  let s := scheduleRepair ⟨4, sectorOf b pos / 16, sectorOf b pos, 0, 0x13, true⟩ s
  if 64 ≤ l.length then bankFails b pos s else s

/-- One copy of a record: written, read back, written once more where it differs. -/
def writeCopy (b pos : Nat) (r : Record) (answers first second : Bool) (s : State) : State :=
  if rdB s (bankFailFld b) then s
  else if answers = false then bankFails b pos s
  else if first then storeCopy b pos r s
  else
    let s := inc s (REC_CNT 3)
    if second then storeCopy b pos r s else markBad b pos s

/-- A position was written in some bank. -/
def everWritten (s : State) (pos : Nat) : Bool := (s.rcd.bank0.lookup pos).isSome || (s.rcd.bank1.lookup pos).isSome

/-- A write of this record that replaces an earlier one of the same sequence. -/
def isUpdate (s : State) (pos : Nat) (r : Record) : Bool :=
  let same (o : Option Record) : Bool := match o with | none => false | some x => decide (x.seq = r.seq ∧ x.partner = r.partner)
  same (s.rcd.bank0.lookup pos) || same (s.rcd.bank1.lookup pos)

/-- RECORD_WRITE: the oldest buffered record goes to bank 0 and then to bank 1; where both have failed it goes to the partner. -/
def recordWrite (w : BankWrites) (s : State) : State :=
  match s.rcd.buffer with
  | [] => s
  | (pos, r) :: rest =>
    let s := syncBuf { s with rcd := { s.rcd with buffer := rest } }
    if bothFailed s then (if tUp s then inc (emit s (.overT 0x0477 (recordBytes r))) (REC_CNT 5) else inc s (REC_CNT 4))
    else
      let s := if r.partner then s else if isUpdate s pos r then inc s (REC_CNT 2) else inc s (REC_CNT 0)
      let s := writeCopy 0 pos r w.answers0 w.first0 w.second0 s
      let s := writeCopy 1 pos r w.answers1 w.first1 w.second1 s
      if pos = 16383 ∧ rdB s REC_STAT_CELLAR_FULL = false then record (raise (wrB s REC_STAT_CELLAR_FULL true) 0x068 3) 0x0201 3 [0, 16383] else s

/-- RECORD_WRITE. -/
def execRecordWrite (w : BankWrites) (s : State) : Host.Outcome State Fault Refusal := .next (whenRun s (recordWrite w))

/-! ## Partner records (R477) -/

/-- PARTNER_RECORD_RX: stored in the next position with PARTNER set, or, as an update, over the position of its sequence. -/
def partnerRecord (r : Record) (s : State) : State :=
  if tUp s = false then s
  else if bothFailed s then inc s (REC_CNT 4)
  else
    let s := flushHeld s
    match s.rcd.partnerPos.lookup r.seq.toNat, decide (1 < r.rpt) with
    | some pos, true => pushRecord s pos { r with partner := true, cellar := decide (pos < 16384) }
    | _, _ =>
      if 256 ≤ s.rcd.buffer.length then raise (inc { s with rcd := { s.rcd with lost := s.rcd.lost + 1 } } (REC_CNT 4)) 0x068 4
      else
        let pos := rd s REC_WPOS
        let s := pushRecord s pos { r with partner := true, cellar := decide (pos < 16384) }
        let s := wr { s with rcd := { s.rcd with last := none, partnerPos := insertK s.rcd.partnerPos r.seq.toNat pos } } REC_WPOS (nextPos pos)
        let s := if pos = 196607 then raise (inc { s with rcd := { s.rcd with wrapped := true } } (REC_CNT 7)) 0x068 6 else s
        raise (inc s (REC_CNT 6)) 0x068 5

/-- PARTNER_RECORD_RX. -/
def execPartnerRecordRx (r : Record) (s : State) : Host.Outcome State Fault Refusal := .next (whenRun s (partnerRecord r))

/-! ## The RECORD group (R166, R478) -/

/-- REC_READ: one half of one position of the named bank. A copy that the bank lost reads as free values with its CRC bad, and is rewritten from the
good copy where its position is not bad (R474). -/
def recReadRun (c : Cmd) (s : State) : Reply :=
  let pos := c.u 0x08 4
  let b := c.u 0x0C 1
  if everWritten s pos = false then Reply.fail stBAD_ARG s
  else if rdB s (bankFailFld b) then Reply.okWith (le 4 pos ++ le 1 2 ++ zeros 3 ++ zeros 32) s
  else match (bankOf s b).lookup pos with
  | some r => Reply.okWith (le 4 pos ++ le 1 1 ++ zeros 3 ++ slice (recordBytes r) (32 * c.u 0x0D 1) 32) s
  | none =>
    let res := le 4 pos ++ le 1 0 ++ zeros 3 ++ le 32 (Config.freeNat s.free)
    match (bankOf s (1 - b)).lookup pos with
    | some r => Reply.okWith res (nextFree (if (badOf s b).contains pos then s else storeCopy b pos r s))
    | none => Reply.okWith res (nextFree s)

/-- The row of REC_READ. -/
def recReadSpec : CmdSpec := CmdSpec.sync 0x0E00 .rd [(0x08, 6)] (fun _ c => decide (c.u 0x0C 1 ≤ 1 ∧ c.u 0x0D 1 ≤ 1)) recReadRun

/-- REC_READ (R166, R478). -/
def execRecRead (t : Take) (s : State) : Host.Outcome State Fault Refusal := .next (takeState recReadSpec t s)

/-- The row of REC_EXPORT. -/
def recExportSpec : CmdSpec :=
  { CmdSpec.sync 0x0E01 .only [(0x08, 7)] (fun _ c => decide (1 ≤ c.u 0x0C 2 ∧ c.u 0x0C 2 ≤ 8192 ∧ c.u 0x0E 1 ≤ 31)) (fun _ s => Reply.accepted s) with
    async := true, hostOnly := true, obj := fun _ _ => .recExport, bulk := fun c => some (c.u 0x0E 1) }

/-- REC_EXPORT (R166, R478). -/
def execRecExport (t : Take) (s : State) : Host.Outcome State Fault Refusal := .next (takeState recExportSpec t s)

/-- The copy that an export takes: bank 0's, or bank 1's where bank 0 failed or lost it. -/
def exportCopy (s : State) (pos : Nat) : Option Record :=
  match (if rdB s REC_STAT_BANK0_FAIL then none else s.rcd.bank0.lookup pos) with
  | some r => some r
  | none => if rdB s REC_STAT_BANK1_FAIL then none else s.rcd.bank1.lookup pos

/-- Copies up to n records from a position to an address of BAR2: how many, the next index, the state. It stops at REC_WPOS, except at its start in a
rolling area that has wrapped, and at a position never written. -/
def exportFrom (n pos addr count : Nat) (first : Bool) (s : State) : Nat × Nat × State :=
  match n with
  | 0 => (count, pos, s)
  | n + 1 =>
    if pos = rd s REC_WPOS ∧ ¬ (first = true ∧ everWritten s pos = true) then (count, pos, s)
    else match exportCopy s pos with
    | none => (count, pos, s)
    | some r => exportFrom n (nextPos pos) (addr + 64) (count + 1) false (bar2Write s addr (recordBytes r))

/-- REC_EXPORT_DONE: the copy is complete. -/
def recExportDone (s : State) : State :=
  match findAccepted s 0x0E01 .recExport with
  | none => s
  | some a =>
    let (n, next, s) := exportFrom (a.u 0x0C 2) (a.u 0x08 4) (hqBase (a.u 0x0E 1)) 0 true s
    complete a stOK (le 2 n ++ zeros 2 ++ le 4 next) s

/-- REC_EXPORT_DONE. -/
def execRecExportDone (s : State) : Host.Outcome State Fault Refusal := .next (whenRun s recExportDone)

/-- REC_USER: source 0x0300 for the host, 0x0301 for the manager; a full buffer is BUSY (R469, R473). -/
def recUserRun (c : Cmd) (s : State) : Reply :=
  if bothFailed s = false ∧ 256 ≤ s.rcd.buffer.length then Reply.fail stBUSY s
  else
    let s := flushHeld (oweLost s)
    let source := match c.path with | .host _ => 0x0300 | _ => 0x0301
    let seq := rd s REC_SEQ
    let words := (List.range 8).map (fun i => BitVec.ofNat 32 (c.u (0x0C + 4 * i) 4))
    Reply.okWith (le 4 seq) (newRecord s source (c.u 0x08 2) words true)

/-- The row of REC_USER. -/
def recUserSpec : CmdSpec := CmdSpec.sync 0x0E02 .only [(0x08, 2), (0x0C, 32)] (fun _ c => decide (c.u 0x08 2 ≤ 0x7FFF)) recUserRun

/-- REC_USER (R166, R469). -/
def execRecUser (t : Take) (s : State) : Host.Outcome State Fault Refusal := .next (takeState recUserSpec t s)

/-- REC_STATUS. -/
def recStatusRun (_ : Cmd) (s : State) : Reply :=
  Reply.okWith (le 4 (rd s REC_SEQ) ++ le 4 (min 16384 (rd s REC_WPOS)) ++
    le 1 (rd s REC_STAT_BANK0_FAIL + 2 * rd s REC_STAT_BANK1_FAIL + 4 * rd s REC_STAT_STICKY)) s

/-- The row of REC_STATUS. -/
def recStatusSpec : CmdSpec := CmdSpec.sync 0x0E03 .rd [] (fun _ _ => true) recStatusRun

/-- REC_STATUS (R166). -/
def execRecStatus (t : Take) (s : State) : Host.Outcome State Fault Refusal := .next (takeState recStatusSpec t s)

end Sys2Proof.Machine
end

