-- ==== Sys2Proof/Machine/Forward.lean ====
section
/-! DEFINITION. The forwarding tables, their banks and the FORWARD group (08_forwarding_and_redundancy.md, R201 to R210, R216 to R227, R237). -/

namespace Sys2Proof.Machine

/-! ## Tables (R206) -/

/-- An address is a group address. -/
def macGroup (m : BitVec 48) : Bool := decide (m.toNat / 2 ^ 40 % 2 = 1)

/-- Bucket of an address and VID: the low 11 bits of the CRC-32C of the address followed by the VID (R206). -/
def bucketOf (m : BitVec 48) (vid : BitVec 12) : Nat := crc32c (be 6 m.toNat ++ be 2 vid.toNat) % 2048

/-- Same key. -/
def sameKey (e : FdbEntry) (m : BitVec 48) (vid : BitVec 12) : Bool := decide (e.mac = m ∧ e.vid = vid)

/-- The entry of an address and VID in a bank. -/
def fdbFind (b : Bank) (m : BitVec 48) (vid : BitVec 12) : Option FdbEntry :=
  if macGroup m then b.multi.find? (fun e => sameKey e m vid) else b.uni.find? (fun e => sameKey e m vid)

/-- Entries of one bucket. -/
def bucketEntries (b : Bank) (m : BitVec 48) (vid : BitVec 12) : List FdbEntry := b.uni.filter (fun e => decide (bucketOf e.mac e.vid = bucketOf m vid))

/-- There is room for a new entry: a bucket holds eight, the multicast table 4,096. -/
def fdbRoom (b : Bank) (m : BitVec 48) (vid : BitVec 12) : Bool :=
  (fdbFind b m vid).isSome || (if macGroup m then decide (b.multi.length < 4096) else decide ((bucketEntries b m vid).length < 8))

/-- A bank without the entry of a key. -/
def fdbErase (b : Bank) (m : BitVec 48) (vid : BitVec 12) : Bank :=
  if macGroup m then { b with multi := b.multi.filter (fun e => !sameKey e m vid) } else { b with uni := b.uni.filter (fun e => !sameKey e m vid) }

/-- A bank with an entry written over any entry of the same key. -/
def fdbPut (b : Bank) (e : FdbEntry) : Bank :=
  let b := fdbErase b e.mac e.vid
  if macGroup e.mac then { b with multi := b.multi ++ [e] } else { b with uni := b.uni ++ [e] }

/-- Member ports of a VID; after reset VID 1 has ports 0 to 13 (R206). -/
def vlanDefault (vid : Nat) : Nat := if vid = 1 then 0x3FFF else 0

/-- Member set of a VID in a bank. -/
def vlanMask (b : Bank) (vid : Nat) : Nat := lookupD b.vlan vid (vlanDefault vid)

/-- A bank with a member set written. -/
def vlanPut (b : Bank) (vid mask : Nat) : Bank := { b with vlan := putD b.vlan vid mask (vlanDefault vid), vlanTrain := b.vlanTrain.filter (· ≠ vid) }

/-- FDB_USE follows bank 0. -/
def syncUse (s : State) : State := wr (wr s FDB_USE_UNI s.fwd.bank0.uni.length) FDB_USE_MULTI s.fwd.bank0.multi.length

/-- FRER_STAT.VALID follows bank 0. -/
def syncStreams (s : State) : State := wr s FRER_STAT_VALID (s.fwd.bank0.streams.filter (fun x => x.2.valid)).length

/-- Changes bank 0. -/
def onBank0 (f : Bank → Bank) (s : State) : State := { s with fwd := { s.fwd with bank0 := f s.fwd.bank0 } }
/-- Changes bank 1. -/
def onBank1 (f : Bank → Bank) (s : State) : State := { s with fwd := { s.fwd with bank1 := f s.fwd.bank1 } }

/-! ## Bank writes (R209, R210) -/

/-- The entry that FDB_SET spells; flags: [0] express class, [1] static. -/
def fdbEntryOf (now : Nat) (m : BitVec 48) (vid : BitVec 12) (mask : BitVec 16) (queue flags : Nat) : FdbEntry :=
  ⟨m, vid, mask, queue, bit flags 0, bit flags 1, !bit flags 1, false, false, now⟩

/-- FDB_SET on one bank: the all-zeros address writes the VLAN entry; flag bit 2 deletes (R206). -/
def fdbApply (now : Nat) (m : BitVec 48) (vid : BitVec 12) (mask : BitVec 16) (queue flags : Nat) (b : Bank) : Bank :=
  if m = 0 then vlanPut b vid.toNat (if bit flags 2 then 0 else mask.toNat)
  else if bit flags 2 then fdbErase b m vid
  else fdbPut b (fdbEntryOf now m vid mask queue flags)

/-- Replaces the value of a key in an association list, keys rising. -/
def setKey {α : Type} (l : List (Nat × α)) (k : Nat) (v : α) : List (Nat × α) := insertK l k v

/-- What FWD_BANK_COPY copies: bit 0 forwarding database, 1 separator, 2 streams (R155). -/
def copyTables (what : Nat) (src dst : Bank) : Bank :=
  let d := if bit what 0 then { dst with uni := src.uni, multi := src.multi, vlan := src.vlan, vlanTrain := src.vlanTrain } else dst
  let d := if bit what 1 then { d with rules := src.rules } else d
  if bit what 2 then { d with streams := src.streams } else d

/-- A waiting write applied to bank 1 after the copy of R210; the acceptance of a curd is applied by the churn. -/
def applyBankWrite (w : BankWrite) (s : State) : State :=
  match w with
  | .fdb m vid mask q fl => onBank1 (fdbApply (nowNs s) m vid mask q fl) s
  | .rule n r => onBank1 (fun b => { b with rules := setKey b.rules n r }) s
  | .stream n r => onBank1 (fun b => { b with streams := setKey b.streams n r }) s
  | .copy what => onBank1 (copyTables what s.fwd.bank0) s
  | .accept => s

/-- Bank 1 is being copied (R210). -/
def copying (s : State) : Bool := rdB s FWD_STAT_COPYING

/-- A write to bank 1, after the copy where one runs (R210). -/
def bank1Write (w : BankWrite) (s : State) : State :=
  if copying s then { s with fwd := { s.fwd with after := s.fwd.after ++ [w] } } else applyBankWrite w s

/-- The exchange of the banks at a commit; the copy of the new bank 0 begins (R210). -/
def bankSwap (s : State) : State :=
  let s := { s with fwd := { s.fwd with bank0 := s.fwd.bank1, bank1 := s.fwd.bank0, prevAmap := s.fwd.bank0.amap } }
  raise (syncStreams (syncUse (wrB (inc s FWD_STAT_SWAPS) FWD_STAT_COPYING true))) 0x020 3

/-! ## FORWARD group (R155) -/

/-- FDB_SET. -/
def fdbSetRun (c : Cmd) (s : State) : Reply :=
  let m := BitVec.ofNat 48 (beAt c.desc 0x08 6)
  let vid := BitVec.ofNat 12 (c.u 0x0E 2)
  let mask := BitVec.ofNat 16 (c.u 0x10 2)
  let fl := c.u 0x13 1
  let grows := decide (m ≠ 0) && !bit fl 2
  if grows && (!fdbRoom s.fwd.bank1 m vid || (decide (c.u 0x14 1 = 0) && !fdbRoom s.fwd.bank0 m vid)) then Reply.fail stNO_RESOURCE s
  else
    let s := if c.u 0x14 1 = 0 then onBank0 (fdbApply (nowNs s) m vid mask (c.u 0x12 1) fl) s else s
    let s := syncUse (bank1Write (.fdb m vid mask (c.u 0x12 1) fl) s)
    Reply.okWith (le 2 s.fwd.bank0.uni.length ++ le 2 s.fwd.bank0.multi.length) s

/-- The row of FDB_SET. -/
def fdbSetSpec : CmdSpec := CmdSpec.sync 0x0400 .shared [(0x08, 13)]
  (fun _ c => decide (c.u 0x0E 2 ≤ 4095) && decide (c.u 0x12 1 ≤ 31) && decide (c.u 0x13 1 < 8) && decide (c.u 0x14 1 ≤ 1)) fdbSetRun

/-- FDB_SET (R155, R206, R209). -/
def execFdbSet (t : Take) (s : State) : Host.Outcome State Fault Refusal := .next (takeState fdbSetSpec t s)

/-- A separator rule from its 40 bytes (R203). -/
def parseRule (d : List Byte) : SepRule :=
  let b0 := leAt d 0 1
  ⟨bit b0 0, bit b0 1, bit b0 2, bit b0 3, bit b0 4, leAt d 1 1, leAt d 2 2, leAt d 4 2, leAt d 6 2, leAt d 8 2, leAt d 0xA 2, leAt d 0xC 2,
   leAt d 0xE 1, leAt d 0xF 1, leAt d 0x10 1, bit (leAt d 0x11 1) 0, bit (leAt d 0x11 1) 1, leAt d 0x12 2⟩

/-- Largest TARGET of each action (R203); no target is checked for drop. -/
def targetMax (action : Nat) : Nat :=
  match action with | 0 => 7 | 1 => 31 | 2 => 3 | 3 => 15 | 4 => 14 | _ => 255

/-- A rule's bytes are in range (R203). -/
def ruleOk (d : List Byte) : Bool :=
  decide (leAt d 0 1 < 32) && decide (leAt d 2 2 < 2 ^ 15) && decide (leAt d 4 2 < 4096) && decide (leAt d 0xE 1 ≤ 2) && decide (leAt d 0xF 1 ≤ 5) &&
  decide (leAt d 0x10 1 ≤ targetMax (leAt d 0xF 1)) && decide (leAt d 0x11 1 < 4) &&
  decide (leAt d 0x12 2 ≤ 2047 ∨ leAt d 0x12 2 = 0xFFFF ∨ leAt d 0xF 1 ≠ 3) && decide (leAt d 0x14 20 = 0)

/-- SEP_RULE_SET: a rule of bank 0 also clears its hit count (R236). -/
def sepRuleSetRun (c : Cmd) (s : State) : Reply :=
  let n := c.u 0x08 1
  let r := parseRule (slice c.desc 0x0C 40)
  let s := if c.u 0x09 1 = 0 then wr (onBank0 (fun b => { b with rules := setKey b.rules n r }) s) (SEP_HIT n) 0 else s
  Reply.ok (bank1Write (.rule n r) s)

/-- The row of SEP_RULE_SET. -/
def sepRuleSetSpec : CmdSpec := CmdSpec.sync 0x0401 .shared [(0x08, 2), (0x0C, 40)]
  (fun _ c => decide (c.u 0x09 1 ≤ 1) && ruleOk (slice c.desc 0x0C 40)) sepRuleSetRun

/-- SEP_RULE_SET (R155, R203, R209). -/
def execSepRuleSet (t : Take) (s : State) : Host.Outcome State Fault Refusal := .next (takeState sepRuleSetSpec t s)

/-- A stream entry from its 48 bytes (R216); history length 0 acts as 1. -/
def parseStream (d : List Byte) : Stream :=
  let b0 := leAt d 0 1
  let h := leAt d 0xE 1
  let k := leAt d 0xF 1
  ⟨bit b0 0, bit b0 2, bit b0 3, bit b0 4, bit b0 5, bit b0 6, bit b0 7, leAt d 2 2, BitVec.ofNat 48 (beAt d 4 6), BitVec.ofNat 12 (leAt d 0xA 2),
   leAt d 0xC 2, max 1 (h % 32), bit h 5, bit h 6, k % 8, bit k 3, k / 16 % 8, bit k 7, leAt d 0x10 4, leAt d 0x14 4, leAt d 0x18 4, leAt d 0x1C 4,
   max 1 (leAt d 0x20 2), leAt d 0x22 2, (if leAt d 0x24 2 = 0 then 1000 else leAt d 0x24 2), leAt d 0x26 2⟩

/-- A stream entry's bytes are in range (R216). -/
def streamOk (d : List Byte) : Bool :=
  !bit (leAt d 0 1) 1 && decide (leAt d 1 1 = 0) && decide (leAt d 0xA 2 < 4096) && !bit (leAt d 0xE 1) 7 && decide (leAt d 0x26 2 < 4096) &&
  decide (leAt d 0x28 8 = 0)

/-- The run-time state that STREAM_SET gives an entry: sequence 0, history cleared, buckets full (in millionths of a bit), counters 0 (R218, R225, R237). -/
def streamFresh (r : Stream) (now : Nat) : StreamRun :=
  ⟨0, none, 0, true, 0, r.cbs * 8 * 1000000, r.ebs * 8 * 1000000, now, []⟩

/-- Another valid entry of the bank has the key of entry n (R217). -/
def streamDup (b : Bank) (n : Nat) (r : Stream) : Bool :=
  r.valid && b.streams.any (fun x => decide (x.1 ≠ n) && x.2.valid && decide (x.2.mac = r.mac ∧ x.2.vid = r.vid))

/-- STREAM_SET. An entry written to bank 0 starts afresh; one written to bank 1 only leaves the run in force alone (log entry 15). -/
def streamSetRun (c : Cmd) (s : State) : Reply :=
  let n := c.u 0x08 2
  let r := parseStream (slice c.desc 0x0C 48)
  let dup := streamDup (if c.u 0x0A 1 = 0 then s.fwd.bank0 else s.fwd.bank1) n r
  let s := if c.u 0x0A 1 = 0 then
      syncStreams { onBank0 (fun b => { b with streams := setKey b.streams n r }) s with
        fwd := { (onBank0 (fun b => { b with streams := setKey b.streams n r }) s).fwd with run := setKey s.fwd.run n (streamFresh r (nowNs s)) } }
    else s
  Reply.ok (raiseIf dup 0x024 6 (bank1Write (.stream n r) s))

/-- The row of STREAM_SET. -/
def streamSetSpec : CmdSpec := CmdSpec.sync 0x0402 .shared [(0x08, 3), (0x0C, 48)]
  (fun _ c => decide (c.u 0x08 2 ≤ 2047) && decide (c.u 0x0A 1 ≤ 1) && streamOk (slice c.desc 0x0C 48)) streamSetRun

/-- STREAM_SET (R155, R209, R216). -/
def execStreamSet (t : Take) (s : State) : Host.Outcome State Fault Refusal := .next (takeState streamSetSpec t s)

/-- The entries of a staged gate list (R222): interval, states, operation. -/
def parseGates (d : List Byte) (n : Nat) : List (Nat × Nat × Nat) :=
  (List.range n).map (fun i => (leAt d (8 * i) 4, leAt d (8 * i + 4) 1, leAt d (8 * i + 5) 1))

/-- The list and its cycle time are in range (R222). -/
def gatesOk (l : List (Nat × Nat × Nat)) (d : List Byte) (cycle : Nat) : Bool :=
  l.all (fun e => decide (32 ≤ e.1 ∧ e.1 ≤ 1000000000 ∧ e.2.2 ≤ 2)) && decide (1000 ≤ cycle ∧ cycle ≤ 1000000000) &&
  (List.range l.length).all (fun i => decide (leAt d (8 * i + 6) 2 = 0))

/-- A base time in the past is advanced by whole cycles to the first instant at least 2 µs after the taking (R223). -/
def advanceBase (base cycle now : Nat) : Nat :=
  if now ≤ base then base else base + ((now + 2000 - base + cycle - 1) / cycle) * cycle

/-- GCL_LOAD: the list waits for its instant; a refused one raises CONFIG_ERR (R222, R223). -/
def gclLoadRun (c : Cmd) (s : State) : Reply :=
  let p := c.u 0x08 1
  let d := bar2Read s (hqBase (c.u 0x09 1)) (8 * c.u 0x0A 2)
  let l := parseGates d (c.u 0x0A 2)
  let cycle := c.u 0x18 4
  if gatesOk l d cycle then
    let g : GateList := ⟨l, advanceBase (c.u 0x10 8) cycle (nowNs s), cycle, c.u 0x1C 4⟩
    Reply.accepted (wrB { s with fwd := { s.fwd with gateWait := setKey s.fwd.gateWait p g } } (GATE_PSTAT_WAITING p) true)
  else Reply.fail stBAD_ARG (raise s 0x023 14)

/-- The row of GCL_LOAD. -/
def gclLoadSpec : CmdSpec where
  opcode := 0x0403
  async := true
  kind := .shared
  hostOnly := true
  used := fun _ => [(0x08, 4), (0x10, 16)]
  argOk := fun _ c => decide (c.u 0x08 1 ≤ 13) && decide (c.u 0x09 1 ≤ 31) && decide (1 ≤ c.u 0x0A 2 ∧ c.u 0x0A 2 ≤ 256)
  pages := fun _ _ => []
  obj := fun _ c => .port (c.u 0x08 1)
  bulk := fun c => some (c.u 0x09 1)
  input := fun c => some (8 * c.u 0x0A 2, c.u 0x1C 4)
  run := gclLoadRun

/-- GCL_LOAD (R155, R222). -/
def execGclLoad (t : Take) (s : State) : Host.Outcome State Fault Refusal := .next (takeState gclLoadSpec t s)

/-- Puts an entry of the list of a port in force: its states, and the time it began. -/
def gateEntry (p k : Nat) (g : GateList) (s : State) : State :=
  let e := (g.entries[k]?).getD (0, 0xFF, 0)
  let s := settleCredits p s
  let s := wr (wr s (GATE_PSTAT_ENTRY p) k) (GATE_PSTAT_STATES p) e.2.1
  drainPort p { s with fwd := { s.fwd with gateAt := setKey s.fwd.gateAt p (nowNs s) } }

/-- GCL_TAKES_FORCE (R223): the waiting list replaces the old one at its first entry, LIST_p raises, GCL_LOAD completes. -/
def gclTakesForce (p : Nat) (s : State) : State :=
  match s.fwd.gateWait.lookup p with
  | none => s
  | some g =>
    let s := { s with fwd := { s.fwd with gateWait := eraseK s.fwd.gateWait p, gates := setKey s.fwd.gates p g } }
    let s := wrB (wrB (wr s (GATE_PSTAT_ENTRIES p) g.entries.length) (GATE_PSTAT_WAITING p) false) (GATE_PSTAT_ON p) true
    let s := wr (wr s (GATE_PCRC p) g.crc) (GATE_CYCLE p) g.cycle
    let s := raise (gateEntry p 0 g s) 0x023 p
    completeObj 0x0403 (.port p) stOK (le 8 g.base) s

/-- GCL_TAKES_FORCE on a port. -/
def execGclTakesForce (p : Port) (s : State) : Host.Outcome State Fault Refusal := .next (whenRun s (gclTakesForce p.val))

/-- Entries of a list that begin before the cycle ends: the list is cut there (R223). -/
def gateCount (l : List (Nat × Nat × Nat)) (cycle acc : Nat) : Nat :=
  match l with
  | [] => 0
  | e :: t => if acc < cycle then 1 + gateCount t cycle (acc + e.1) else 0

/-- GATE_CHANGE (R223): the next entry of the list in force, the first one after the last. -/
def gateChange (p : Nat) (s : State) : State :=
  match s.fwd.gates.lookup p with
  | none => s
  | some g =>
    let k := rd s (GATE_PSTAT_ENTRY p) + 1
    gateEntry p (if k < gateCount g.entries g.cycle 0 then k else 0) g s

/-- GATE_CHANGE on a port. -/
def execGateChange (p : Port) (s : State) : Host.Outcome State Fault Refusal := .next (whenRun s (gateChange p.val))

/-- FWD_BANK_COPY: refused while a churn is past its Agree phase, that is PENDING (R155). -/
def fwdBankCopyRun (c : Cmd) (s : State) : Reply :=
  if rd s CHURN_STAT_PHASE = 4 then Reply.fail stWRONG_STATE s else Reply.ok (bank1Write (.copy (c.u 0x08 1)) s)

/-- The row of FWD_BANK_COPY. -/
def fwdBankCopySpec : CmdSpec := CmdSpec.sync 0x0404 .shared [(0x08, 1)] (fun _ c => decide (c.u 0x08 1 < 8)) fwdBankCopyRun

/-- FWD_BANK_COPY (R155, R209). -/
def execFwdBankCopy (t : Take) (s : State) : Host.Outcome State Fault Refusal := .next (takeState fwdBankCopySpec t s)

/-! ## Ageing, MACsec, recovery -/

/-- FDB_AGE_EXPIRY (R208): a learned entry without a frame for AGE seconds is removed; AGE 0 ages nothing. -/
def fdbAge (m : BitVec 48) (vid : BitVec 12) (s : State) : State :=
  match s.fwd.bank0.uni.find? (fun e => sameKey e m vid) with
  | none => s
  | some e =>
    if e.learned ∧ e.static = false ∧ rd s FDB_CTL_AGE ≠ 0 then syncUse (onBank1 (fun b => fdbErase b m vid) (onBank0 (fun b => fdbErase b m vid) s)) else s

/-- FDB_AGE_EXPIRY. -/
def execFdbAgeExpiry (mac : BitVec 48) (vid : BitVec 12) (s : State) : Host.Outcome State Fault Refusal := .next (whenRun s (fdbAge mac vid))

/-- MACSEC_OLD_AN_EXPIRY (R230): frames under the previous association number are no longer accepted. -/
def macsecOldExpiry (p : Nat) (s : State) : State :=
  if rdB s (FWD_SECSTAT_OLD_RX p) then
    let an := rd s (FWD_SECSTAT_TX_AN p)
    let keys := (s.fwd.secPort.lookup p).getD []
    wrB { s with fwd := { s.fwd with secPort := setKey s.fwd.secPort p (keys.filter (fun k => decide (k.1 = an ∨ k.1 = 3))) } } (FWD_SECSTAT_OLD_RX p) false
  else s

/-- MACSEC_OLD_AN_EXPIRY on a backbone port. -/
def execMacsecOldAnExpiry (p : Fin 2) (s : State) : Host.Outcome State Fault Refusal := .next (whenRun s (macsecOldExpiry p.val))

/-- The stream entry in force at a handle. -/
def streamAt (s : State) (h : Nat) : Option Stream := (s.fwd.bank0.streams.lookup h).filter (fun r => r.valid)

/-- The run-time state of a handle. -/
def streamRun (s : State) (h : Nat) : StreamRun := (s.fwd.run.lookup h).getD ⟨0, none, 0, true, 0, 0, 0, 0, []⟩

/-- Sets the run-time state of a handle. -/
def setStreamRun (h : Nat) (r : StreamRun) (s : State) : State := { s with fwd := { s.fwd with run := setKey s.fwd.run h r } }

/-- Advances counter k of a stream's run by n, wrapping at 2^32 (R237). -/
def runCount (r : StreamRun) (k n : Nat) : StreamRun := { r with cnt := putD r.cnt k ((lookupD r.cnt k 0 + n) % 2 ^ 32) 0 }

/-- RECOVERY_RESET (R226, R227): the history is cleared and the next frame passes; the latent difference returns to 0. -/
def recoveryReset (h : Nat) (s : State) : State :=
  match streamAt s h with
  | none => s
  | some r =>
    if r.seqRcvy then
      raise (setStreamRun h (runCount { streamRun s h with top := none, hist := 0, take := true, diff := 0 } 6 1) s) 0x024 2
    else s

/-- RECOVERY_RESET of a stream. -/
def execRecoveryReset (h : Fin 2048) (s : State) : Host.Outcome State Fault Refusal := .next (whenRun s (recoveryReset h.val))

/-- LATENT_TEST_END (R227): a difference above the threshold raises LATENT_ERR; the difference returns to 0. -/
def latentTestEnd (h : Nat) (s : State) : State :=
  match streamAt s h with
  | none => s
  | some r =>
    if r.latentEn then
      let u := streamRun s h
      if (r.latentThr : Int) < u.diff then
        raise (wr (setStreamRun h (runCount { u with diff := 0 } 7 1) s) FRER_STAT_LAST h) 0x024 0
      else setStreamRun h { u with diff := 0 } s
    else s

/-- LATENT_TEST_END of a stream. -/
def execLatentTestEnd (h : Fin 2048) (s : State) : Host.Outcome State Fault Refusal := .next (whenRun s (latentTestEnd h.val))

/-- A write of FRER_SEL samples the thirteen counters of the stream (R237). -/
def frerSelect (v : Nat) (s : State) : State :=
  let h := v % 2048
  let u := streamRun s h
  forEach (List.range 13) (fun k t => wr t (FRER_CNT k) (lookupD u.cnt k 0)) (wr s FRER_SEL h)

/-! ## Host queue indices (R234, R236) -/

/-- A write of FWD_HQHEAD: the descriptors passed are released; the pending bit follows. -/
def hqHeadWrite (q v : Nat) (s : State) : State :=
  let d := (v + 512 - rd s (FWD_HQHEAD q)) % 512
  let used := rd s (NODE_HQ_USED q)
  let s := wr (wr s (FWD_HQHEAD q) v) (NODE_HQ_USED q) (used - d)
  wrBit s FWD_HQPEND q (decide (d < used))

/-- A write of FWD_HTTAIL: one that moves the tail backwards over untaken descriptors is ignored. -/
def htTailWrite (t v : Nat) (s : State) : State :=
  let head := rd s (FWD_HTHEAD t)
  if (rd s (FWD_HTTAIL t) + 256 - head) % 256 ≤ (v % 256 + 256 - head) % 256 then wr s (FWD_HTTAIL t) v else s

end Sys2Proof.Machine
end

