-- ==== Sys2Proof/Machine/Ports.lean ====
section
/-! DEFINITION. Frame ports: the PORT group, link state, PHY polls, preemption verification, flow control (07_frame_ports.md). The effects
that also start a churn end in Links.lean. -/

namespace Sys2Proof.Machine

/-- Page of a port. -/
def portPage (p : Nat) : Nat := 0x010 + p

/-- PORT_MODE.MODE of R172 is available on a port. -/
def modeOk (p m : Nat) : Bool :=
  if p < 2 then decide (m = 0 ∨ m = 4 ∨ m = 5 ∨ m = 6) else if p < 14 then decide (m ≤ 4) else decide (m = 0x10)

/-- Auto-negotiation runs in the mode and setting taken at the last start (R173). -/
def anRuns (s : State) (p : Nat) : Bool :=
  let q := portSt s p
  q.anEn && decide (q.modeUsed = 1 ∨ q.modeUsed = 2 ∨ q.modeUsed = 4)

/-- Speed code of a port that comes up (R172, R173, R197): fixed by the mode; taken from auto-negotiation in SGMII and USXGMII on a consist port;
without auto-negotiation 1 Gb/s and the mode's highest rate. -/
def speedOf (s : State) (p an : Nat) : Nat :=
  let q := portSt s p
  match q.modeUsed with
  | 1 => if q.anEn then an else 3
  | 2 => 3
  | 3 => 4
  | 4 => if p < 2 then 5 else if q.anEn then an else 4
  | 5 => 5
  | 6 => 5
  | _ => 6

/-- A port can be link up: its block is ON in a mode that powers the lane (R172, R175). T always runs. -/
def portRuns (s : State) (p : Nat) : Bool := decide (p = 14) || (pageOn s (portPage p) && decide ((portSt s p).modeUsed ≠ 0))

/-- The fields that a start takes (R174). -/
def portStart (p : Nat) (s : State) : State :=
  setPort s p { portSt s p with modeUsed := rd s (PORT_MODE_MODE p), anEn := rdB s (PORT_MODE_AN_EN p) }

/-! ## Flow control received (R193, R194) -/

/-- Sends a control frame of the node's own: it is never held by a pause and counts in TX_FC (R194, R195). -/
def sendControl (p : Nat) (bytes : List Byte) (s : State) : State := if linkUp s p then transmitUncontrolled p bytes (cnt s p 21) else s

/-- Any PFC enable bit of the port is 1 (R193). -/
def pfcEnabled (s : State) (p : Nat) : Bool := decide (rd s (PORT_FC_PFC_TX_EN p) ≠ 0 ∨ rd s (PORT_FC_PFC_RX_EN p) ≠ 0)

/-- The port acts on PAUSE (R193). -/
def pauseEnabled (s : State) (p : Nat) : Bool := decide (2 ≤ p ∧ p < 14) && rdB s (PORT_FC_RX_PAUSE_EN p) && !pfcEnabled s p

/-- The port acts on PFC for some priority (R193). -/
def pfcRxEnabled (s : State) (p : Nat) : Bool := decide (2 ≤ p ∧ p < 14) && decide (rd s (PORT_FC_PFC_RX_EN p) ≠ 0)

/-- TX_PAUSED_NS counts the time since the transmitter was held, when the last hold ends (R194, R199). -/
def endHold (p : Nat) (s : State) : State :=
  if !rdB s (PORT_STATUS_PAUSED p) && decide (rd s (PORT_STATUS_PFC_PAUSED p) = 0) then cntBy s p 27 (nowNs s - (portSt s p).pausedAt) else s

/-- A hold begins: the time is kept where none was in force. -/
def beginHold (p : Nat) (s : State) : State :=
  if rdB s (PORT_STATUS_PAUSED p) || decide (rd s (PORT_STATUS_PFC_PAUSED p) ≠ 0) then s else setPort s p { portSt s p with pausedAt := nowNs s }

/-- Sets or clears the hold of PAUSE. -/
def setPaused (p : Nat) (v : Bool) (s : State) : State :=
  if v then wrB (beginHold p s) (PORT_STATUS_PAUSED p) true
  else if rdB s (PORT_STATUS_PAUSED p) then drainPort p (endHold p (wrB s (PORT_STATUS_PAUSED p) false)) else s

/-- Sets or clears the hold of one priority. -/
def setPfcPaused (p q : Nat) (v : Bool) (s : State) : State :=
  if v then
    let s := wrBit (beginHold p s) (PORT_STATUS_PFC_PAUSED p) q true
    setPort s p { portSt s p with pausedPrio := BitVec.ofNat 8 (rd s (PORT_STATUS_PFC_PAUSED p)) }
  else if bit (rd s (PORT_STATUS_PFC_PAUSED p)) q then
    let s := wrBit s (PORT_STATUS_PFC_PAUSED p) q false
    drainPort p (endHold p (setPort s p { portSt s p with pausedPrio := BitVec.ofNat 8 (rd s (PORT_STATUS_PFC_PAUSED p)) }))
  else s

/-- A MAC control frame without effect (R193): dropped and counted. -/
def macControlDrop (p : Nat) (s : State) : State := cnt s p 13

/-- PAUSE_RX (R194): a nonzero time holds the transmitter and raises PAUSED; zero cancels the hold at once. -/
def pauseRx (p quanta : Nat) (s : State) : State :=
  if pauseEnabled s p then
    let s := cnt s p 11
    if quanta = 0 then setPaused p false s else raise (setPaused p true s) (portPage p) 3
  else macControlDrop p s

/-- PAUSE_RX on a port that is link up. -/
def execPauseRx (p : Port) (quanta : Fin 65536) (s : State) : Host.Outcome State Fault Refusal :=
  .next (whenRun s (onlyIf (linkUp s p.val) (pauseRx p.val quanta.val)))

/-- PFC_RX (R194): each priority whose vector bit is set and that PFC_RX_EN honours. -/
def pfcRx (p vector quanta : Nat) (s : State) : State :=
  if pfcRxEnabled s p then
    let en := vector &&& rd s (PORT_FC_PFC_RX_EN p)
    let s := forEach (List.range 8) (fun q t => if bit en q then setPfcPaused p q (decide (quanta ≠ 0)) t else t) (cnt s p 12)
    raiseIf (decide (en ≠ 0 ∧ quanta ≠ 0)) (portPage p) 3 s
  else macControlDrop p s

/-- PFC_RX on a port that is link up. -/
def execPfcRx (p : Port) (vector : BitVec 8) (quanta : Fin 65536) (s : State) : Host.Outcome State Fault Refusal :=
  .next (whenRun s (onlyIf (linkUp s p.val) (pfcRx p.val vector.toNat quanta.val)))

/-- PAUSE_TIMER_EXPIRY (R194): the hold of PAUSE, or of one priority, ends and waiting frames start. -/
def pauseExpiry (p : Nat) (prio : Option (Fin 8)) (s : State) : State :=
  match prio with
  | none => setPaused p false s
  | some q => setPfcPaused p q.val false s

/-- PAUSE_TIMER_EXPIRY on a port. -/
def execPauseTimerExpiry (p : Port) (prio : Option (Fin 8)) (s : State) : Host.Outcome State Fault Refusal := .next (whenRun s (pauseExpiry p.val prio))

/-! ## Flow control sent (R195) -/

/-- The cells that frames received on a port hold; of one priority where given. -/
def occupancy (s : State) (p : Nat) (prio : Option (Fin 8)) : Nat :=
  cellsHeld (s.fwd.egress.filter (fun q => decide (q.ingress = p) && match prio with | none => true | some r => decide (q.prio = r.val)))

/-- The port sends this kind of flow control: PAUSE without PFC, or PFC for the priority; never while XON ≥ XOFF, and only on C ports. -/
def fcSends (s : State) (p : Nat) (prio : Option (Fin 8)) : Bool :=
  decide (2 ≤ p ∧ p < 14) && decide (rd s (PORT_FC_THR_XON p) < rd s (PORT_FC_THR_XOFF p)) &&
  match prio with
  | none => rdB s (PORT_FC_TX_PAUSE_EN p) && !pfcEnabled s p
  | some q => bit (rd s (PORT_FC_PFC_TX_EN p)) q.val

/-- A PAUSE frame (opcode 0x0001) or a PFC frame (opcode 0x0101) with a time, from the node's individual address. -/
def controlFrame (prio : Option (Fin 8)) (time : Nat) : List Byte :=
  macBytes 0x0180C2000001 ++ macBytes nodeMac ++ be 2 0x8808 ++
  match prio with
  | none => be 2 0x0001 ++ be 2 time
  | some q => be 2 0x0101 ++ be 2 (2 ^ q.val) ++ (List.range 8).flatMap (fun i => be 2 (if i = q.val then time else 0))

/-- XOFF was sent and not taken back. -/
def xoffSent (s : State) (p : Nat) (prio : Option (Fin 8)) : Bool :=
  match prio with | none => (portSt s p).xoff | some q => bit (portSt s p).xoffPrio.toNat q.val

/-- Notes whether XOFF stands. -/
def setXoff (p : Nat) (prio : Option (Fin 8)) (v : Bool) (s : State) : State :=
  let st := portSt s p
  match prio with
  | none => setPort s p { st with xoff := v }
  | some q => setPort s p { st with xoffPrio := BitVec.ofNat 8 (if v then setBit st.xoffPrio.toNat q.val else clrBit st.xoffPrio.toNat q.val) }

/-- FLOW_CONTROL_XOFF (R195): occupancy above XOFF sends a pause with PORT_FC_TIME and raises the XOFF event. -/
def fcXoff (p : Nat) (prio : Option (Fin 8)) (s : State) : State :=
  if fcSends s p prio && decide (rd s (PORT_FC_THR_XOFF p) < occupancy s p prio) && !xoffSent s p prio then
    raiseIf (decide (rd s (PORT_FC_TIME p) ≠ 0)) (portPage p) 7 (setXoff p prio true (sendControl p (controlFrame prio (rd s (PORT_FC_TIME p))) s))
  else s

/-- FLOW_CONTROL_XOFF. -/
def execFlowControlXoff (p : Port) (prio : Option (Fin 8)) (s : State) : Host.Outcome State Fault Refusal := .next (whenRun s (fcXoff p.val prio))

/-- FLOW_CONTROL_REFRESH (R195): while occupancy stays at or above XON the pause is sent again. -/
def fcRefresh (p : Nat) (prio : Option (Fin 8)) (s : State) : State :=
  if fcSends s p prio && xoffSent s p prio && decide (rd s (PORT_FC_THR_XON p) ≤ occupancy s p prio) then
    raiseIf (decide (rd s (PORT_FC_TIME p) ≠ 0)) (portPage p) 7 (sendControl p (controlFrame prio (rd s (PORT_FC_TIME p))) s)
  else s

/-- FLOW_CONTROL_REFRESH. -/
def execFlowControlRefresh (p : Port) (prio : Option (Fin 8)) (s : State) : Host.Outcome State Fault Refusal := .next (whenRun s (fcRefresh p.val prio))

/-- FLOW_CONTROL_XON (R195): occupancy below XON sends a pause with time zero. -/
def fcXon (p : Nat) (prio : Option (Fin 8)) (s : State) : State :=
  if fcSends s p prio && xoffSent s p prio && decide (occupancy s p prio < rd s (PORT_FC_THR_XON p)) then
    setXoff p prio false (sendControl p (controlFrame prio 0) s)
  else s

/-- FLOW_CONTROL_XON. -/
def execFlowControlXon (p : Port) (prio : Option (Fin 8)) (s : State) : Host.Outcome State Fault Refusal := .next (whenRun s (fcXon p.val prio))

/-! ## Preemption (R190) -/

/-- PREEMPT_ACTIVE and VERIFY_STATUS of a state of verification: 0 disabled, 1 initial, 2 verifying, 3 succeeded, 4 failed, 5 active without
verification (R190, R197). -/
def setVerify (p v : Nat) (s : State) : State :=
  wrB (wr s (PORT_PREEMPT_VERIFY_STATUS p) v) (PORT_STATUS_PREEMPT_ACTIVE p) (decide (v = 3 ∨ v = 5))

/-- An mPacket of verification leaves on a port: verify or respond. -/
def sendMpacket (p : Nat) (respond : Bool) (s : State) : State := emit s (.mpacket p respond)

/-- Verification starts, at link up and at a write of EN from 0 to 1 (R190). -/
def verifyStart (p : Nat) (s : State) : State :=
  if p = 14 then s
  else if !rdB s (PORT_PREEMPT_EN p) then setVerify p 0 s
  else if rdB s (PORT_PREEMPT_VERIFY_DIS p) then setVerify p 5 s
  else if linkUp s p then sendMpacket p false (setPort (setVerify p 2 s) p { portSt s p with tries := 1 })
  else setVerify p 1 s

/-- VERIFY_MPACKET_RX (R190): a verify mPacket is always answered; a respond mPacket ends a verification in success. -/
def verifyRx (p : Nat) (respond : Bool) (s : State) : State :=
  if p = 14 ∨ portRuns s p = false then s
  else if respond then
    if rd s (PORT_PREEMPT_VERIFY_STATUS p) = 2 then raise (setVerify p 3 s) (portPage p) 2 else s
  else sendMpacket p true s

/-- VERIFY_MPACKET_RX on a port. -/
def execVerifyMpacketRx (p : Port) (respond : Bool) (s : State) : Host.Outcome State Fault Refusal := .next (whenRun s (verifyRx p.val respond))

/-- VERIFY_TIMEOUT (R190): the next of at most three verify mPackets, then failure and VERIFY. -/
def verifyTimeout (p : Nat) (s : State) : State :=
  if rd s (PORT_PREEMPT_VERIFY_STATUS p) ≠ 2 then s
  else if (portSt s p).tries < 3 then sendMpacket p false (setPort s p { portSt s p with tries := (portSt s p).tries + 1 })
  else raise (setVerify p 4 s) (portPage p) 2

/-- VERIFY_TIMEOUT on a port. -/
def execVerifyTimeout (p : Port) (s : State) : Host.Outcome State Fault Refusal := .next (whenRun s (verifyTimeout p.val))

/-! ## Link state (R175, R176) -/

/-- Discards every frame queued for a port's egress; each counts in TX_FLUSH (R176, R177). -/
def flushPort (p : Nat) (s : State) : State :=
  let n := (s.fwd.egress.filter (fun q => decide (q.port = p))).length
  syncCells (cntBy { s with fwd := { s.fwd with egress := s.fwd.egress.filter (fun q => decide (q.port ≠ p)) } } p 26 n)

/-- The port goes link up: its conditions have held for LINK_HOLD (R175). Verification starts again (R190). -/
def portUp (p an : Nat) (s : State) : State :=
  let s := wrB (wrB s (PORT_STATUS_PCS_LOCK p) true) (PORT_STATUS_LINK_UP p) true
  let s := wrB (wrB (wrB s (PORT_STATUS_DUPLEX_FAULT p) false) (PORT_STATUS_RATE_FAULT p) false) (PORT_STATUS_AN_DONE p) (anRuns s p)
  let s := if p = 14 then s else wrB s (PORT_STATUS_LOCAL_FAULT p) false
  let s := wr s (PORT_STATUS_SPEED p) (speedOf s p an)
  drainPort p (verifyStart p (raise (inc s (NODE_LINK_CHG p)) (portPage p) 0))

/-- The status bit that a failed condition leaves (R175, R197); DUPLEX_FAULT and RATE_FAULT raise MODE_FAULT. -/
def lossStatus (p : Nat) (why : LinkLoss) (s : State) : State :=
  match why with
  | .pcs => wrB s (PORT_STATUS_PCS_LOCK p) false
  | .localFault => wrB s (PORT_STATUS_LOCAL_FAULT p) true
  | .autoNeg => wrB s (PORT_STATUS_AN_DONE p) false
  | .duplex => raiseIf (!rdB s (PORT_STATUS_DUPLEX_FAULT p)) (portPage p) 4 (wrB s (PORT_STATUS_DUPLEX_FAULT p) true)
  | .rate => raiseIf (!rdB s (PORT_STATUS_RATE_FAULT p)) (portPage p) 4 (wrB s (PORT_STATUS_RATE_FAULT p) true)
  | .phy => wrB s (PORT_STATUS_PHY_LINK p) false

/-- The port goes link down (R176): queued frames are flushed, LINK_DOWN raises and counts; its mean link delay is cleared (R306) and its
pauses end. -/
def portDown (p : Nat) (s : State) : State :=
  let s := wr (wrB s (PORT_STATUS_LINK_UP p) false) (PORT_STATUS_SPEED p) 0
  let s := cnt (flushPort p s) p 28
  let s := wrB (wrB s (TIME_LINKDLY_VALID p) false) (TIME_LINKDLY_ASCAPABLE p) false
  let s := { s with time := { s.time with pdelay := eraseK s.time.pdelay p } }
  let s := wr (wrB s (PORT_STATUS_PAUSED p) false) (PORT_STATUS_PFC_PAUSED p) 0
  let s := setPort s p { portSt s p with pausedPrio := 0, xoff := false, xoffPrio := 0 }
  let s := if p = 14 then s else setVerify p (if rdB s (PORT_PREEMPT_EN p) then 1 else 0) s
  raise (inc s (NODE_LINK_CHG p)) (portPage p) 1

/-! ## PHY polls (R180) -/

/-- What a poll leaves in PORT_STATUS: 0xFFFF sets PHY_FAULT and counts as PHY link down; otherwise bit 2 is the link. -/
def phyPollStatus (p data : Nat) (s : State) : State :=
  if data = 0xFFFF then
    raiseIf (!rdB s (PORT_STATUS_PHY_FAULT p)) (portPage p) 5 (wrB (wrB s (PORT_STATUS_PHY_FAULT p) true) (PORT_STATUS_PHY_LINK p) false)
  else wrB (wrB s (PORT_STATUS_PHY_FAULT p) false) (PORT_STATUS_PHY_LINK p) (bit data 2)

/-- The port polls its PHY (R180). -/
def pollsPhy (s : State) (p : Nat) : Bool :=
  decide (p < 14) && rdB s (PORT_PHY_PHY_EN p) && decide (rd s (PORT_PHY_POLL p) ≠ 0) && pageOn s (portPage p)

/-- The MDIO bus of a port: 0 for B1 and B2, 1 for the consist ports (R180). -/
def mdioBus (p : Nat) : Nat := if p < 2 then 0 else 1

/-- The PHY register writes that the configuration image lists for a port, in order, at its start with PHY_EN = 1 (R180). -/
def phyStartWrites (p : Nat) (s : State) : State :=
  if p < 14 ∧ rdB s (PORT_PHY_PHY_EN p) then
    match s.store.inUse with
    | none => s
    | some k =>
      match (if k = 0 then s.store.slot0 else s.store.slot1) with
      | none => s
      | some im => forEach (im.phyWrites.filter (fun w => decide (w.1.val = p)))
          (fun w t => emit t (.mdio (mdioBus p) (rd t (PORT_PHY_PHY_ADDR p)) w.2.1 (some w.2.2.toNat))) s
  else s

/-! ## High bit-error ratio (R197) -/

/-- HI_BER: the status bit sets and the event raises. -/
def hiBerSet (p : Nat) (s : State) : State := raise (wrB s (PORT_STATUS_HI_BER p) true) (portPage p) 6

/-- HI_BER on a port. -/
def execHiBer (p : Port) (s : State) : Host.Outcome State Fault Refusal := .next (whenRun s (hiBerSet p.val))

/-! ## PORT group (R153) -/

/-- PORT_SET: stops the port, writes MODE and MAXLEN, commits MAXLEN, and starts the port again where admin is up (R174). -/
def portSetRun (c : Cmd) (s : State) : Reply :=
  let p := c.u 0x08 1
  let pg := portPage p
  let s := enRequest pg false s
  let s := wrBoth (wr s (PORT_MODE_MODE p) (c.u 0x09 1)) (PORT_MAXLEN p) (c.u 0x0C 2)
  let s := if c.u 0x0A 1 = 1 then enRequest pg true s else s
  Reply.accepted (touch pg s)

/-- The row of PORT_SET. -/
def portSetSpec : CmdSpec where
  opcode := 0x0300
  async := true
  kind := .shared
  hostOnly := false
  used := fun _ => [(0x08, 3), (0x0C, 2)]
  argOk := fun _ c => decide (c.u 0x08 1 ≤ 13) && modeOk (c.u 0x08 1) (c.u 0x09 1) && decide (c.u 0x0A 1 ≤ 1) &&
    decide (1518 ≤ c.u 0x0C 2 ∧ c.u 0x0C 2 ≤ 9600)
  pages := fun _ c => [portPage (c.u 0x08 1)]
  obj := fun _ c => .port (c.u 0x08 1)
  bulk := fun _ => none
  input := fun _ => none
  run := portSetRun

/-- PORT_SET (R153, R174). -/
def execPortSet (t : Take) (s : State) : Host.Outcome State Fault Refusal := .next (takeState portSetSpec t s)

/-- PORT_SET_DONE: the port has settled ON or OFF; the completion tells whether it is link up. -/
def portSetDone (p : Nat) (s : State) : State :=
  if (pageSt s (portPage p)).en = .on ∨ (pageSt s (portPage p)).en = .off then
    completeObj 0x0300 (.port p) stOK (le 1 (if linkUp s p then 1 else 0)) s
  else s

/-- PORT_SET_DONE (R136, R174). -/
def execPortSetDone (p : Port) (s : State) : Host.Outcome State Fault Refusal := .next (whenRun s (portSetDone p.val))

/-- PORT_STATUS. -/
def portStatusRun (c : Cmd) (s : State) : Reply :=
  let p := c.u 0x08 1
  Reply.okWith (le 1 (if linkUp s p then 1 else 0) ++ le 1 (rd s (PORT_MODE_MODE p)) ++ le 2 (rd s (PORT_MAXLEN p)) ++
    le 1 ((if rdB s (PORT_STATUS_PREEMPT_ACTIVE p) then 1 else 0) + (if rdB s (PORT_STATUS_PAUSED p) then 2 else 0)) ++ zeros 3 ++
    le 8 (rd s (NODE_LINK_CHG p))) s

/-- The row of PORT_STATUS. -/
def portStatusSpec : CmdSpec := CmdSpec.sync 0x0301 .rd [(0x08, 1)] (fun _ c => decide (c.u 0x08 1 ≤ 14)) portStatusRun

/-- PORT_STATUS (R153). -/
def execPortStatus (t : Take) (s : State) : Host.Outcome State Fault Refusal := .next (takeState portStatusSpec t s)

/-- PORT_CNT_SNAP: the counters read at one edge and, with clear, cleared at that edge (R154). -/
def portCntSnapRun (c : Cmd) (s : State) : Reply :=
  let p := c.u 0x08 1
  let first := c.u 0x09 1
  let n := c.u 0x0A 1
  let vals := (List.range n).flatMap (fun i => le 8 (rd s (portCtr p (first + i))))
  let t := if c.u 0x0B 1 = 1 then forEach (List.range n) (fun i t => wr t (portCtr p (first + i)) 0) s else s
  Reply.okWith (le 1 n ++ zeros 7 ++ vals) t

/-- The row of PORT_CNT_SNAP. -/
def portCntSnapSpec : CmdSpec := CmdSpec.sync 0x0302 .only [(0x08, 4)]
  (fun _ c => decide (c.u 0x08 1 ≤ 14) && decide (1 ≤ c.u 0x0A 1 ∧ c.u 0x0A 1 ≤ 6) && decide (c.u 0x09 1 + c.u 0x0A 1 ≤ 32) && decide (c.u 0x0B 1 ≤ 1))
  portCntSnapRun

/-- PORT_CNT_SNAP (R153, R154). -/
def execPortCntSnap (t : Take) (s : State) : Host.Outcome State Fault Refusal := .next (takeState portCntSnapSpec t s)

/-- PORT_MDIO (R181): one transaction on the bus; a read that no PHY answers gives 0xFFFF. The result of a write that a PHY takes is not stated:
a free value (log entry 5). -/
def portMdioRun (phyData : Option (BitVec 16)) (c : Cmd) (s : State) : Reply :=
  let b := c.u 0x09 1
  let wrt := bit b 6
  let reg := (if bit b 7 then c.u 0x0C 1 * 65536 else 0) + c.u 0x0A 2
  let s := emit s (.mdio (c.u 0x08 1) (b % 32) reg (if wrt then some (c.u 0x0E 2) else none))
  match phyData with
  | none => Reply.okWith (le 2 0xFFFF) s
  | some d => if wrt then Reply.okWith (le 2 (Config.freeNat s.free)) (nextFree s) else Reply.okWith (le 2 d.toNat) s

/-- The row of PORT_MDIO. -/
def portMdioSpec (phyData : Option (BitVec 16)) : CmdSpec := CmdSpec.sync 0x0303 .only [(0x08, 5), (0x0E, 2)]
  (fun _ c => decide (c.u 0x08 1 ≤ 1) && !bit (c.u 0x09 1) 5 && decide (c.u 0x0C 1 ≤ (if bit (c.u 0x09 1) 7 then 31 else 0)) &&
    decide (c.u 0x0A 2 ≤ (if bit (c.u 0x09 1) 7 then 65535 else 31))) (portMdioRun phyData)

/-- PORT_MDIO (R153, R181). -/
def execPortMdio (t : Take) (phyData : Option (BitVec 16)) (s : State) : Host.Outcome State Fault Refusal := .next (takeState (portMdioSpec phyData) t s)

end Sys2Proof.Machine
end

