-- ==== Sys2Proof/Machine/FrameRx.lean ====
section
/-! DEFINITION. A frame through the node: the MAC level (R182 to R188), MACsec (R229), the skim path (R211), the separator (R204, R205), the
engine path with streams, meters and recovery (R214 to R218, R225, R226), the forwarding decision (R207, R208), delivery; host transmit (R236). -/

namespace Sys2Proof.Machine

/-! ## MAC level -/

/-- One bit of the bin computation of R186. -/
def binBit (c d i : Nat) : Nat :=
  let f := (c / 2 ^ 31 + d / 2 ^ i) % 2
  let c := c * 2 % 2 ^ 32
  if f = 1 then c ^^^ 0x04C11DB7 else c

/-- The bin of a destination address (R186). -/
def hashBin (dst : List Byte) : Nat := (dst.foldl (fun c b => (List.range 8).foldl (fun c i => binBit c b.toNat i) c) 0xFFFFFFFF) / 2 ^ 23

/-- A destination passes the group filter of a port (R187). The hash table does not apply on T (R196). -/
def groupPasses (s : State) (p : Nat) (dst : List Byte) : Bool :=
  let a := ofBe dst
  if isGroup dst = false then true
  else if 0x0180C2000000 ≤ a ∧ a ≤ 0x0180C200000F then true
  else if 0x01EB1E0000B0 ≤ a ∧ a ≤ 0x01EB1E0000BF then decide (0x01EB1E0000B5 ≤ a ∧ a ≤ 0x01EB1E0000B7)
  else if p = 14 then true
  else if isBroadcast dst ∧ rdB s (PORT_GROUP_BCAST_DROP p) = false then true
  else if rdB s (PORT_GROUP_ALL_GROUP p) then true
  else bit (rd s (PORT_GHASH p (hashBin dst / 32))) (hashBin dst % 32)

/-- A frame passes the tag rules of a port (R188): VID 4,095 is dropped, ACCEPT drops by kind. -/
def tagPasses (s : State) (p : Nat) (bytes : List Byte) : Bool :=
  let tagged := decide (beAt bytes 12 2 = 0x8100)
  let vid := beAt bytes 14 2 % 4096
  let a := rd s (PORT_VLAN_ACCEPT p)
  if tagged ∧ vid = 4095 then false
  else if a = 1 then tagged && decide (vid ≠ 0)
  else if a = 2 then !(tagged && decide (vid ≠ 0))
  else true

/-- The received length of a frame: to the FCS, with the 32 bytes of MACsec where they were removed (R228). -/
def rxLen (f : RxFrame) : Nat := f.bytes.length + 4 + (if f.sec.isSome then 32 else 0)

/-- The counter of R182 that judges a frame: 0 where it passes the MAC level. -/
def macJudge (s : State) (p : Nat) (f : RxFrame) : Nat :=
  match f.ending with
  | .codeErr => 8
  | .assyErr => 15
  | .smdErr => 16
  | _ => if rxLen f < 64 then 5 else if maxLen s p < rxLen f then 7 else if f.fcsGood then 0 else 6

/-- Counts a frame that passes R182 (R199). -/
def countOk (p : Nat) (f : RxFrame) (s : State) : State :=
  let s := cntBy (cnt s p 0) p 1 (rxLen f)
  if isBroadcast (slice f.bytes 0 6) then cnt s p 4 else if isGroup f.bytes then cnt s p 3 else cnt s p 2

/-! ## MACsec (R229) -/

/-- The EtherType that follows the tag, if any. -/
def etherType (f : Frm) : Nat := beAt f.rest 0 2

/-- A frame that goes through the controlled port is accepted: SecTAG, a valid key of its association number, ICV and replay check good. -/
def secAccepts (s : State) (p : Nat) (f : RxFrame) : Bool :=
  match f.sec with
  | none => false
  | some t =>
    let an := rd s (FWD_SECSTAT_TX_AN p)
    let known := secKey s p t.an.val && (decide (t.an.val = an ∨ t.an.val = 3) || rdB s (FWD_SECSTAT_OLD_RX p))
    known && t.icvGood && t.replayGood

/-- MACsec drops the frame. -/
def secDrops (s : State) (p : Nat) (f : RxFrame) (etype : Nat) : Bool :=
  decide (p < 2) && rdB s (FWD_SECSTAT_ON p) && decide (etype ≠ 0x88B5 ∧ etype ≠ 0x88F7) && !secAccepts s p f

/-! ## Forwarding decision (R207) -/

/-- The home link rule: consist ports that are down here and up at the partner are replaced by T (R207 step 5). -/
def homeLink (s : State) (mask : Nat) : Nat :=
  let away := (List.range 14).filter (fun n => decide (2 ≤ n) && bit mask n && !linkUp s n && bit s.twin.partnerLinks.toNat n)
  if away.isEmpty then mask else setBit (away.foldl clrBit mask) 14

/-- The mask of a destination and whether it was flooded: an entry's mask, or the VID's members that take flooded frames (R207 step 2). -/
def lookupMask (s : State) (f : Frm) : Nat × Nat × Bool :=
  match fdbFind s.fwd.bank0 (BitVec.ofNat 48 (ofBe f.dst)) (BitVec.ofNat 12 f.vid) with
  | some e => (e.mask.toNat, e.queue, false)
  | none => (vlanMask s.fwd.bank0 f.vid &&& rd s FWD_FLOOD, 0, true)

/-- Steps 3 to 5 of R207: the ingress port leaves the mask, T leaves it for a frame received on T, the home link rule. -/
def excludeMask (s : State) (ingress mask : Nat) : Nat :=
  let m := clrBit mask ingress
  homeLink s (if ingress = 14 then clrBit m 14 else m)

/-- The ingress port is a member of the VID; T is exempt (R207 step 1). -/
def ingressMember (s : State) (p vid : Nat) : Bool := decide (p = 14) || bit (vlanMask s.fwd.bank0 vid) p

/-! ## Learning (R208) -/

/-- Refreshes, moves or adds a learned entry in one bank. -/
def learnInto (now : Nat) (m : BitVec 48) (vid : BitVec 12) (p : Nat) (b : Bank) : Bank :=
  fdbPut b ⟨m, vid, BitVec.ofNat 16 (2 ^ p), 0, false, false, true, false, false, now⟩

/-- The oldest learned entry of a full bucket that has reached AGE. -/
def agedEntry (s : State) (m : BitVec 48) (vid : BitVec 12) : Option FdbEntry :=
  ((bucketEntries s.fwd.bank0 m vid).filter (fun e => e.learned && !e.static && decide (rd s FDB_CTL_AGE ≠ 0 ∧ rd s FDB_CTL_AGE * 1000000000 ≤ nowNs s - e.seen))).foldl
    (fun o e => match o with | none => some e | some x => if e.seen < x.seen then some e else o) none

/-- A source address seen on a port: refreshed, moved, added, or not learned in a full bucket (R208). -/
def learnAt (p : Nat) (m : BitVec 48) (vid : BitVec 12) (s : State) : State :=
  let put (t : State) : State := syncUse (onBank1 (learnInto (nowNs s) m vid p) (onBank0 (learnInto (nowNs s) m vid p) t))
  match fdbFind s.fwd.bank0 m vid with
  | some e =>
    if e.static ∨ e.train ∨ e.learned = false then s
    else if e.mask = BitVec.ofNat 16 (2 ^ p) then put s
    else raise (put s) 0x022 1
  | none =>
    if fdbRoom s.fwd.bank0 m vid then put s
    else match agedEntry s m vid with
    | some e => put (onBank1 (fun b => fdbErase b e.mac e.vid) (onBank0 (fun b => fdbErase b e.mac e.vid) s))
    | none => raise (inc s FDB_LEARNFAIL) 0x022 0

/-- Learns the source of a frame received on a port of FDB_CTL.LEARN; a joined node passes it to its partner through the journal (R208, R421). -/
def learn (p : Nat) (f : Frm) (s : State) : State :=
  if p < 2 ∨ p = 14 ∨ isGroup f.src ∨ bit (rd s FDB_CTL_LEARN) p = false then s
  else
    let m := BitVec.ofNat 48 (ofBe f.src)
    let vid := BitVec.ofNat 12 f.vid
    let s := learnAt p m vid s
    if joined s then { s with twin := { s.twin with own := s.twin.own ++ [⟨5, .learned m vid (Fin.ofNat 15 p), true⟩] } } else s

/-! ## Separator (R204, R205) -/

/-- The UDP destination port of a frame and its IP version: IPv4 with protocol 17 and fragment offset 0, or IPv6 with next header 17 (R204). -/
def udpOf (f : Frm) : Option (Nat × Nat) :=
  let ip := f.rest.drop 2
  if etherType f = 0x0800 then
    if beAt ip 0 1 / 16 = 4 ∧ beAt ip 9 1 = 17 ∧ beAt ip 6 2 % 8192 = 0 then some (1, beAt ip (4 * (beAt ip 0 1 % 16) + 2) 2) else none
  else if etherType f = 0x86DD then
    if beAt ip 0 1 / 16 = 6 ∧ beAt ip 6 1 = 17 then some (2, beAt ip 42 2) else none
  else none

/-- A rule matches a frame (R204). -/
def ruleMatches (r : SepRule) (p : Nat) (f : Frm) : Bool :=
  r.valid && bit r.ports p &&
  (!r.mVid || decide (f.vid &&& r.vidMask = r.vid &&& r.vidMask)) &&
  (!r.mPcp || bit r.pcpSet f.pcp) &&
  (!r.mEtype || decide (etherType f = r.etype)) &&
  (!r.mUdp || match udpOf f with
    | none => false
    | some (v, port) => decide (r.ipv = 0 ∨ r.ipv = v) && decide (port &&& r.udpMask = r.udp &&& r.udpMask))

/-- What the separator decides: the rule that ended the evaluation, none where no rule did. -/
structure SepResult where
  rule : Option SepRule
  st : State

/-- The copy of a mirror rule: as received, class 0, on the target port; dropped with MIRROR_DROP where no cell is free (R205). -/
def mirrorTo (target : Nat) (f : Frm) (ingress : Nat) (s : State) : State :=
  if admits s [target] 0 false f.raw.length then
    let id := s.fwd.frameNo
    queueOn id target 0 false f.raw ingress f.pcp { s with fwd := { s.fwd with frameNo := id + 1 } }
  else raise s 0x021 1

/-- Evaluates rules in ascending order: mirrors continue, every other action ends (R205). -/
def sepEval (rules : List (Nat × SepRule)) (p : Nat) (f : Frm) (s : State) : SepResult :=
  match rules with
  | [] => ⟨none, inc s SEP_MISS⟩
  | (n, r) :: t =>
    if ruleMatches r p f then
      let s := raiseIf r.event 0x021 0 (inc s (SEP_HIT n))
      if r.action = 4 then sepEval t p f (mirrorTo r.target f p s) else ⟨some r, s⟩
    else sepEval t p f s

/-! ## Streams (R217, R218, R225, R226) -/

/-- The stream of a frame: a handle from the separator, else the lowest valid entry of its address and VID whose mask holds the ingress
(15 stands for the host transmit queues). -/
def identify (s : State) (ingress : Nat) (f : Frm) (handle : Option Nat) : Option (Nat × Stream) :=
  match handle with
  | some h => (streamAt s h).map (fun r => (h, r))
  | none => s.fwd.bank0.streams.find? (fun x => x.2.valid && decide (x.2.mac = BitVec.ofNat 48 (ofBe f.dst) ∧ x.2.vid = BitVec.ofNat 12 f.vid) && bit x.2.ports ingress)

/-- Fills a stream's buckets up to now: CIR and EIR in kbit/s add that many millionths of a bit each nanosecond, up to CBS and EBS (R218, log entry 16). -/
def fillBuckets (r : Stream) (u : StreamRun) (now : Nat) : StreamRun :=
  { u with bucketC := min (r.cbs * 8 * 1000000) (u.bucketC + r.cir * (now - u.meterAt)),
           bucketE := min (r.ebs * 8 * 1000000) (u.bucketE + r.eir * (now - u.meterAt)), meterAt := now }

/-- The colour of a frame: 0 green, 1 yellow, 2 red; colour-blind, coupling off (R218). -/
def meter (u : StreamRun) (len : Nat) : Nat × StreamRun :=
  let cost := len * 8 * 1000000
  if cost ≤ u.bucketC then (0, runCount { u with bucketC := u.bucketC - cost } 8 1)
  else if cost ≤ u.bucketE then (1, runCount { u with bucketE := u.bucketE - cost } 9 1)
  else (2, runCount u 10 1)

/-- How far sequence number q is ahead of the highest passed: between -32,768 and 32,767. -/
def seqDelta (q top : Nat) : Int := let d := (q + 65536 - top % 65536) % 65536; if d < 32768 then (d : Int) else (d : Int) - 65536

/-- How many of the oldest positions that a shift by d moves out of a window of n were never passed (R237 LOST). -/
def lostIn (hist n d : Nat) : Nat := ((List.range (min d n)).filter (fun i => !bit hist (n - 1 - i))).length + (d - min d n)

/-- Vector recovery of one frame: pass or not, with the counters of R237 and whether it is rogue (R226). -/
def recover (r : Stream) (u : StreamRun) (seq : Option Nat) : Bool × Bool × StreamRun :=
  match seq with
  | none => let u := runCount u 5 1; if r.takeNoSeq then (true, false, runCount u 0 1) else (false, false, u)
  | some q =>
    match u.take, u.top with
    | false, some top =>
      let d := seqDelta q top
      if (r.hist : Int) ≤ d ∨ d ≤ -(r.hist : Int) then (false, true, runCount u 3 1)
      else if d ≤ 0 then
        let i := d.natAbs
        if bit u.hist i then (false, false, runCount u 1 1)
        else (true, false, runCount (runCount { u with hist := setBit u.hist i } 0 1) 2 (if d < 0 then 1 else 0))
      else
        let k := d.toNat
        let u := runCount u 4 (lostIn u.hist r.hist k)
        (true, false, runCount { u with hist := (u.hist * 2 ^ k + 1) % 2 ^ r.hist, top := some q } 0 1)
    | _, _ => (true, false, runCount { u with take := false, hist := 1, top := some q } 0 1)

/-- The latent difference of R227 after a frame passed or was discarded. -/
def latentStep (r : Stream) (pass : Bool) (u : StreamRun) : StreamRun :=
  if r.latentEn then { u with diff := if pass then u.diff + 1 else u.diff - 1 } else u

/-- A frame on its way to delivery: its ports, its host queue or telegram engine, class if forced. -/
structure Route1 where
  ports : Nat
  host : Option Nat
  telegram : Option Nat
  cls : Option Nat

/-- The engine path: filter, meter, sequence generation or recovery, edits; none where the frame is dropped (R215). -/
def engine (h : Nat) (r : Stream) (ingress len : Nat) (f : Frm) (w : Route1) (s : State) : Option (Frm × Frm × Route1) × State :=
  let u := runCount (streamRun s h) 12 1
  if r.maxSdu ≠ 0 ∧ r.maxSdu < len then (none, raise (setStreamRun h (runCount u 11 1) s) 0x024 5)
  else
    let m := if r.meterEn then meter (fillBuckets r u (nowNs s)) len else (0, u)
    let s := setStreamRun h m.2 s
    if m.1 = 2 then (none, raise s 0x024 4)
    else if m.1 = 1 ∧ r.dropYellow then (none, s)
    else
      let f := if m.1 = 1 then { f with dei := true } else f
      let gen := r.seqGen && (decide (2 ≤ ingress ∧ ingress < 14) || decide (ingress = 15)) && f.rtag.isNone
      let u := streamRun s h
      let s := if gen then setStreamRun h { u with nextSeq := (u.nextSeq + 1) % 65536 } s else s
      let f := if gen then { f with rtag := some u.nextSeq } else f
      let w := if gen && r.replicateT then { w with ports := setBit w.ports 14 } else w
      let f := { f with pcp := if r.pcpEn then r.pcp else f.pcp, vid := if r.vidOut ≠ 0 then r.vidOut else f.vid }
      let w := if r.clsEn then { w with cls := some r.cls } else w
      let local_ := w.ports &&& 0x3FFC
      if r.seqRcvy && (decide (local_ ≠ 0) || w.host.isSome || w.telegram.isSome) then
        let u := streamRun s h
        let x := recover r u f.rtag
        let s := setStreamRun h (latentStep r x.1 x.2.2) s
        let s := raiseIf f.rtag.isNone 0x024 3 (raiseIf x.2.1 0x024 1 s)
        if x.1 then (some (f, if r.rtagPop then { f with rtag := none } else f, w), s)
        else (some (f, f, { w with ports := w.ports - local_, host := none, telegram := none }), s)
      else (some (f, f, w), s)

/-! ## Delivery -/

/-- A frame that is not admitted is dropped at ingress and counted (R220). -/
def noBuffer (ingress : Nat) (s : State) : State := raise (if ingress < 15 then cnt s ingress 17 else s) 0x020 1

/-- Queues a frame on the ports of a mask: backbone ports and T take it with its R-TAG, consist ports as recovery leaves it. -/
def queueMask (mask cls : Nat) (skim : Bool) (f g : Frm) (ingress : Nat) (s : State) : State :=
  let id := s.fwd.frameNo
  let s := { s with fwd := { s.fwd with frameNo := id + 1 } }
  forEach (portsOf mask 15) (fun p t => queueOn id p cls skim (egressBytes t p (if 2 ≤ p ∧ p < 14 then g else f)) ingress f.pcp t) s

/-- Delivers a frame: host queue as received (R234), egress ports under admission (R220). -/
def deliverFrame (ingress : Nat) (f g : Frm) (w : Route1) (cellGood : Bool) (s : State) : State :=
  if cellGood = false then raise (inc (inc s FWD_CELL_ERR) (NODE_OVERLAP 1)) 0x020 0
  else
    let s := match w.host with | none => s | some q => hqDeliver q ingress f.tagged f.raw s
    let ports := (portsOf w.ports 15).filter (linkUp s)
    if ports.isEmpty then s
    else
      let cls := w.cls.getD (pcpClass s f.pcp)
      if admits s ports cls false f.raw.length then queueMask w.ports cls false f g ingress s else noBuffer ingress s

/-- The forwarding database's decision for an engine-path frame: steps 1 to 6 of R207, learning at step 1's pass (R208). -/
def fdbRoute (ingress : Nat) (f : Frm) (cls : Option Nat) (s : State) : Option Route1 × State :=
  if ingressMember s ingress f.vid = false then (none, inc s FDB_VLANDROP)
  else
    let s := learn ingress f s
    let l := lookupMask s f
    let s := if l.2.2 then inc s FDB_MISS else s
    let m := excludeMask s ingress l.1
    (some ⟨clrBit m 15, if bit m 15 then some l.2.1 else none, none, cls⟩, s)

/-- The frame engine of a frame that no rule names one for (R214). -/
def engineOf (f : Frm) : Nat := crc32c (f.dst ++ be 2 f.vid) % 16

/-- Sends a frame through frame engine n and delivers it; what meets an engine that failed its self-check is lost (R28, R30). -/
def throughEngine (n ingress : Nat) (f : Frm) (handle : Option Nat) (cellGood : Bool) (w : Route1) (s : State) : State :=
  if s.fwd.failed.contains n then s
  else match identify s ingress f handle with
  | none => deliverFrame ingress f f w cellGood s
  | some (h, r) =>
    match engine h r ingress (f.raw.length + 4) f w s with
    | (none, s) => s
    | (some (f', g, w'), s) => deliverFrame ingress f' g w' cellGood s

/-- An engine-path frame after the separator (R205). -/
def enginePath (ingress : Nat) (f : Frm) (cellGood : Bool) (s : State) : State :=
  let r := sepEval s.fwd.bank0.rules ingress f s
  let n := match r.rule with | some x => if x.action = 3 then x.target else engineOf f | none => engineOf f
  let forward (cls : Option Nat) (handle : Option Nat) (host tele : Option Nat) (s : State) : State :=
    match fdbRoute ingress f cls s with
    | (none, s) => if host.isSome ∨ tele.isSome then throughEngine n ingress f handle cellGood ⟨0, host, tele, cls⟩ s else s
    | (some w, s) => throughEngine n ingress f handle cellGood { w with host := if host.isSome then host else w.host, telegram := tele } s
  match r.rule with
  | none => forward none none none none r.st
  | some x =>
    if x.action = 0 then forward (some x.target) none none none r.st
    else if x.action = 1 then
      if x.alsoFwd then forward none none (some x.target) none r.st else throughEngine n ingress f none cellGood ⟨0, some x.target, none, none⟩ r.st
    else if x.action = 2 then
      if x.alsoFwd then forward none none none (some x.target) r.st else throughEngine n ingress f none cellGood ⟨0, none, some x.target, none⟩ r.st
    else if x.action = 3 then forward none (if x.handle = 0xFFFF then none else some x.handle) none none r.st
    else r.st

/-! ## Skim path (R183, R211, R212) -/

/-- The express entry of a frame that takes the skim path. -/
def skimEntry (s : State) (p : Nat) (f : Frm) : Option FdbEntry :=
  if rdB s FWD_SKIM_EN && decide (p < 14) && bit (rd s FWD_SKIM_PORTS) p && bit (rd s FWD_SKIM_PCP_SET) f.pcp then
    (fdbFind s.fwd.bank0 (BitVec.ofNat 48 (ofBe f.dst)) (BitVec.ofNat 12 f.vid)).filter (fun e => e.express)
  else none

/-- The egress ports of a skim frame: steps 1 and 3 to 5 of R207 on the entry's mask, never the host. -/
def skimPorts (s : State) (p : Nat) (f : Frm) (e : FdbEntry) : List Nat :=
  if ingressMember s p f.vid then (portsOf (excludeMask s p (clrBit e.mask.toNat 15)) 15).filter (linkUp s) else []

/-- The egress goes cut-through: its data rate is at most the ingress rate (R211). -/
def cutThrough (s : State) (p e : Nat) : Bool := decide (portRate s e ≤ portRate s p)

/-- A cut-through egress ends the frame with an inverted FCS (R183). -/
def abortOn (p : Nat) (s : State) : State := cnt (emit s (.aborted p)) p 24

/-- A skim frame that fails after its transmission began: every cut-through egress aborts it (R183, R231, R232). -/
def skimFails (p : Nat) (f : Frm) (s : State) : State :=
  match skimEntry s p f with
  | none => s
  | some e => forEach ((skimPorts s p f e).filter (cutThrough s p)) abortOn s

/-- A skim frame that arrives whole: out on every port ahead of queued frames, ended at the egress MAXLEN where cut-through (R184). -/
def skimForward (p : Nat) (f : Frm) (e : FdbEntry) (s : State) : State :=
  if ingressMember s p f.vid = false then inc s FDB_VLANDROP
  else
    let s := learn p f s
    let ports := skimPorts s p f e
    let long := ports.filter (fun q => cutThrough s p q && tooLong s q (egressBytes s q f))
    let rest := ports.filter (fun q => !(cutThrough s p q && tooLong s q (egressBytes s q f)))
    let s := forEach long abortOn s
    if rest.isEmpty then s
    else if admits s rest (pcpClass s f.pcp) true f.raw.length then queueFrame rest (pcpClass s f.pcp) true f p s else noBuffer p s

/-! ## FRAME_RX -/

/-- The frame is for the node itself and is never forwarded: its individual address and its train unicast addresses (R276, R277, R282). -/
def forNode (s : State) (dst : List Byte) : Bool :=
  let a := ofBe dst
  decide (a = nodeMac) || (decide (ownHandle s ≠ 0) && decide (a = ownTrainMac s ∨ a = trainMac 2 (ownHandle s)))

/-- A MAC control frame: PAUSE and PFC act, anything else is dropped and counted (R193). -/
def macControl (p : Nat) (bytes : List Byte) (s : State) : State :=
  let op := beAt bytes 14 2
  if op = 0x0001 then pauseRx p (beAt bytes 16 2) s
  else if op = 0x0101 ∧ pfcRxEnabled s p then
    forEach (List.range 8) (fun q t =>
      if bit (beAt bytes 16 2) q && bit (rd t (PORT_FC_PFC_RX_EN p)) q then
        raiseIf (decide (beAt bytes (18 + 2 * q) 2 ≠ 0)) (portPage p) 3 (setPfcPaused p q (decide (beAt bytes (18 + 2 * q) 2 ≠ 0)) t)
      else t) (cnt s p 12)
  else macControlDrop p s

/-- The MAC address that answers for an IPv4 address (R281): the own twin's, or the car node's while active or solo. -/
def arpOwner (s : State) (ip : Nat) : Option Nat :=
  match ownEntry s with
  | none => none
  | some e =>
    if ip = numIp e.car (1 + twinNo s) ∨ ip = handleIp e.handle (1 + twinNo s) then some (trainMac (twinNo s) e.handle)
    else if (ip = numIp e.car 3 ∨ ip = handleIp e.handle 3) ∧ isActive s then some (trainMac 2 e.handle)
    else none

/-- An ARP packet for IPv4 over Ethernet on the management VID: operation, sender, target. Its PCP is the model's choice (log entry 32). -/
def arpBytes (s : State) (dst oper sha spa tha tpa : Nat) : List Byte :=
  macBytes dst ++ macBytes sha ++ be 2 0x8100 ++ be 2 (mgmtVid s) ++ be 2 0x0806 ++ be 2 1 ++ be 2 0x0800 ++ be 1 6 ++ be 1 4 ++ be 2 oper ++
  macBytes sha ++ be 4 spa ++ macBytes tha ++ be 4 tpa

/-- The answer to an ARP request for an address of the node's, on the port that it came in on. -/
def arpAnswer (p ip askMac askIp : Nat) (s : State) : State :=
  match arpOwner s ip with
  | none => s
  | some mac => sendOwn p (pcpClass s 0) (arpBytes s askMac 2 mac ip askMac askIp) s

/-- A frame is an ARP request on the management VID for an address that the node answers for. -/
def arpForNode (s : State) (f : Frm) : Bool :=
  decide (etherType f = 0x0806 ∧ f.vid = mgmtVid s ∧ beAt f.rest 8 2 = 1) && (arpOwner s (beAt f.rest 26 4)).isSome

/-- A frame that passed the MAC level and the tag rules: its owner takes it (R202, R277, R283), or it is forwarded. -/
def dispatchFrame (p : Nat) (f : Frm) (cellGood : Bool) (s : State) : State :=
  let et := etherType f
  if et = 0x88B5 ∨ et = 0x88F7 ∨ forNode s f.dst ∨ ofBe f.dst = 0x01EB1E0000B7 then s
  else if arpForNode s f then arpAnswer p (beAt f.rest 26 4) (beAt f.rest 10 6) (beAt f.rest 16 4) s
  else match skimEntry s p f with
  | some e => if cellGood then skimForward p f e s else raise (skimFails p f (inc (inc s FWD_CELL_ERR) (NODE_OVERLAP 1))) 0x020 0
  | none => enginePath p f cellGood s

/-- The frame as the pipeline carries it, with PVID and DEF_PCP of its port (R188). -/
def ingressFrame (s : State) (p : Nat) (f : RxFrame) : Frm := parseFrame f.bytes (pvid s p) (rd s (PORT_VLAN_DEF_PCP p))

/-- A frame received on a consist port stops the false-wake timer, unless it is a worker frame or a churn, gPTP, TCFG or sleep frame (R390). -/
def frameAnswersWake (p : Nat) (g : Frm) : Bool :=
  let kind := beAt g.rest 3 1
  decide (2 ≤ p ∧ p < 14 ∧ etherType g ≠ 0x88B5 ∧ etherType g ≠ 0x88F7) &&
  !(decide (etherType g = 0x88B6) && decide ((0x10 ≤ kind ∧ kind ≤ 0x12) ∨ (0x08 ≤ kind ∧ kind ≤ 0x0B)))

/-- FRAME_RX: judged at the MAC level (R182), filtered (R187), tagged (R188), protected (R229), then dispatched. -/
def frameRx (p : Nat) (f : RxFrame) (s : State) : State :=
  let s := match f.ending with | .reassembled => cnt s p 14 | _ => s
  let j := macJudge s p f
  if j ≠ 0 then
    let s := cnt s p j
    let s := if j = 6 then inc s (NODE_OVERLAP 0) else s
    if j ≠ 16 ∧ groupPasses s p (slice f.bytes 0 6) ∧ tagPasses s p f.bytes ∧ 16 ≤ f.bytes.length then skimFails p (ingressFrame s p f) s else s
  else
    let s := countOk p f s
    let s := if frameAnswersWake p (ingressFrame s p f) then answerWake s else s
    if ofBe (slice f.bytes 0 6) = 0x0180C2000001 then macControl p f.bytes s
    else if groupPasses s p (slice f.bytes 0 6) = false then cnt s p 9
    else if tagPasses s p f.bytes = false then cnt s p 10
    else
      let g := ingressFrame s p f
      if secDrops s p f (etherType g) then
        let s := raise (inc s (FWD_SECDROP p)) 0x020 5
        match f.sec with | some t => if t.icvGood then s else skimFails p g s | none => s
      else dispatchFrame p g f.cellGood s

/-- FRAME_RX on a port that is link up. -/
def execFrameRx (p : Port) (f : RxFrame) (s : State) : Host.Outcome State Fault Refusal := .next (whenRun s (onlyIf (linkUp s p.val) (frameRx p.val f)))

/-! ## Host transmit (R235, R236) -/

/-- Start of host transmit queue t. -/
def htBase (t : Nat) : Nat := 0x3500000 + t * 0x40000

/-- A descriptor and the frame it names are valid (R236). -/
def htValid (d data : List Byte) : Bool :=
  let off := leAt d 0 4
  let len := leAt d 4 2
  let fl := leAt d 6 1
  decide (0x1000 ≤ off) && decide (off % 128 = 0) && decide (14 ≤ len ∧ len ≤ 9596) && decide (off + len ≤ 0x40000) && decide (fl < 32) &&
  decide (leAt d 8 2 < 2 ^ 15) && decide (leAt d 0xA 6 = 0) && !(bit fl 0 && decide (leAt d 8 2 = 0)) &&
  !(decide (beAt data 12 2 = 0x8100) && decide (beAt data 14 2 % 4096 = 4095))

/-- The route of a host frame without DIRECT: R207 from step 2, the host as ingress, bit 15 removed. -/
def hostRoute (f : Frm) (s : State) : Nat × State :=
  let l := lookupMask s f
  (clrBit (homeLink s l.1) 15, if l.2.2 then inc s FDB_MISS else s)

/-- Queues a host frame under admission: its status is 0x01, or 0x02 where it is not admitted. -/
def htQueue (mask cls : Nat) (f g : Frm) (s : State) : Nat × State :=
  let ports := (portsOf mask 15).filter (linkUp s)
  if ports.isEmpty then (1, s)
  else if admits s ports cls false f.raw.length then (1, queueMask mask cls false f g 15 s) else (2, raise s 0x020 1)

/-- One host frame: its status and the state. A frame that its stream drops was admitted for egress no more than one with an empty mask; it
reports 0x01 (log entry 17). -/
def htSend (d data : List Byte) (s : State) : Nat × State :=
  let fl := leAt d 6 1
  let f := parseFrame data 1 0
  let forced := if bit fl 1 then some (bits fl 4 2) else none
  if bit fl 0 then htQueue (leAt d 8 2) (forced.getD (pcpClass s f.pcp)) f f s
  else
    let m := hostRoute f s
    if s.fwd.failed.contains (engineOf f) then (1, m.2)
    else match identify m.2 15 f none with
    | none => htQueue m.1 (forced.getD (pcpClass s f.pcp)) f f m.2
    | some (h, r) =>
      match engine h r 15 (data.length + 4) f ⟨m.1, none, none, none⟩ m.2 with
      | (none, s) => (1, s)
      | (some (f', g, w), s) => htQueue w.ports (forced.getD (w.cls.getD (pcpClass s f'.pcp))) f' g s

/-- HOST_TX_TAKE (R236): checks the descriptor and the data, sends, writes STATUS, advances the head. -/
def hostTxTake (t : Nat) (checkGood : Bool) (s : State) : State :=
  let head := rd s (FWD_HTHEAD t)
  if head = rd s (FWD_HTTAIL t) then s
  else
    let d := bar2Read s (htBase t + 16 * head) 16
    let data := bar2Read s (htBase t + leAt d 0 4) (leAt d 4 2)
    let r := if htValid d data = false then (4, s) else if checkGood = false then (3, s) else htSend d data s
    let s := bar2Write r.2 (htBase t + 16 * head + 7) (le 1 r.1)
    inc (if r.1 = 1 then s else inc s (FWD_HTDROP t)) (FWD_HTHEAD t)

/-- HOST_TX_TAKE of a queue. -/
def execHostTxTake (q : Fin 8) (checkGood : Bool) (s : State) : Host.Outcome State Fault Refusal := .next (whenRun s (hostTxTake q.val checkGood))

end Sys2Proof.Machine
end

