-- ==== Sys2Proof/Machine/Time.lean ====
section
/-! DEFINITION. The time unit without its steps: status, comparators, captures, link delay and twin skew (11_train_time.md, R157, R306, R312,
R315, R319 to R322). What can fire a comparator stands in Sync.lean and Fire.lean. -/

namespace Sys2Proof.Machine

/-! ## Reports (R157, R307) -/

/-- A signed number as a two's complement number of 32 bits, saturating at ±2,147,483,647 (R307). -/
def s32 (v : Int) : Nat :=
  let c := max (-2147483647) (min 2147483647 v)
  (c % 4294967296).toNat

/-- SYNC_THR in ns; 0 acts as 1 (R323). -/
def syncThr (s : State) : Nat := 10 * max 1 (rd s TIME_CTL_SYNC_THR)

/-- SYNC0 or SYNC1. -/
def TIME_STAT_SYNC (d : Nat) : Fld := if d = 0 then TIME_STAT_SYNC0 else TIME_STAT_SYNC1

/-- GM0_SELF or GM1_SELF. -/
def TIME_STAT_GM_SELF (d : Nat) : Fld := if d = 0 then TIME_STAT_GM0_SELF else TIME_STAT_GM1_SELF

/-- A domain is synchronized. -/
def domSync (s : State) (d : Nat) : Bool := rdB s (TIME_STAT_SYNC d)

/-- A domain's state. -/
def domSt (s : State) (d : Nat) : DomSt := if d = 0 then s.time.d0 else s.time.d1

/-- Sets a domain's state. -/
def setDom (d : Nat) (v : DomSt) (s : State) : State :=
  { s with time := if d = 0 then { s.time with d0 := v } else { s.time with d1 := v } }

/-- TIME_STATUS. -/
def timeStatusRun (_ : Cmd) (s : State) : Reply :=
  Reply.okWith (le 8 (nowNs s) ++ le 8 (s.time.ns / 1000000000 % 2 ^ 48) ++ le 4 (s.time.ns % 1000000000) ++ le 1 (rd s TIME_STAT_SEL) ++
    le 1 (rd s TIME_STAT_SYNC0 + 2 * rd s TIME_STAT_SYNC1 + 4 * rd s TIME_STAT_SLEWING) ++ zeros 2 ++ le 4 (rd s (TIME_OFF 0)) ++
    le 4 (rd s (TIME_OFF 1)) ++ le 8 (rd s (TIME_GM 0)) ++ le 8 (rd s (TIME_GM 1))) s

/-- The row of TIME_STATUS. -/
def timeStatusSpec : CmdSpec := CmdSpec.sync 0x0600 .rd [] (fun _ _ => true) timeStatusRun

/-- TIME_STATUS (R157). -/
def execTimeStatus (t : Take) (s : State) : Host.Outcome State Fault Refusal := .next (takeState timeStatusSpec t s)

/-! ## Comparators (R315, R316, R319) -/

/-- Resource of comparator c (R167). -/
def cmpRes (c : Nat) : Nat := 0x200 + c

/-- The use of a claimed comparator; none while it is not claimed (R169, R316). -/
def cmpUse (s : State) (c : Nat) : Option Nat := (claimOf s (cmpRes c)).map (fun k => k.use)

/-- The comparator is armed, in hardware or held by the TCS. -/
def cmpArmed (s : State) (c : Nat) : Bool := rdB s (TRIG_CMP_ARMED c)

/-- A comparator's period in ns. -/
def cmpPeriod (s : State) (c : Nat) : Nat := lookupD s.time.period c 0

/-- Arms a comparator: target, period, mode, fire count 0; a target more than 2 s ahead is held by the TCS (R315, R319). -/
def armCmp (c target period : Nat) (periodic : Bool) (s : State) : State :=
  let s := wr (wrB (wrB s (TRIG_CMP_ARMED c) true) (TRIG_CMP_PERIODIC c) periodic) (TRIG_CMP_FIRES c) 0
  let s := wrB (wr s (TRIG_TGT c) target) (TRIG_CMP_HELD_TCS c) (decide (nowNs s + 2000000000 < target))
  { s with time := { s.time with period := putD s.time.period c (if periodic then period else 0) 0, firedSince := s.time.firedSince.filter (· ≠ c),
                                  passed := s.time.passed.filter (· ≠ c) } }

/-- A comparator is no longer armed. -/
def disarmCmp (c : Nat) (s : State) : State :=
  let s := wrB (wrB (wrB s (TRIG_CMP_ARMED c) false) (TRIG_CMP_PERIODIC c) false) (TRIG_CMP_HELD_TCS c) false
  { s with time := { s.time with period := putD s.time.period c 0 0, passed := s.time.passed.filter (· ≠ c) } }

/-- The comparator's use acts in the line die (R318). -/
def lineUse (u : Option Nat) : Bool := decide (u = some 0x12 ∨ u = some 0x13)

/-- CMP_ARM (R157, R315, R318): held by the caller, a long enough period for the line die, a target at least 2 µs ahead. -/
def cmpArmRun (c : Cmd) (s : State) : Reply :=
  let n := c.u 0x08 1
  let periodic := bit (c.u 0x09 1) 0
  if holds s c.path (cmpRes n) = false then Reply.fail stWRONG_STATE s
  else if periodic ∧ lineUse (cmpUse s n) ∧ c.u 0x18 4 < 20000 then Reply.fail stBAD_ARG s
  else if c.u 0x10 8 < nowNs s + 2000 then Reply.fail stTOO_LATE s
  else Reply.ok (armCmp n (c.u 0x10 8) (c.u 0x18 4) periodic s)

/-- The row of CMP_ARM. A one-shot's period is not used. -/
def cmpArmSpec : CmdSpec := CmdSpec.sync 0x0602 .shared [(0x08, 2), (0x10, 12)]
  (fun _ c => decide (c.u 0x08 1 ≤ 31) && decide (c.u 0x09 1 ≤ 1) &&
    (decide (c.u 0x09 1 = 0) || decide (1000 ≤ c.u 0x18 4 ∧ c.u 0x18 4 ≤ 2147483647))) cmpArmRun

/-- CMP_ARM (R157, R315). -/
def execCmpArm (t : Take) (s : State) : Host.Outcome State Fault Refusal := .next (takeState cmpArmSpec t s)

/-- CMP_DISARM: reports whether the comparator has fired since arming (R157, R319). -/
def cmpDisarmRun (c : Cmd) (s : State) : Reply :=
  let n := c.u 0x08 1
  if holds s c.path (cmpRes n) = false then Reply.fail stWRONG_STATE s
  else Reply.okWith (le 1 (if s.time.firedSince.contains n then 1 else 0)) (disarmCmp n s)

/-- The row of CMP_DISARM. -/
def cmpDisarmSpec : CmdSpec := CmdSpec.sync 0x0603 .shared [(0x08, 1)] (fun _ c => decide (c.u 0x08 1 ≤ 31)) cmpDisarmRun

/-- CMP_DISARM (R157, R319). -/
def execCmpDisarm (t : Take) (s : State) : Host.Outcome State Fault Refusal := .next (takeState cmpDisarmSpec t s)

/-- CMP_HELD_ARM (R315): the target of a held comparator has come within 2 s; the hardware is armed. -/
def cmpHeldArm (c : Nat) (s : State) : State :=
  if cmpArmed s c && rdB s (TRIG_CMP_HELD_TCS c) && decide (rd s (TRIG_TGT c) ≤ nowNs s + 2000000000) then wrB s (TRIG_CMP_HELD_TCS c) false else s

/-- CMP_HELD_ARM of a comparator. -/
def execCmpHeldArm (c : Fin 32) (s : State) : Host.Outcome State Fault Refusal := .next (whenRun s (cmpHeldArm c.val))

/-- The comparator of a trigger output: the one claimed with use 0x01 + n (R316). -/
def trigCmp (s : State) (n : Nat) : Option Nat := (List.range 32).find? (fun c => decide (cmpUse s c = some (1 + n)))

/-- The two step ticks of R46 have passed since the ball was released: its new holder's function may take effect. -/
def ballReady (s : State) (b : Nat) : Bool := decide (rd s (NODE_BALL_WAIT b) = 0)

/-- TRIGn drives: its comparator claim, and for TRIG4 to TRIG7 its ball claim too (R46, R320). -/
def trigDrives (s : State) (n : Nat) : Bool :=
  (trigCmp s n).isSome &&
  (decide (n < 4) || ((claimOf s (0x100 + n)).isSome && ballReady s (n - 4)))

/-- TRIGn is asserted: driven, its output on, and not held inactive by ACTIVE_ONLY on a node that is neither active nor solo (R320). -/
def trigAsserted (s : State) (n : Nat) : Bool :=
  trigDrives s n && bit s.time.trig.toNat n && (!rdB s (TRIG_OUT_ACTIVE_ONLY n) || isActive s)

/-- Sets or clears the assertion of a trigger output. -/
def setTrig (n : Nat) (v : Bool) (s : State) : State :=
  { s with time := { s.time with trig := BitVec.ofNat 8 (if v then setBit s.time.trig.toNat n else clrBit s.time.trig.toNat n) } }

/-- A pulse in progress on the ball of a comparator ends at once (R319). -/
def endPulse (c : Nat) (s : State) : State :=
  match cmpUse s c with
  | none => s
  | some u =>
    if 1 ≤ u ∧ u ≤ 8 then
      let t := setTrig (u - 1) false s
      { t with time := { t.time with trigEnd := eraseK t.time.trigEnd (u - 1) } }
    else s

/-- An edge on TRIGn: a toggle, or a pulse that ends WIDTH ns later, at least 8; a fire during a pulse restarts it (R320). -/
def trigFire (n : Nat) (s : State) : State :=
  if rdB s (TRIG_OUT_TOGGLE n) then setTrig n (!bit s.time.trig.toNat n) s
  else
    let t := setTrig n true s
    { t with time := { t.time with trigEnd := insertK t.time.trigEnd n (nowNs s + max 8 (rd s (TRIG_OUT_WIDTH n))) } }

/-! ## Captures (R321, R322) -/

/-- A stamp in half nanoseconds. -/
def halfStamp (e : CapEdge) : Nat := 2 * e.stamp.toNat + if e.half then 1 else 0

/-- A selected edge of an input, as both twins show it: count, event, and a stamp or OVERRUN (R321). -/
def recordCapture (n : Nat) (e : CapEdge) (s : State) : State :=
  let first := decide (rd s (TRIG_CAP_CNT n) = 0 ∧ rd s (TRIG_CAP n) = 0)
  let last := rd s (TRIG_CAP n)
  let s := raise (inc s (TRIG_CAP_CNT n)) 0x031 (8 + n)
  if first || decide (20 ≤ (e.stamp.toNat + 2 ^ 64 - last) % 2 ^ 64) then
    wrB (wrB (wr s (TRIG_CAP n) e.stamp.toNat) (TRIG_CAP_FLG_RISING n) e.rising) (TRIG_CAP_FLG_HALF n) e.half
  else wrBit s TRIG_CAPSTAT_OVERRUN n true

/-- Two stamps of one input belong to the same edge: within 1 µs of each other (R322). -/
def sameEdge (a b : Nat × Nat) : Bool := decide (a.1 = b.1 ∧ a.2 ≤ b.2 + 2000 ∧ b.2 ≤ a.2 + 2000)

/-- A pair of stamps differs by more than 4 ns. -/
def stampsDiffer (a b : Nat × Nat) : Bool := decide (a.2 + 8 < b.2 ∨ b.2 + 8 < a.2)

/-- Takes the first element that satisfies c out of a list. -/
def takeFirst {α : Type} (c : α → Bool) (l : List α) : Option α × List α := (l.find? c, removeFirst c l)

/-- The shadow's own stamp of an edge: paired with a waiting journaled capture, or kept to be paired (R322). -/
def shadowStamp (n : Nat) (e : CapEdge) (s : State) : State :=
  let m := (n, halfStamp e)
  match takeFirst (sameEdge m) s.time.journalCaps with
  | (some j, rest) =>
    let t := { s with time := { s.time with journalCaps := rest } }
    if stampsDiffer m j then inc t TIME_CAPSKEW else t
  | (none, _) => { s with time := { s.time with shadowCaps := s.time.shadowCaps ++ [m] } }

/-- The shadow's pairing of a journaled capture (R322). -/
def journaledStamp (n : Nat) (e : CapEdge) (s : State) : State :=
  let m := (n, halfStamp e)
  match takeFirst (sameEdge m) s.time.shadowCaps with
  | (some j, rest) =>
    let t := { s with time := { s.time with shadowCaps := rest } }
    if stampsDiffer m j then inc t TIME_CAPSKEW else t
  | (none, _) => { s with time := { s.time with journalCaps := s.time.journalCaps ++ [m] } }

/-- After the block of tick k has been applied, the stamps of tick k − 2 and earlier that found no partner count once each (R322). -/
def expireStamps (tick : Nat) (s : State) : State :=
  let old (m : Nat × Nat) : Bool := decide (m.2 / 2000 + 2 ≤ tick)
  let n := (s.time.shadowCaps.filter old).length + (s.time.journalCaps.filter old).length
  incBy { s with time := { s.time with shadowCaps := s.time.shadowCaps.filter (fun m => !old m),
                                       journalCaps := s.time.journalCaps.filter (fun m => !old m) } } TIME_CAPSKEW n

/-- TRIG_CAPCFGn selects the edge: 1 rising, 2 falling, 3 both. -/
def edgeSelected (s : State) (n : Nat) (rising : Bool) : Bool := bit (rd s (TRIG_CAPCFG_EDGE n)) (if rising then 0 else 1)

/-- CAPTURE_EDGE (R321, R322): the active and the solo node record it, and a joined active puts it into its contribution; the shadow keeps its stamp. -/
def captureEdge (n : Fin 8) (e : CapEdge) (s : State) : State :=
  let s := wrBit s TRIG_CAPSTAT_LEVEL n.val e.rising
  if edgeSelected s n.val e.rising = false then s
  else if role s = 1 then shadowStamp n.val e s
  else
    let t := recordCapture n.val e s
    if role s = 0 then { t with twin := { t.twin with own := t.twin.own ++ [⟨5, .capture n e, true⟩] } } else t

/-- CAPTURE_EDGE on an input. -/
def execCaptureEdge (n : Fin 8) (e : CapEdge) (s : State) : Host.Outcome State Fault Refusal := .next (whenRun s (captureEdge n e))

/-- CAP_READ. -/
def capReadRun (c : Cmd) (s : State) : Reply :=
  let n := c.u 0x08 1
  Reply.okWith (le 8 (rd s (TRIG_CAP n)) ++
    le 1 (rd s (TRIG_CAP_FLG_HALF n) + 2 * rd s (TRIG_CAP_FLG_RISING n) + (if bit (rd s TRIG_CAPSTAT_OVERRUN) n then 4 else 0)) ++ zeros 3 ++
    le 4 (rd s (TRIG_CAP_CNT n))) s

/-- The row of CAP_READ. -/
def capReadSpec : CmdSpec := CmdSpec.sync 0x0604 .rd [(0x08, 1)] (fun _ c => decide (c.u 0x08 1 ≤ 7)) capReadRun

/-- CAP_READ (R157, R321). -/
def execCapRead (t : Take) (s : State) : Host.Outcome State Fault Refusal := .next (takeState capReadSpec t s)

/-! ## Link delay and skew (R306, R312) -/

/-- gPTP runs on a port: enabled in TIME_PORTEN and link up (R303). -/
def gptpOn (s : State) (p : Nat) : Bool := bit (rd s TIME_PORTEN) p && linkUp s p

/-- A mean link delay measured at the balls, referred to the media-dependent interface with the PHY's latencies (R305). T has no PHY. -/
def mdiDelay (s : State) (p delay : Nat) : Nat :=
  if p = 14 then delay else delay - (rd s (TIME_PHYLAT_EGRESS p) + rd s (TIME_PHYLAT_INGRESS p)) / 2

/-- PDELAY_EXCHANGE (R306): three good exchanges in a row make the delay VALID; one above TIME_DLYLIM is not asCapable and raises PDELAY_FAULT. -/
def pdelayExchange (p : Nat) (ok : Bool) (delay : Nat) (s : State) : State :=
  if gptpOn s p = false then s
  else
    let n := if ok then min 3 (lookupD s.time.pdelay p 0 + 1) else 0
    let s := { s with time := { s.time with pdelay := putD s.time.pdelay p n 0 } }
    if n < 3 then s
    else
      let d := mdiDelay s p delay
      let tooLong := decide (rd s TIME_DLYLIM * 10 < d)
      raiseIf tooLong 0x030 9 (wrB (wrB (wr s (TIME_LINKDLY p) d) (TIME_LINKDLY_VALID p) true) (TIME_LINKDLY_ASCAPABLE p) (!tooLong))

/-- PDELAY_EXCHANGE on a port. -/
def execPdelayExchange (p : Port) (ok : Bool) (delay : Fin 16777216) (s : State) : Host.Outcome State Fault Refusal :=
  .next (whenRun s (pdelayExchange p.val ok delay.val))

/-- TWIN_SKEW_MEASURE (R312): three measurements above 100 ns set TWIN_SKEW with its event and record; three of 50 ns or less clear it. -/
def twinSkew (diff : Int) (s : State) : State :=
  if joined s = false ∨ tUp s = false then s
  else
    let hi := if 100 < diff.natAbs then s.time.skewHi + 1 else 0
    let lo := if diff.natAbs ≤ 50 then s.time.skewLo + 1 else 0
    let s := { s with time := { s.time with skewHi := min hi 3, skewLo := min lo 3 } }
    if 3 ≤ hi ∧ rdB s TIME_STAT_TWIN_SKEW = false then raiseRec (wrB s TIME_STAT_TWIN_SKEW true) 0x030 8 0 none
    else if 3 ≤ lo then wrB s TIME_STAT_TWIN_SKEW false
    else s

/-- TWIN_SKEW_MEASURE. -/
def execTwinSkewMeasure (diff : Int) (s : State) : Host.Outcome State Fault Refusal := .next (whenRun s (twinSkew diff))

end Sys2Proof.Machine
end

