-- ==== Sys2Proof/Machine/MBusObj.lean ====
section
/-! DEFINITION. Message objects of the CAN channels, their areas in BAR2 and their requests (R351 to R358, R362 to R366, R374 to R377). -/

namespace Sys2Proof.Machine

/-! ## Channels and objects -/

/-- Page of a channel. -/
def mbusPage (m : Nat) : Nat := 0x040 + m

/-- A channel's state. -/
def mbusSt (s : State) (m : Nat) : MbusSt := lookupD s.mbus m MbusSt.init

/-- Sets a channel's state. -/
def setMbus (m : Nat) (v : MbusSt) (s : State) : State := { s with mbus := putD s.mbus m v MbusSt.init }

/-- The valid entry of object k. -/
def objAt (s : State) (m k : Nat) : Option CanObj := (mbusSt s m).objs.lookup k

/-- The run-time state of object k. -/
def objRun (s : State) (m k : Nat) : ObjRun := lookupD (mbusSt s m).run k ObjRun.init

/-- Sets the run-time state of object k. -/
def setObjRun (m k : Nat) (r : ObjRun) (s : State) : State :=
  setMbus m { mbusSt s m with run := putD (mbusSt s m).run k r ObjRun.init } s

/-- Start of object k's area (R356). -/
def objArea (m k : Nat) : Nat := 0x3800000 + m * 0x100000 + k * 0x1000

/-- The timing in force enables a format: 0 classical, 1 FD, 2 XL (R352, R353). -/
def fmtOn (s : State) (m fmt : Nat) : Bool :=
  let f := rd s (MBUS_TIMING m 3)
  decide (fmt = 0) || (decide (fmt = 1) && bit f 0) || (decide (fmt = 2) && bit f 1)

/-- The data length in force for an object: LENGTH of its last doorbell, or the entry's (R358). -/
def objLen (o : CanObj) (r : ObjRun) : Nat := if r.len = 0 then o.len else r.len

/-- The data in force for an object. -/
def objData (o : CanObj) (r : ObjRun) : List Byte := if o.rtr then [] else padTo (objLen o r) r.data

/-- The identifier, IDE and RTR that an object's request carries: TXID's where it applied (R364). -/
def objIdent (o : CanObj) (r : ObjRun) : Nat × Bool × Bool := r.txid.getD (o.ident, o.ide, o.rtr)

/-! ## Gating and transceivers (R365, R371, R375 to R377) -/

/-- The node may not drive a bus: shadow, fenced or JOIN_WAIT. -/
def roleGated (s : State) : Bool := decide (role s = 1) || isFenced s

/-- TX_GATED follows listen-only, the role and a takeover that waits for bus idle. -/
def syncGate (m : Nat) (s : State) : State :=
  wrB s (MBUS_STAT_TX_GATED m) ((mbusSt s m).listen || roleGated s || (mbusSt s m).gated)

/-- The transceiver state that a node applies: listen-only in place of normal where it may not drive (R376); standby once R18 is in force. -/
def appliedXcvr (s : State) (commanded : Nat) : Nat := if s.line.r18 then 2 else if roleGated s ∧ commanded = 0 then 1 else commanded

/-- XSTATE follows the commanded state. -/
def syncXcvr (m : Nat) (s : State) : State := wr s (SLEEP_BUSCTL_XSTATE m) (appliedXcvr s (mbusSt s m).commanded)

/-- The receiver is on: normal or listen-only (R375). -/
def xcvrRx (s : State) (m : Nat) : Bool := decide (rd s (SLEEP_BUSCTL_XSTATE m) ≤ 1)

/-- The transmitter is on: normal, not overheated, its supply good, its TXD not timed out (R372, R375). -/
def xcvrTx (s : State) (m : Nat) : Bool :=
  decide (rd s (SLEEP_BUSCTL_XSTATE m) = 0) && !rdB s (MBUS_STAT_THERMAL m) && !rdB s (MBUS_STAT_VCAN_LOW m) && !rdB s (MBUS_STAT_TXD_TMO m)

/-- The controller takes part in the bus: block ON or stopping, integrated, not bus-off, receiver on. -/
def onBus (s : State) (m : Nat) : Bool :=
  decide ((pageSt s (mbusPage m)).en = .on ∨ (pageSt s (mbusPage m)).en = .stopping) && rdB s (MBUS_STAT_SYNCED m) &&
  decide (rd s (MBUS_STAT_ERR_STATE m) ≠ 2) && xcvrRx s m

/-- The controller may send. -/
def canDrive (s : State) (m : Nat) : Bool := onBus s m && xcvrTx s m && !rdB s (MBUS_STAT_TX_GATED m) && !rdB s TWIN_STAT_LATE

/-- The wake-up frame of R388 leaves on a channel. -/
def sendWup (m : Nat) (s : State) : State := emit s (.wup m)

/-- A channel wakes (R377): the commanded state becomes normal and BUS_WAKE raises; a wake by this node sends the wake-up frame first where WUP_EN
is set and the node drives the bus. -/
def wakeChannel (m : Nat) (own : Bool) (s : State) : State :=
  if (mbusSt s m).commanded < 2 then s
  else
    let s := setMbus m { mbusSt s m with commanded := 0 } s
    let s := wrB (syncXcvr m s) (MBUS_STAT_SYNCED m) false
    let s := raise s 0x048 4
    if own && rdB s (SLEEP_BUSCTL_WUP_EN m) && isActive s then sendWup m s else s

/-! ## Requests (R358, R364, R367) -/

/-- Requests a transmission of a transmit object; a stopped object takes no new request (R368). -/
def txRequest (m k : Nat) (s : State) : State :=
  match objAt s m k with
  | none => s
  | some o =>
    if o.tx = false ∨ rdB s (MBW_O_STOPPED m k) then s
    else
      let b := mbusSt s m
      let n := if rdB s (MBW_O_TX_PEND m k) then (objRun s m k).req else b.reqNo + 1
      let s := setMbus m { b with reqNo := b.reqNo + 1 } s
      wrB (setObjRun m k { objRun s m k with req := n } s) (MBW_O_TX_PEND m k) true

/-- A request ends with a TX_RESULT (R374). -/
def endRequest (m k result : Nat) (s : State) : State :=
  let s := wr (wrB s (MBW_O_TX_PEND m k) false) (MBW_O_TX_RESULT m k) result
  setObjRun m k { objRun s m k with txid := none, sof := false, old := none, late := false } s

/-- The data of a transmit object is replaced, from a doorbell or a route. -/
def setObjData (m k : Nat) (d : List Byte) (s : State) : State := setObjRun m k { objRun s m k with data := d } s

/-! ## Areas (R356) -/

/-- What the header of an area or a queue entry holds of a frame. -/
structure AreaHdr where
  ident : Nat
  ide : Bool
  rtr : Bool
  len : Nat
  format : Nat
  lost : Bool
  brs : Bool
  esi : Bool
  half : Bool
  sec : Bool
  sofTs : Nat
  sofNs : Nat
  sdt : Nat
  vcid : Nat
  other : Nat
  af : Nat
  count : Nat
  lostN : Nat

/-- Header bytes 0x04 to 0x37 (R356). -/
def areaHeader (h : AreaHdr) : List Byte :=
  le 4 (h.ident + (if h.ide then 2 ^ 29 else 0) + (if h.rtr then 2 ^ 30 else 0)) ++ le 2 h.len ++ le 1 h.format ++
  le 1 (1 + (if h.lost then 2 else 0) + (if h.brs then 4 else 0) + (if h.esi then 8 else 0) + (if h.half then 32 else 0) + (if h.sec then 64 else 0)) ++
  le 4 h.sofTs ++ le 8 h.sofNs ++ le 1 h.sdt ++ le 1 h.vcid ++ le 2 h.other ++ le 4 h.af ++ le 4 h.count ++ le 4 h.lostN ++ zeros 16

/-- Writes a header and data at an area: UPD_BEGIN, content, CRC, UPD_END (R357). -/
def writeArea (base upd : Nat) (h : AreaHdr) (data : List Byte) (s : State) : State :=
  let body := areaHeader h
  bar2Write (bar2Write s base (le 4 upd ++ body ++ le 4 (crc32c (body ++ data)) ++ le 4 upd)) (base + 0x40) data

end Sys2Proof.Machine
end

