-- ==== Sys2Proof/Machine/Telegram.lean ====
section
/-! DEFINITION. The telegram engines: publications, subscriptions, slots, claims, routes, the TELEGRAM group (12_telegram_engine.md, R158). -/

namespace Sys2Proof.Machine

/-- The page of the telegram engines is ON (R349). -/
def tlgOn (s : State) : Bool := pageOn s 0x038

/-- A publication. -/
def pubAt (s : State) (n : Nat) : Option PubSt := s.tlg.pubs.lookup n
/-- Sets a publication. -/
def setPub (n : Nat) (p : PubSt) (s : State) : State := { s with tlg := { s.tlg with pubs := setKey s.tlg.pubs n p } }
/-- A subscription. -/
def subAt (s : State) (n : Nat) : Option SubSt := s.tlg.subs.lookup n
/-- Sets a subscription. -/
def setSub (n : Nat) (u : SubSt) (s : State) : State := { s with tlg := { s.tlg with subs := setKey s.tlg.subs n u } }

/-- TLG_LASTERR: kind and index (R349). -/
def tlgError (kind index : Nat) (s : State) : State := wr (wr s TLG_LASTERR_KIND kind) TLG_LASTERR_INDEX index

/-! ## Topography and the address map (R327, R329, R338, R339) -/

/-- etbTopoCnt of the node (R327): the first four bytes of the committed digest; in TTDP mode the counter of IEC 61375-2-5, not restated in the
manual (log entry 4). -/
def topoNow (s : State) : Nat :=
  if rd s CHURN_CTL_MODE = 1 then Config.etbTopo (rd s CHURN_COUNT) % 2 ^ 32 else beAt s.churn.digest 0 4

/-- The last commit was less than 10 ms ago (R338, R339). -/
def justCommitted (s : State) : Bool := decide (rd s CHURN_COUNT ≠ 0 ∧ nowNs s < s.churn.lastCommit + 10000000)

/-- Destination IPv4 and MAC address of a publication (R329); none where the map has no valid entry. -/
def pubDest (s : State) (p : PubSt) : Option (Nat × Nat) :=
  match p.kind with
  | 0 => some (p.dst, if p.dst / 2 ^ 28 = 0xE then mcastMac p.dst else p.mac.toNat)
  | 1 => (amapByCar s (p.dst % 65536)).map (fun e => (numIp e.car p.host, trainMac (p.host - 1) e.handle))
  | 2 => (amapByHandle s (p.dst % 65536)).map (fun e => (handleIp e.handle p.host, trainMac (p.host - 1) e.handle))
  | 3 => some (0xEFFF0001, mcastMac 0xEFFF0001)
  | 4 => some (0xEFFF0002, mcastMac 0xEFFF0002)
  | 5 => (amapByCar s (p.dst % 65536)).map (fun e => (0xEFFF0100 + e.car, mcastMac (0xEFFF0100 + e.car)))
  | _ => (amapByHandle s (p.dst % 65536)).map (fun e => (0xEFFE0000 + e.handle, mcastMac (0xEFFE0000 + e.handle)))

/-! ## Building a telegram (R326, R336, R345) -/

/-- Sum of big-endian 16-bit words. -/
def sum16 : List Byte → Nat
  | [] => 0
  | [a] => a.toNat * 256
  | a :: b :: t => a.toNat * 256 + b.toNat + sum16 t

/-- The Internet checksum: the complement of the one's complement sum. -/
def inetSum (l : List Byte) : Nat :=
  let a := sum16 l
  let b := a % 65536 + a / 65536
  let c := b % 65536 + b / 65536
  0xFFFF - c

/-- The dataset as sent: with SDT the last 16 bytes are the trailer, whose fields are those of IEC 61375-2-3 Annex B (log entry 18). -/
def pubDataset (s : State) (p : PubSt) (topo : Nat) : List Byte :=
  if p.sdt then
    let head := padTo (p.len - 16) p.data ++ zeros 6 ++ be 2 p.udv ++ be 4 p.ssc
    head ++ be 4 (Config.sdtCode p.smi p.udv (ownUid s).toNat topo head)
  else padTo p.len p.data

/-- The process-data header (R326). -/
def pdHeader (s : State) (p : PubSt) (topo : Nat) : List Byte :=
  let h := be 4 p.seq ++ be 2 0x0100 ++ be 2 0x5064 ++ be 4 p.comId ++ be 4 topo ++ be 4 0 ++ be 4 p.len ++
    be 4 (if p.gen then carriedGen s else 0) ++ be 4 0 ++ be 4 0
  h ++ be 4 (Config.trdpFcs h)

/-- VID of a publication. -/
def pubVid (s : State) (p : PubSt) : Nat := if p.vid = 0 then mgmtVid s else p.vid

/-- The whole telegram: Ethernet header with one tag, R-TAG, IPv4, UDP, process data (R326). -/
def pubBytes (s : State) (p : PubSt) (own : AmapEntry) (ip mac : Nat) (rtag : Option Nat) : List Byte :=
  let topo := if p.topo then topoNow s else 0
  let body := pdHeader s p topo ++ pubDataset s p topo
  let src := if p.srcHandle then handleIp own.handle 3 else numIp own.car 3
  let ipHead (sum : Nat) := be 1 0x45 ++ be 1 (p.pcp * 32) ++ be 2 (28 + body.length) ++ be 2 0 ++ be 2 0x4000 ++ be 1 64 ++ be 1 17 ++
    be 2 sum ++ be 4 src ++ be 4 ip
  let udpHead (sum : Nat) := be 2 17224 ++ be 2 17224 ++ be 2 (8 + body.length) ++ be 2 sum
  let pseudo := be 4 src ++ be 4 ip ++ be 2 17 ++ be 2 (8 + body.length)
  let u := inetSum (pseudo ++ udpHead 0 ++ body)
  macBytes mac ++ macBytes (trainMac 2 own.handle) ++ be 2 0x8100 ++ be 2 (p.pcp * 8192 + pubVid s p) ++ rtagBytes rtag ++ be 2 0x0800 ++
    ipHead (inetSum (ipHead 0)) ++ udpHead (if u = 0 then 0xFFFF else u) ++ body

/-- Forwarding of a telegram (R330): steps 2, 3 and 6 of R207, never T, queues by PCP. -/
def forwardTelegram (bytes : List Byte) (s : State) : State :=
  let f := parseFrame bytes 1 0
  let l := lookupMask s f
  let s := if l.2.2 then inc s FDB_MISS else s
  let s := if bit l.1 15 then hqDeliver l.2.1 16 true bytes s else s
  let mask := clrBit (clrBit l.1 14) 15
  let ports := (portsOf mask 14).filter (linkUp s)
  if ports.isEmpty then s
  else if admits s ports (pcpClass s f.pcp) false bytes.length then queueMask mask (pcpClass s f.pcp) false f f 16 s
  else raise s 0x020 1

/-! ## Releases (R330, R332, R335, R336) -/

/-- Key of an R-TAG counter: destination MAC and VID. -/
def rtagKey (mac vid : Nat) : Nat := mac * 4096 + vid

/-- Sends one publication: resolved addresses, counters, R-TAG counter, sequence numbers. -/
def sendPub (n : Nat) (p : PubSt) (s : State) : State :=
  match pubDest s p, ownEntry s with
  | some (ip, mac), some own =>
    let key := rtagKey mac (pubVid s p)
    let r := lookupD s.tlg.rtags key 0
    let bytes := pubBytes s p own ip mac (if p.rtag then some r else none)
    let s := if p.rtag then { s with tlg := { s.tlg with rtags := setKey s.tlg.rtags key ((r + 1) % 65536) } } else s
    let s := setPub n { p with seq := (p.seq + 1) % 2 ^ 32, ssc := if p.sdt then (p.ssc + 1) % 2 ^ 32 else p.ssc, lastSend := some (nowNs s),
                               sent := p.sent + 1 } s
    forwardTelegram bytes (inc s (TLG_CNT 0))
  | _, _ => tlgError 6 n (raise (inc s (TLG_CNT 2)) 0x038 6)

/-- A release of an enabled publication. -/
def releasePub (n : Nat) (s : State) : State :=
  match pubAt s n with
  | none => s
  | some p =>
    if p.enabled = false ∨ tlgOn s = false then s
    else if p.fires + 1 < p.divider then setPub n { p with fires := p.fires + 1 } s
    else
      let p := { p with fires := 0 }
      let s := setPub n p s
      if p.control ∧ isFenced s then inc s (TLG_CNT 3)
      else if p.control ∧ rdB s TWIN_STAT_LATE then s
      else if (match p.lastSend with | none => false | some t => decide (nowNs s < t + 125000)) then
        tlgError 5 n (raise (inc s (TLG_CNT 1)) 0x038 5)
      else sendPub n p s

/-- A fire of use 0x11: every enabled publication that names the comparator, in ascending order of index (R317, R331). -/
def releaseFire (c : Nat) (s : State) : State :=
  forEach ((s.tlg.pubs.filter (fun p => decide (p.2.cmp = c))).map (fun p => p.1)) releasePub s

/-- The release of a comparator invalidates the publications that name it (R332). -/
def pubsLost (c : Nat) (s : State) : State :=
  if s.tlg.pubs.any (fun p => decide (p.2.cmp = c)) then
    raise { s with tlg := { s.tlg with pubs := s.tlg.pubs.filter (fun p => decide (p.2.cmp ≠ c)) } } 0x038 7
  else s

/-! ## Datasets (R333, R334) -/

/-- Area of publication p in BAR2. -/
def pubArea (n : Nat) : Nat := 0x3200000 + n * 0x600

/-- Bytes of a publication's dataset that the host writes. -/
def pubHostLen (p : PubSt) : Nat := if p.sdt then p.len - 16 else p.len

/-- A publication takes a dataset (R333). -/
def takePubData (n : Nat) (d : List Byte) (s : State) : State :=
  let s := wrB (wr s TLG_PUBDB n) TLG_PUBDB_CHK_ERR false
  match pubAt s n with
  | none => s
  | some p => setPub n { p with data := padTo (pubHostLen p) d } s

/-- A doorbell whose check fails: the previous dataset stays (R334). -/
def pubCheckFails (n : Nat) (s : State) : State :=
  tlgError 8 n (raise (inc (wrB (wr s TLG_PUBDB n) TLG_PUBDB_CHK_ERR true) (TLG_CNT 14)) 0x038 9)

/-- The doorbell of TLG_PUBDB. -/
def pubDoorbell (v : Nat) (good : Bool) (s : State) : State :=
  let n := v % 2048
  if good then takePubData n (bar2Read s (pubArea n) (match pubAt s n with | none => 0 | some p => pubHostLen p)) s else pubCheckFails n s

/-! ## Routes (R347, R348) -/

/-- Bit b of bytes, most significant first in each byte. -/
def msbBit (l : List Byte) (b : Nat) : Bool := bit (leAt l (b / 8) 1) (7 - b % 8)

/-- Bytes with bit b set to a value. -/
def setMsb (l : List Byte) (b : Nat) (v : Bool) : List Byte :=
  l.set (b / 8) (BitVec.ofNat 8 (if v then setBit (leAt l (b / 8) 1) (7 - b % 8) else clrBit (leAt l (b / 8) 1) (7 - b % 8)))

/-- Copies n bits from one byte string to another. -/
def copyField (src : List Byte) (so dO n : Nat) (dst : List Byte) : List Byte :=
  (List.range n).foldl (fun d i => setMsb d (dO + i) (msbBit src (so + i))) dst

/-- Copies the fields of a route: the copy, how many were in range, how many not. -/
def copyFields (fields : List (Nat × Nat × Nat)) (src dst : List Byte) : List Byte × Nat × Nat :=
  fields.foldl (fun a f =>
    if f.1 + f.2.2 ≤ 8 * src.length ∧ f.2.1 + f.2.2 ≤ 8 * a.1.length then (copyField src f.1 f.2.1 f.2.2 a.1, a.2.1 + 1, a.2.2)
    else (a.1, a.2.1, a.2.2 + 1)) (dst, 0, 0)

/-- Counts and events of a route's copies (R348). -/
def routeCounts (n ok bad : Nat) (s : State) : State :=
  let s := incBy s (TLG_CNT 15) ok
  if bad = 0 then s else tlgError 9 n (raise (incBy s (TLG_CNT 16) bad) 0x038 8)

/-- One route from a slot to an object. -/
def routeToObject (n : Nat) (r : Route) (valid : Bool) (d : List Byte) (s : State) : State :=
  if r.requireValid ∧ valid = false then s
  else match objAt s r.channel r.object with
  | none => routeCounts n 0 r.fields.length s
  | some o =>
    let u := objRun s r.channel r.object
    let c := copyFields r.fields d (padTo (objLen o u) u.data)
    let s := routeCounts n c.2.1 c.2.2 (setObjData r.channel r.object c.1 s)
    if r.txOnUpdate then txRequest r.channel r.object s else s

/-- The routes of a subscription, in ascending index, at each slot written. -/
def routesOut (sub : Nat) (valid : Bool) (d : List Byte) (s : State) : State :=
  forEach (s.tlg.routes.filter (fun r => !r.2.dir && decide (r.2.index = sub))) (fun r t => routeToObject r.1 r.2 valid d t) s

/-- One route from an object to a publication. -/
def routeToPub (n : Nat) (r : Route) (d : List Byte) (s : State) : State :=
  match pubAt s r.index with
  | none => routeCounts n 0 r.fields.length s
  | some p =>
    let c := copyFields r.fields d (padTo p.len p.data)
    routeCounts n c.2.1 c.2.2 (setPub r.index { p with data := c.1 } s)

/-- The routes of an object, in ascending index, at each reception into it. -/
def routesIn (m k : Nat) (d : List Byte) (s : State) : State :=
  forEach (s.tlg.routes.filter (fun r => r.2.dir && decide (r.2.channel = m ∧ r.2.object = k))) (fun r t => routeToPub r.1 r.2 d t) s

/-! ## Slots (R341 to R343) -/

/-- Slot s of subscription n in BAR2. -/
def slotBase (n k : Nat) : Nat := 0x2000000 + (n * 3 + k) * 0x600

/-- The slot the next write takes: the lowest that is neither newest nor claimed. -/
def freeSlot (u : SubSt) : Nat :=
  (([0, 1, 2] : List Nat).find? (fun k => decide (u.newest ≠ some k ∧ u.claimed ≠ some k))).getD 0

/-- Header bytes 0x00 to 0x3B of a slot. -/
def slotHeader (seq len flags port ns src dst topo ssc res accepts : Nat) : List Byte :=
  le 4 seq ++ le 2 len ++ le 1 flags ++ le 1 port ++ le 8 ns ++ le 4 src ++ le 4 dst ++ le 4 topo ++ le 4 ssc ++ le 4 res ++ le 4 accepts ++ zeros 20

/-- Writes a slot and makes it newest; a claim then shows NEW. -/
def writeSlot (n : Nat) (u : SubSt) (seq flags : Nat) (head d : List Byte) (s : State) : State :=
  let k := freeSlot u
  let s := bar2Write (bar2Write s (slotBase n k) (head ++ le 4 (crc32c (head ++ d)))) (slotBase n k + 0x40) d
  let s := setSub n { u with newest := some k, newer := u.claimed.isSome, slots := setKey u.slots k (seq, flags) } s
  routesOut n (bit flags 0) d s

/-- The dataset of an invalid slot: that of the last valid slot, or zeros with ZEROED (R342). -/
def invalidData (u : SubSt) : List Byte × Nat := if u.zero then (zeros u.lastValid.length, 32) else (u.lastValid, 0)

/-- An invalid slot for a received telegram with the flag of its cause. -/
def writeInvalid (n : Nat) (u : SubSt) (t : Telegram) (flag : Nat) (s : State) : State :=
  let d := invalidData u
  let flags := flag + d.2
  writeSlot n u t.seq.toNat flags (slotHeader t.seq.toNat d.1.length flags t.port.val (nowNs s) t.srcIp.toNat t.dstIp.toNat t.etbTopo.toNat
    (if u.sdt then t.ssc.toNat else 0) t.reserved01.toNat u.accepts) d.1 s

/-- An accepted telegram in its slot: timer, counts, RXe, and the false-wake timer stops (R338, R344, R390). -/
def acceptTelegram (e n : Nat) (u : SubSt) (t : Telegram) (s : State) : State :=
  let d := padTo t.datasetLen t.dataset
  let u := { u with accepts := (u.accepts + 1) % 2 ^ 32, lastSeq := some t.seq.toNat, lastValid := d, lastAt := nowNs s, running := true }
  let s := writeSlot n u t.seq.toNat 1 (slotHeader t.seq.toNat d.length 1 t.port.val (nowNs s) t.srcIp.toNat t.dstIp.toNat t.etbTopo.toNat
    (if u.sdt then t.ssc.toNat else 0) t.reserved01.toNat u.accepts) d s
  raiseIf u.event 0x038 (10 + e) (inc (answerWake s) (TLG_CNT 4))

/-! ## Reception (R338 to R340) -/

/-- A map gives an address for a subscription's source (R338). -/
def mapSource (m : List AmapEntry) (u : SubSt) (ip : Nat) : Bool :=
  if u.srcKind = 2 then m.any (fun e => decide (e.car = u.src % 65536 ∧ ip = numIp e.car u.srcHost))
  else m.any (fun e => decide (e.handle = u.src % 65536 ∧ ip = handleIp e.handle u.srcHost))

/-- The subscription matches the telegram's source. -/
def sourceMatches (s : State) (u : SubSt) (ip : Nat) : Bool :=
  match u.srcKind with
  | 0 => true
  | 1 => decide (u.src = ip)
  | _ => mapSource s.fwd.bank0.amap u ip || (justCommitted s && mapSource s.fwd.prevAmap u ip)

/-- The subscription matches a telegram on an engine. -/
def subMatches (s : State) (e : Nat) (t : Telegram) (u : SubSt) : Bool :=
  u.enabled && decide (u.engine = e) && decide (u.comId = t.comId.toNat) && (decide (u.dstKind = 0) || decide (u.dst = t.dstIp.toNat)) &&
  sourceMatches s u t.srcIp.toNat

/-- The car of a source address in the committed curd. -/
def carOfIp (s : State) (ip : Nat) : Option AmapEntry :=
  if 0x0A800000 ≤ ip ∧ ip < 0x0B000000 then amapByCar s ((ip - 0x0A800000) / 0x20000 + 1)
  else if 0x0A000000 ≤ ip ∧ ip < 0x0A800000 then amapByHandle s ((ip - 0x0A000000) / 0x80)
  else none

/-- The check of etbTopoCnt (R339). -/
def topoPasses (s : State) (v : Nat) : Bool := decide (v = 0) || decide (v = topoNow s) || (justCommitted s && decide (v = s.tlg.prevTopo))

/-- The check of reserved01 (R339). -/
def genPasses (s : State) (t : Telegram) : Bool := match carOfIp s t.srcIp.toNat with | none => false | some e => decide (e.gen = t.reserved01.toNat)

/-- A repeat: the signed difference to the last accepted sequence lies between −16 and 0 (R340). -/
def isRepeat (u : SubSt) (seq : Nat) : Bool :=
  match u.lastSeq with
  | none => false
  | some l => decide ((l + 2 ^ 32 - seq) % 2 ^ 32 ≤ 16)

/-- The checks of a matched subscription, in the order of R338. -/
def decideSub (e n : Nat) (u : SubSt) (t : Telegram) (s : State) : State :=
  if u.len ≠ 0 ∧ u.len ≠ t.datasetLen then writeInvalid n u t 8 (tlgError 7 n (inc s (TLG_CNT 12)))
  else if u.topo ∧ topoPasses s t.etbTopo.toNat = false then tlgError 4 n (raise (inc s (TLG_CNT 9)) 0x038 3)
  else if u.gen ∧ genPasses s t = false then tlgError 3 n (raise (inc s (TLG_CNT 10)) 0x038 2)
  else if u.sdt ∧ t.sdtGood = false then
    writeInvalid n { u with sdtFails := u.sdtFails + 1 } t 4 (tlgError 2 n (raise (inc s (TLG_CNT 11)) 0x038 1))
  else if isRepeat u t.seq.toNat then inc s (TLG_CNT 5)
  else if t.innerGood = false then writeInvalid n u t 16 (tlgError 8 n (raise (inc (inc s (TLG_CNT 14)) (NODE_OVERLAP 5)) 0x038 9))
  else acceptTelegram e n u t s

/-- A telegram decided on an engine (R338). -/
def decideTelegram (e : Nat) (t : Telegram) (s : State) : State :=
  if tlgOn s = false then inc s (TLG_CNT 17)
  else if t.msgType ≠ 0x5064 ∨ t.version.toNat / 256 ≠ 1 then inc s (TLG_CNT 6)
  else if t.hdrGood = false ∨ 1432 < t.datasetLen ∨ t.udpLen ≠ 48 + t.datasetLen then inc s (TLG_CNT 7)
  else match s.tlg.subs.find? (fun u => subMatches s e t u.2) with
  | none => raise (inc s (TLG_CNT 8)) 0x038 4
  | some (n, u) => decideSub e n u t s

/-- TELEGRAM_RX: decided here, and passed to the partner in the contribution of a joined node (R340, R421). -/
def telegramRx (e : Fin 4) (t : Telegram) (s : State) : State :=
  let u := decideTelegram e.val t s
  if joined s then { u with twin := { u.twin with own := u.twin.own ++ [⟨5, .telegram e t, true⟩] } } else u

/-- TELEGRAM_RX on an engine. -/
def execTelegramRx (e : Fin 4) (t : Telegram) (s : State) : Host.Outcome State Fault Refusal := .next (whenRun s (telegramRx e t))

/-- SUBSCRIPTION_TIMEOUT (R344): an invalid slot with TIMEOUT. No telegram stands behind it, so the header fields that describe one are free
values (log entry 5). -/
def subTimeout (n : Nat) (s : State) : State :=
  match subAt s n with
  | none => s
  | some u =>
    if u.enabled = false ∨ u.timeout = 0 ∨ u.running = false ∨ tlgOn s = false then s
    else
      let d := invalidData u
      let v := Config.freeNat s.free
      let flags := 2 + d.2
      let u := { u with running := false, timeouts := u.timeouts + 1 }
      let s := tlgError 1 n (raise (inc (nextFree s) (TLG_CNT 13)) 0x038 0)
      writeSlot n u (v % 2 ^ 32) flags (slotHeader v d.1.length flags (v / 2 ^ 32) (v / 2 ^ 40) (v / 2 ^ 104) (v / 2 ^ 136) (v / 2 ^ 168)
        (v / 2 ^ 200) (v / 2 ^ 232) u.accepts) d.1 s

/-- SUBSCRIPTION_TIMEOUT of a subscription. -/
def execSubscriptionTimeout (n : Fin 4096) (s : State) : Host.Outcome State Fault Refusal := .next (whenRun s (subTimeout n.val))

/-- A write of CLAIM (R343): 1 pins the newest slot for the car node, 0 releases it. A subscription that was never set has nothing to claim. -/
def claimSlot (n : Nat) (claim twin : Bool) (s : State) : State :=
  match subAt s n with
  | none => s
  | some u =>
    if claim then setSub n { u with claimed := some (u.newest.getD 3), claimTwin := twin, newer := false } s
    else setSub n { u with claimed := none, claimTwin := false, newer := false } s

/-! ## TELEGRAM group (R158) -/

/-- A publication entry from its 48 bytes; sequence numbers 0, disabled (R328). -/
def parsePub (d : List Byte) : PubSt :=
  let b := leAt d 0 1
  { sdt := bit b 0, rtag := bit b 1, gen := bit b 2, control := bit b 3, topo := bit b 4, srcHandle := bit b 5, engine := leAt d 1 1,
    cmp := leAt d 2 1, kind := leAt d 3 1, comId := leAt d 4 4, dst := leAt d 8 4, host := leAt d 0xC 2, len := leAt d 0xE 2,
    mac := BitVec.ofNat 48 (beAt d 0x10 6), divider := max 1 (leAt d 0x16 2), vid := leAt d 0x18 2, pcp := leAt d 0x1A 1, smi := leAt d 0x1C 4,
    udv := leAt d 0x20 2, enabled := false, data := [], seq := 0, ssc := 0, fires := 0, lastSend := none, sent := 0 }

/-- A publication entry's bytes are in range (R328). -/
def pubOk (d : List Byte) : Bool :=
  let k := leAt d 3 1
  decide (leAt d 0 1 < 64) && decide (leAt d 1 1 ≤ 3) && decide (leAt d 2 1 ≤ 0x1F) && decide (k ≤ 6) &&
  decide (k = 0 ∨ (k = 1 ∨ k = 2 ∨ k = 5 ∨ k = 6) ∧ leAt d 0xA 2 = 0 ∨ leAt d 8 4 = 0) &&
  (decide (k = 1 ∨ k = 2) && decide (1 ≤ leAt d 0xC 2 ∧ leAt d 0xC 2 ≤ 3) || decide (¬ (k = 1 ∨ k = 2)) && decide (leAt d 0xC 2 = 0)) &&
  decide (leAt d 0xE 2 ≤ 1432) && decide (bit (leAt d 0 1) 0 = false ∨ 16 ≤ leAt d 0xE 2) && decide (leAt d 0x18 2 ≤ 4095) &&
  decide (leAt d 0x1A 1 ≤ 7) && decide (leAt d 0x1B 1 = 0) && decide (leAt d 0x22 14 = 0)

/-- The caller holds comparator c with a use. -/
def holdsCmp (s : State) (p : CmdPath) (c use : Nat) : Bool := holds s p (cmpRes c) && decide (cmpUse s c = some use)

/-- PUB_SET. -/
def pubSetRun (c : Cmd) (s : State) : Reply :=
  let p := parsePub (slice c.desc 0x0C 48)
  if holdsCmp s c.path p.cmp 0x11 then Reply.ok (setPub (c.u 0x08 2) p s) else Reply.fail stWRONG_STATE s

/-- The row of PUB_SET. -/
def pubSetSpec : CmdSpec := CmdSpec.sync 0x0700 .shared [(0x08, 2), (0x0C, 48)]
  (fun _ c => decide (c.u 0x08 2 ≤ 2047) && pubOk (slice c.desc 0x0C 48)) pubSetRun

/-- PUB_SET (R158, R328). -/
def execPubSet (t : Take) (s : State) : Host.Outcome State Fault Refusal := .next (takeState pubSetSpec t s)

/-- A subscription entry from its 48 bytes; disabled, its slots empty (R337). -/
def parseSub (d : List Byte) : SubSt :=
  let b := leAt d 0 1
  { sdt := bit b 0, gen := bit b 1, topo := bit b 2, zero := bit b 3, event := bit b 4, engine := leAt d 1 1, srcKind := leAt d 2 1,
    dstKind := leAt d 3 1, comId := leAt d 4 4, src := leAt d 8 4, srcHost := leAt d 0xC 2, len := leAt d 0xE 2, dst := leAt d 0x10 4,
    timeout := leAt d 0x14 4, smi := leAt d 0x18 4, udv := leAt d 0x1C 2, enabled := false, newest := none, claimed := none, claimTwin := false,
    newer := false, slots := [], lastValid := [], lastSeq := none, accepts := 0, timeouts := 0, sdtFails := 0, lastAt := 0, running := false }

/-- A subscription entry's bytes are in range (R337). -/
def subOk (d : List Byte) : Bool :=
  decide (leAt d 0 1 < 32) && decide (leAt d 1 1 ≤ 3) && decide (leAt d 2 1 ≤ 3) && decide (leAt d 3 1 ≤ 1) && decide (leAt d 0xE 2 ≤ 1432) &&
  decide (leAt d 0x14 4 = 0 ∨ 125 ≤ leAt d 0x14 4) && decide (leAt d 0x1E 18 = 0)

/-- The row of SUB_SET. -/
def subSetSpec : CmdSpec := CmdSpec.sync 0x0701 .shared [(0x08, 2), (0x0C, 48)]
  (fun _ c => decide (c.u 0x08 2 ≤ 4095) && subOk (slice c.desc 0x0C 48))
  (fun c s => Reply.ok (setSub (c.u 0x08 2) (parseSub (slice c.desc 0x0C 48)) s))

/-- SUB_SET (R158, R337). -/
def execSubSet (t : Take) (s : State) : Host.Outcome State Fault Refusal := .next (takeState subSetSpec t s)

/-- TLG_ENABLE: an entry never set is refused; enabling a subscription restarts its timer (R344). -/
def tlgEnableRun (c : Cmd) (s : State) : Reply :=
  let n := c.u 0x0A 2
  let on := decide (c.u 0x0C 1 = 1)
  if c.u 0x08 1 = 0 then
    match pubAt s n with
    | none => Reply.fail stWRONG_STATE s
    | some p => Reply.ok (setPub n { p with enabled := on } s)
  else
    match subAt s n with
    | none => Reply.fail stWRONG_STATE s
    | some u => Reply.ok (setSub n { u with enabled := on, running := on, lastAt := if on then nowNs s else u.lastAt } s)

/-- The row of TLG_ENABLE. -/
def tlgEnableSpec : CmdSpec := CmdSpec.sync 0x0702 .shared [(0x08, 1), (0x0A, 3)]
  (fun _ c => decide (c.u 0x08 1 ≤ 1) && decide (c.u 0x0A 2 ≤ if c.u 0x08 1 = 0 then 2047 else 4095) && decide (c.u 0x0C 1 ≤ 1)) tlgEnableRun

/-- TLG_ENABLE (R158). -/
def execTlgEnable (t : Take) (s : State) : Host.Outcome State Fault Refusal := .next (takeState tlgEnableSpec t s)

/-- A route from its 48 bytes (R347). -/
def parseRoute (d : List Byte) : Route :=
  let b := leAt d 0 1
  { dir := bit b 1, txOnUpdate := bit b 2, requireValid := bit b 3, channel := leAt d 1 1, object := leAt d 2 2, index := leAt d 4 2,
    fields := (List.range (leAt d 6 1)).map (fun f => (leAt d (8 + 5 * f) 2, leAt d (10 + 5 * f) 2, leAt d (12 + 5 * f) 1)) }

/-- A route's bytes are in range (R347). -/
def routeOk (d : List Byte) : Bool :=
  let r := parseRoute d
  decide (leAt d 0 1 < 16) && decide (r.channel ≤ 3) && decide (r.object ≤ 255) && decide (r.index ≤ if r.dir then 2047 else 4095) &&
  decide (1 ≤ leAt d 6 1 ∧ leAt d 6 1 ≤ 8) && decide (leAt d 7 1 = 0) && r.fields.all (fun f => decide (1 ≤ f.2.2 ∧ f.2.2 ≤ 64)) &&
  decide (leAt d (8 + 5 * leAt d 6 1) (40 - 5 * leAt d 6 1) = 0)

/-- ROUTE_SET: at most 2,048 field copies in all valid routes. -/
def routeSetRun (c : Cmd) (s : State) : Reply :=
  let n := c.u 0x08 2
  let d := slice c.desc 0x0C 48
  let r := parseRoute d
  let rest := eraseK s.tlg.routes n
  if bit (leAt d 0 1) 0 then
    if 2048 < rest.foldl (fun a x => a + x.2.fields.length) r.fields.length then Reply.fail stNO_RESOURCE s
    else Reply.ok { s with tlg := { s.tlg with routes := setKey s.tlg.routes n r } }
  else Reply.ok { s with tlg := { s.tlg with routes := rest } }

/-- The row of ROUTE_SET. -/
def routeSetSpec : CmdSpec := CmdSpec.sync 0x0703 .shared [(0x08, 2), (0x0C, 48)]
  (fun _ c => decide (c.u 0x08 2 ≤ 511) && routeOk (slice c.desc 0x0C 48)) routeSetRun

/-- ROUTE_SET (R158, R347). -/
def execRouteSet (t : Take) (s : State) : Host.Outcome State Fault Refusal := .next (takeState routeSetSpec t s)

/-- TLG_STATUS; the dataset of a publication is valid once a doorbell or a route has written it, that of a subscription while its newest slot is. -/
def tlgStatusRun (c : Cmd) (s : State) : Reply :=
  let n := c.u 0x0A 2
  if c.u 0x08 1 = 0 then
    match pubAt s n with
    | none => Reply.okWith [] s
    | some p => Reply.okWith (le 4 p.sent ++ le 8 0 ++ le 1 (if p.data.isEmpty then 0 else 1) ++ zeros 3 ++ le 8 (p.lastSend.getD 0)) s
  else
    match subAt s n with
    | none => Reply.okWith [] s
    | some u =>
      let v := match u.newest with | none => false | some k => bit ((u.slots.lookup k).getD (0, 0)).2 0
      Reply.okWith (le 4 u.accepts ++ le 4 u.timeouts ++ le 4 u.sdtFails ++ le 1 (if v then 1 else 0) ++ zeros 3 ++ le 8 u.lastAt) s

/-- The row of TLG_STATUS. -/
def tlgStatusSpec : CmdSpec := CmdSpec.sync 0x0704 .rd [(0x08, 1), (0x0A, 2)]
  (fun _ c => decide (c.u 0x08 1 ≤ 1) && decide (c.u 0x0A 2 ≤ if c.u 0x08 1 = 0 then 2047 else 4095)) tlgStatusRun

/-- TLG_STATUS (R158). -/
def execTlgStatus (t : Take) (s : State) : Host.Outcome State Fault Refusal := .next (takeState tlgStatusSpec t s)

end Sys2Proof.Machine
end

