-- ==== Sys2Proof/Machine/MBus.lean ====
section
/-! DEFINITION. The CAN channels: reception, transmission, schedule, error confinement, faults and the MSGBUS group (13_message_bus.md, R159, R160).
What happens on a bus between the node's frames is seen only through the commands of the table. -/

namespace Sys2Proof.Machine

/-! ## Reception (R357, R359, R360, R370) -/

/-- XL counts as IDE 0. -/
def frameIde (f : CanFrame) : Bool := f.ide && decide (f.format.val ≠ 2)

/-- Object k takes the frame: a receive object with its identifier, IDE and format; a remote frame only with RTR (R357). -/
def rxTakes (o : CanObj) (f : CanFrame) : Bool :=
  !o.tx && decide (o.ident = f.ident.toNat ∧ o.format = f.format.val) && (o.ide == frameIde f) && (!f.rtr || o.rtr)

/-- The receive object of a frame. -/
def rxObject (s : State) (m : Nat) (f : CanFrame) : Option (Nat × CanObj) := (mbusSt s m).objs.find? (fun e => rxTakes e.2 f)

/-- Filter n matches a frame (R359). -/
def filterMatches (s : State) (m n : Nat) (f : CanFrame) : Bool :=
  rdB s (MBUS_QFID_VALID m n) && (rdB s (MBUS_QFID_IDE m n) == frameIde f) &&
  decide (rd s (MBUS_QFMASK_FORMAT m n) = 3 ∨ rd s (MBUS_QFMASK_FORMAT m n) = f.format.val) &&
  decide ((f.ident.toNat ^^^ rd s (MBUS_QFID m n)) &&& rd s (MBUS_QFMASK m n) = 0)

/-- The queues whose filters match. -/
def filterQueues (s : State) (m : Nat) (f : CanFrame) : List Nat := [0, 1, 2, 3].filter (fun q => [0, 1, 2, 3].any (fun k => filterMatches s m (4 * q + k) f))

/-- Header of an area for a received frame. -/
def rxHeader (f : CanFrame) (lost : Bool) (other count lostN : Nat) : AreaHdr :=
  { ident := f.ident.toNat, ide := frameIde f, rtr := f.rtr, len := if f.rtr then f.dlc else f.data.length, format := f.format.val, lost := lost,
    brs := f.brs, esi := f.esi, half := f.half, sec := f.sec, sofTs := f.sofTs.toNat, sofNs := f.sofNs.toNat, sdt := f.sdt.toNat, vcid := f.vcid.toNat,
    other := other, af := f.af.toNat, count := count, lostN := lostN }

/-- Writes a frame into a queue, or counts it where the queue is full (R359, R360). -/
def queueCan (m q other : Nat) (f : CanFrame) (s : State) : State :=
  let tail := rd s (MBUS_QTAIL m q)
  if (tail + 128 - rd s (MBUS_QHEAD m q)) % 128 = 64 then raise (inc s (MBUS_CNT m 4)) (mbusPage m) 7
  else
    let base := objArea m (64 * q + tail % 64) + 0x840
    let upd := (leAt (bar2Read s base 4) 0 4 + 1) % 2 ^ 32
    let s := writeArea base upd (rxHeader f false other 0 0) f.data s
    raise (inc (inc s (MBUS_QTAIL m q)) (MBUS_CNT m 2)) (mbusPage m) (1 + q)

/-- Writes a frame into several queues; an XL frame of more than 1,920 bytes into none (R359). -/
def queueAll (m other : Nat) (qs : List Nat) (f : CanFrame) (s : State) : State :=
  if qs.isEmpty then s
  else if f.format.val = 2 ∧ 1920 < f.data.length then inc s (MBUS_CNT m 5)
  else forEach qs (fun q t => queueCan m q other f t) s

/-- A frame into its object: area, NEW and LOST, RX_OBJ, routes (R348, R357). -/
def objectCan (m k : Nat) (o : CanObj) (f : CanFrame) (s : State) : State :=
  let lost := rdB s (MBW_O_NEW m k)
  let u := objRun s m k
  let u := { u with count := (u.count + 1) % 2 ^ 32, lost := if lost then (u.lost + 1) % 2 ^ 32 else u.lost, upd := (u.upd + 1) % 2 ^ 32 }
  let s := setObjRun m k u (writeArea (objArea m k) u.upd (rxHeader f lost 0 u.count u.lost) f.data s)
  let s := wrB s (MBW_O_NEW m k) true
  let s := if lost then inc (wrB s (MBW_O_LOST m k) true) (MBUS_CNT m 6) else s
  routesIn m k f.data (raiseIf o.event (mbusPage m) 0 (inc s (MBUS_CNT m 1)))

/-- A failed inner check: the frame goes nowhere; the object's header shows CHK_ERR (R370). -/
def chkCan (m : Nat) (f : CanFrame) (s : State) : State :=
  let s := match rxObject s m f with
    | none => s
    | some (k, _) =>
      let b := leAt (bar2Read s (objArea m k + 0x0B) 1) 0 1
      bar2Write s (objArea m k + 0x0B) (le 1 (setBit b 4))
  raise (inc (inc s (MBUS_CNT m 13)) (NODE_OVERLAP 3)) (mbusPage m) 14

/-- A frame other than those of worker enumeration stops the false-wake timer (R390). -/
def canAnswersWake (m : Nat) (f : CanFrame) (s : State) : State :=
  if rdB s (MBUS_CTL_ENUM m) ∧ (f.ident.toNat = 0x7F0 ∨ f.ident.toNat = 0x7F1) ∧ frameIde f = false then s
  else answerWake s

/-! ## Bus sleep: what a worker's answer does (R391) -/

/-- The token of a bus ring: round, flags, consent of the last round (R391). -/
def ringToken (s : State) (m flags : Nat) : List Byte :=
  le 1 (mbusSt s m).ringRound ++ le 1 flags ++ le 8 (rd s (SLEEP_BUSCON m)) ++ zeros 2

/-- Sends a token from TOBJ; only the active or solo node sends. -/
def sendToken (m flags : Nat) (s : State) : State :=
  let k := rd s (SLEEP_BUSCTL_TOBJ m)
  if isActive s then txRequest m k (setObjData m k (ringToken s m flags) s) else s

/-- The abort cause of a bus sleep in a SLEEP_ORDER's completion, once no channel is left in its window. -/
def busAbortDone (cause : Nat) (s : State) : State :=
  if [0, 1, 2, 3].any (fun m => (mbusSt s m).ringPrep.isSome) then s
  else
    completeWhere (fun a => decide (a.opcode = 0x0901 ∧ a.u 0x08 1 = 1)) stWRONG_STATE (zeros 8 ++ le 1 cause) s

/-- A bus sleep is aborted in its prepare window: an ABORT token leaves (R391). -/
def busAbort (m cause : Nat) (s : State) : State :=
  if (mbusSt s m).ringPrep.isSome then busAbortDone cause (sendToken m 4 (setMbus m { mbusSt s m with ringPrep := none } s)) else s

/-- A worker's answer on ROBJ: its roster index and its consent; one without consent in the window aborts (R391). -/
def ringAnswer (m k : Nat) (d : List Byte) (s : State) : State :=
  let w := leAt d 0 1
  if rdB s (SLEEP_BUSCTL_RING_EN m) = false ∨ rd s (SLEEP_BUSCTL_ROBJ m) ≠ k ∨ w = 0 ∨ 64 < w then s
  else
    let b := mbusSt s m
    let ok := bit (leAt d 1 1) 0
    let now := if ok then setBit b.ringNow.toNat (w - 1) else clrBit b.ringNow.toNat (w - 1)
    let s := setMbus m { b with ringNow := BitVec.ofNat 64 now } s
    if ok then s else busAbort m 0 s

/-! ## Reception, continued -/

/-- A frame decided into object and queues (R357, R359). -/
def decideCan (m : Nat) (f : CanFrame) (s : State) : State :=
  if f.innerGood = false then chkCan m f s
  else
    let s := canAnswersWake m f (inc s (MBUS_CNT m 0))
    let s := setMbus m { mbusSt s m with wokenIdle := false } s
    match rxObject s m f with
    | some (k, o) => ringAnswer m k f.data (queueAll m k ([0, 1, 2, 3].filter (bit o.qmask)) f (objectCan m k o f s))
    | none => if (filterQueues s m f).isEmpty then inc s (MBUS_CNT m 3) else queueAll m 0xFFFF (filterQueues s m f) f s

/-- What identifies a frame for the shadow's comparison: identifier, form and data (R371). -/
def frameKey (f : CanFrame) : Nat := crc32c (be 4 f.ident.toNat ++ be 1 ((if f.ide then 1 else 0) + (if f.rtr then 2 else 0) + 4 * f.format.val) ++ f.data)

/-- Two receptions of one frame: the same frame with SOF stamps within 1 µs. -/
def sameFrame (a b : Nat × Nat) : Bool := decide (a.1 = b.1 ∧ a.2 ≤ b.2 + 2000 ∧ b.2 ≤ a.2 + 2000)

/-- RXSKEW counts and raises (R371). -/
def rxSkew (m : Nat) (s : State) : State := raise (inc s (MBUS_CNT m 16)) (mbusPage m) 13

/-- Stamp of a frame in half nanoseconds. -/
def frameStamp (f : CanFrame) : Nat := 2 * f.sofNs.toNat + if f.half then 1 else 0

/-- The shadow compares its own reception with a journaled one that waits, or keeps it (R371). -/
def shadowCan (m : Nat) (f : CanFrame) (s : State) : State :=
  let b := mbusSt s m
  let e := (frameKey f, frameStamp f)
  match takeFirst (sameFrame e) b.rxTheirs with
  | (some j, rest) =>
    let t := setMbus m { b with rxTheirs := rest } s
    if e.2 + 50 < j.2 ∨ j.2 + 50 < e.2 then rxSkew m t else t
  | (none, _) => setMbus m { b with rxMine := b.rxMine ++ [e] } s

/-- The shadow pairs a journaled frame with its own (R371). -/
def journaledCan (m : Nat) (f : CanFrame) (s : State) : State :=
  let b := mbusSt s m
  let e := (frameKey f, frameStamp f)
  match takeFirst (sameFrame e) b.rxMine with
  | (some j, rest) =>
    let t := setMbus m { b with rxMine := rest } s
    if e.2 + 50 < j.2 ∨ j.2 + 50 < e.2 then rxSkew m t else t
  | (none, _) => setMbus m { b with rxTheirs := b.rxTheirs ++ [e] } s

/-- Frames of one side only count once the block of two ticks later has been applied (log entry 19). -/
def expireFrames (m tick : Nat) (s : State) : State :=
  let b := mbusSt s m
  let old (e : Nat × Nat) : Bool := decide (e.2 / 2000 + 2 ≤ tick)
  let n := (b.rxMine.filter old).length + (b.rxTheirs.filter old).length
  forEach (List.range n) (fun _ t => rxSkew m t)
    (setMbus m { b with rxMine := b.rxMine.filter (fun e => !old e), rxTheirs := b.rxTheirs.filter (fun e => !old e) } s)

/-! ## Error confinement (R369) -/

/-- ERR_STATE between active and passive follows the counters; each change raises ERR_PASSIVE. -/
def syncErrState (m : Nat) (s : State) : State :=
  if rd s (MBUS_STAT_ERR_STATE m) = 2 then s
  else
    let v := if 127 < rd s (MBUS_STAT_TEC m) ∨ 127 < rd s (MBUS_STAT_REC m) then 1 else 0
    if v = rd s (MBUS_STAT_ERR_STATE m) then s else raise (wr s (MBUS_STAT_ERR_STATE m) v) (mbusPage m) 9

/-- ONE_SHOT in force, the object's, or an exclusive or arbitrating window: one attempt only (R366). -/
def oneAttempt (s : State) (m : Nat) (o : CanObj) : Bool :=
  let b := mbusSt s m
  b.oneShot || o.oneShot ||
  (rdB s (MBUS_CTL_SCHED_EN m) && !b.modeUsed &&
    match b.matrix, b.window with
    | some x, some w => decide (((x.windows[w]?).getD (0, 0, 2, 0)).2.2.1 ≠ 2)
    | _, _ => false)

/-- Entry to bus-off: event, record, the requests of one attempt only fail; recovery starts at once with BO_AUTO. -/
def busOff (m : Nat) (s : State) : State :=
  let s := wr (wr s (MBUS_STAT_TEC m) 255) (MBUS_STAT_ERR_STATE m) 2
  let s := raiseRec (inc s (MBUS_CNT m 12)) (mbusPage m) 10 0 (some m)
  let s := setMbus m { mbusSt s m with recovering := rdB s (MBUS_CTL_BO_AUTO m) } s
  forEach ((mbusSt s m).objs.filter (fun e => e.2.tx && rdB s (MBW_O_TX_PEND m e.1) && oneAttempt s m e.2))
    (fun e t => raise (endRequest m e.1 3 t) (mbusPage m) 6) s

/-- An error on the node's own frame: TEC + 8 (ISO 11898-1, log entry 20). -/
def tecUp (m : Nat) (s : State) : State :=
  let v := rd s (MBUS_STAT_TEC m) + 8
  if 255 < v then busOff m s else syncErrState m (wr s (MBUS_STAT_TEC m) v)

/-- A success of the node's own frame: TEC − 1. -/
def tecDown (m : Nat) (s : State) : State := syncErrState m (wr s (MBUS_STAT_TEC m) (rd s (MBUS_STAT_TEC m) - 1))

/-- A good reception: REC − 1, from above 127 to a value between 119 and 127 that ISO 11898-1 leaves open. -/
def recDown (m : Nat) (s : State) : State :=
  let r := rd s (MBUS_STAT_REC m)
  if 127 < r then syncErrState m (wr (nextFree s) (MBUS_STAT_REC m) (119 + Config.freeNat s.free % 9)) else syncErrState m (wr s (MBUS_STAT_REC m) (r - 1))

/-- CAN_FRAME_RX (R357, R371): the active and the solo node take the frame, and a joined active journals it; the shadow compares; a fenced or waiting
node takes it into its own objects. -/
def canFrameRx (m : Fin 4) (f : CanFrame) (s : State) : State :=
  if onBus s m.val = false ∨ fmtOn s m.val f.format.val = false then s
  else
    let s := if rdB s (MBUS_STAT_TX_GATED m.val) then s else recDown m.val s
    if role s = 1 then shadowCan m.val f s
    else
      let t := decideCan m.val f s
      if role s = 0 then { t with twin := { t.twin with own := t.twin.own ++ [⟨5, .can m f, true⟩] } } else t

/-- CAN_FRAME_RX on a channel. -/
def execCanFrameRx (m : Fin 4) (f : CanFrame) (s : State) : Host.Outcome State Fault Refusal := .next (whenRun s (canFrameRx m f))

/-! ## Transmission (R358, R362 to R368) -/

/-- The schedule governs the channel (R362). -/
def scheduled (s : State) (m : Nat) : Bool := rdB s (MBUS_CTL_SCHED_EN m) && !(mbusSt s m).modeUsed && (mbusSt s m).matrix.isSome

/-- The window that is open and the object its cell names (R363). -/
def openWindow (s : State) (m : Nat) : Option (Nat × Nat) :=
  match (mbusSt s m).matrix, (mbusSt s m).window with
  | some x, some w => (x.windows[w]?).map (fun v => (v.2.2.1, (x.cells[rd s (MBUS_SCHED_CYCLE m) * x.windows.length + w]?).getD 0xFF))
  | _, _ => none

/-- The open window lets object k be sent: exclusive its named object at every occurrence, arbitrating and free the pending ones of their class. -/
def windowSends (s : State) (m k : Nat) (o : CanObj) : Bool :=
  match openWindow s m with
  | none => false
  | some (ty, cell) =>
    if ty = 0 then decide (cell = k) && !(mbusSt s m).winSent
    else if ty = 1 then decide (o.cls = 1) && rdB s (MBW_O_TX_PEND m k) && !(mbusSt s m).winSent
    else decide (o.cls = 2) && rdB s (MBW_O_TX_PEND m k)

/-- Object k may be sent on the channel as its mode tells (R362 to R364). -/
def mayTx (s : State) (m k : Nat) (o : CanObj) : Bool :=
  o.tx && fmtOn s m o.format && !rdB s (MBW_O_STOPPED m k) &&
  if (mbusSt s m).modeUsed then (decide (k < 3) || (decide (k = 255) && (mbusSt s m).enumUsed)) && rdB s (MBW_O_TX_PEND m k)
  else if scheduled s m then windowSends s m k o
  else rdB s (MBW_O_TX_PEND m k)

/-- Rank of a request in the competition of the node's own objects: the identifier as arbitration compares it, base part first; in compatibility
mode with TXPRIO the buffer number (R362, R364). -/
def txRank (s : State) (m k : Nat) (o : CanObj) : Nat :=
  if (mbusSt s m).modeUsed && rdB s (MBUS_CTL_TXPRIO m) then k
  else
    let i := objIdent o (objRun s m k)
    if i.2.1 then (i.1 / 2 ^ 18) * 2 ^ 20 + 2 ^ 19 + i.1 % 2 ^ 18 else i.1 * 2 ^ 20

/-- An object ahead of k has been waiting at least as long as k: its frame goes first. Not asked inside the windows of a schedule. -/
def txBlocked (s : State) (m k : Nat) (o : CanObj) : Bool :=
  !scheduled s m && (mbusSt s m).objs.any (fun e => decide (e.1 ≠ k) && mayTx s m e.1 e.2 &&
    decide (txRank s m e.1 e.2 < txRank s m k o ∧ (objRun s m e.1).req ≤ (objRun s m k).req))

/-- The entry that the frame of object k goes under: the entry in force, or the one it began under (R355). -/
def txEntry (s : State) (m k : Nat) : Option CanObj :=
  match (objRun s m k).old with
  | some o => some o
  | none => objAt s m k

/-- Object k's frame can have been on the bus: one past its SOF ends there whatever the node's state has become since. -/
def txPossible (s : State) (m k : Nat) (o : CanObj) : Bool :=
  ((objRun s m k).sof && decide (role s ≠ 1)) || (canDrive s m && mayTx s m k o && !txBlocked s m k o)

/-- Responses of the MB_CANCEL commands that wait for the end of object k's frame (R367). -/
def answerCancels (m k outcome : Nat) (s : State) : State :=
  let b := mbusSt s m
  let mine := b.cancels.filter (fun e => decide (e.1 = k))
  forEach mine (fun e t => respond ⟨e.2.path, e.2.args, e.2.uid, e.2.twin, e.2.seq, 0⟩ stTOO_LATE (le 1 outcome) t)
    (setMbus m { b with cancels := b.cancels.filter (fun e => decide (e.1 ≠ k)) } s)

/-- An MB_CANCEL waits for object k. -/
def cancelWaits (s : State) (m k : Nat) : Bool := (mbusSt s m).cancels.any (fun e => decide (e.1 = k))

/-- A success: area, count, TX_DONE, clash count 0 (R358, R368). -/
def txSent (m k : Nat) (o : CanObj) (r : CanTxEnd) (s : State) : State :=
  let u := objRun s m k
  let i := objIdent o u
  let u := { u with count := (u.count + 1) % 2 ^ 32, upd := (u.upd + 1) % 2 ^ 32 }
  let h : AreaHdr :=
  { ident := i.1, ide := i.2.1, rtr := i.2.2, len := objLen o u, format := o.format, lost := false, brs := o.brs, esi := false,
    half := r.half, sec := o.sec, sofTs := r.sofTs.toNat, sofNs := r.sofNs.toNat, sdt := o.sdt, vcid := o.vcid, other := 0, af := o.af,
    count := u.count, lostN := u.lost }
  let s := writeArea (objArea m k) u.upd h (objData o u) (setObjRun m k u s)
  let s := wr (endRequest m k 1 s) (MBW_O_CLASHES m k) 0
  answerCancels m k 1 (raiseIf o.event (mbusPage m) 5 (inc s (MBUS_CNT m 7)))

/-- A frame of object k has one attempt: by R366, or as an object of an exclusive or arbitrating window, which its window may have left (R363). -/
def singleTry (s : State) (m : Nat) (o : CanObj) : Bool := oneAttempt s m o || (scheduled s m && decide (o.cls ≠ 2))

/-- An attempt that failed with a TX_RESULT: the request ends after one attempt only or a cancel, otherwise it stays pending (R366, R367). -/
def txFailed (m k : Nat) (o : CanObj) (result : Nat) (s : State) : State :=
  let single := singleTry s m o
  if single ∨ cancelWaits s m k then answerCancels m k 3 (raiseIf single (mbusPage m) 6 (endRequest m k result s))
  else setObjRun m k { objRun s m k with sof := false, late := false } (wr s (MBW_O_TX_RESULT m k) result)

/-- A clash: counted; the third, or the first of one attempt only, raises ID_CLASH with a record and with CLASH_STOP stops the object (R368). -/
def txClash (m k : Nat) (o : CanObj) (s : State) : State :=
  let n := rd s (MBW_O_CLASHES m k)
  let s := inc (wr s (MBW_O_CLASHES m k) (min 3 (n + 1))) (MBUS_CNT m 10)
  if n = 2 ∨ (singleTry s m o ∧ n < 3) then
    let s := raiseRec s (mbusPage m) 8 0 (some k)
    if o.clashStop then answerCancels m k 3 (wrB (raiseIf (singleTry s m o) (mbusPage m) 6 (endRequest m k 3 s)) (MBW_O_STOPPED m k) true)
    else txFailed m k o 3 s
  else txFailed m k o 3 s

/-- The open window has had its frame, or its one attempt, unless it is a free window whose frame failed, or the frame began in an earlier one (R363). -/
def windowUsed (m : Nat) (began sent : Bool) (s : State) : State :=
  match openWindow s m with
  | some (ty, _) => if !began && (sent || decide (ty ≠ 2)) then setMbus m { mbusSt s m with winSent := true } s else s
  | none => s

/-- The outcome of a transmission as both twins show it (R371). -/
def txOutcome (m k : Nat) (o : CanObj) (r : CanTxEnd) (s : State) : State :=
  let began := (objRun s m k).late
  let s := match r.result with
    | .sent => txSent m k o r s
    | .error => txFailed m k o 3 (inc s (MBUS_CNT m 8))
    | .clash => txClash m k o (inc s (MBUS_CNT m 8))
    | .arbLost => txFailed m k o 4 (inc s (MBUS_CNT m 9))
    | .checkFail => answerCancels m k 3 (raise (inc (inc (endRequest m k 5 s) (MBUS_CNT m 8)) (MBUS_CNT m 13)) (mbusPage m) 14)
  windowUsed m began (match r.result with | .sent => true | _ => false) s

/-- What the controller's own counters and the bus see of the end of a frame. -/
def txOwnSide (m k : Nat) (o : CanObj) (r : CanTxEnd) (s : State) : State :=
  let s := wrB s (MBUS_STAT_TXD_TMO m) false
  match r.result with
  | .sent =>
    let i := objIdent o (objRun s m k)
    tecDown m (emit s (.can m (i.1 + (if i.2.1 then 2 ^ 29 else 0) + (if i.2.2 then 2 ^ 30 else 0)) o.format (objData o (objRun s m k))))
  | .arbLost => s
  | _ => tecUp m s

/-- CAN_TX_END: a frame of object k has ended; a joined active journals the outcome. -/
def canTxEnd (m : Fin 4) (r : CanTxEnd) (s : State) : State :=
  match txEntry s m.val r.obj.val with
  | none => s
  | some o =>
    if txPossible s m.val r.obj.val o = false then s
    else
      let t := txOutcome m.val r.obj.val o r (txOwnSide m.val r.obj.val o r s)
      if role s = 0 then { t with twin := { t.twin with own := t.twin.own ++ [⟨5, .canEnd m r, true⟩] } } else t

/-- CAN_TX_END on a channel. -/
def execCanTxEnd (m : Fin 4) (r : CanTxEnd) (s : State) : Host.Outcome State Fault Refusal := .next (whenRun s (canTxEnd m r))

/-- BUS_OFF_RECOVERY_DONE (R369): error-active with both counters 0, BUS_ON. -/
def busOffDone (m : Nat) (s : State) : State :=
  if rd s (MBUS_STAT_ERR_STATE m) = 2 ∧ (mbusSt s m).recovering then
    let s := wr (wr (wr s (MBUS_STAT_ERR_STATE m) 0) (MBUS_STAT_TEC m) 0) (MBUS_STAT_REC m) 0
    raise (setMbus m { mbusSt s m with recovering := false } s) (mbusPage m) 11
  else s

/-- BUS_OFF_RECOVERY_DONE on a channel. -/
def execBusOffRecoveryDone (m : Fin 4) (s : State) : Host.Outcome State Fault Refusal := .next (whenRun s (busOffDone m.val))

/-- CAN_INTEGRATED (R354): the controller has seen 11 recessive bits. -/
def canIntegrated (m : Nat) (s : State) : State :=
  if (pageSt s (mbusPage m)).en = .on ∧ xcvrRx s m ∧ rdB s (MBUS_STAT_VCAN_LOW m) = false then
    wrB (wrB s (MBUS_STAT_SYNCED m) true) (MBUS_STAT_BUS_DOM m) false
  else s

/-- CAN_INTEGRATED on a channel. -/
def execCanIntegrated (m : Fin 4) (s : State) : Host.Outcome State Fault Refusal := .next (whenRun s (canIntegrated m.val))

/-! ## Doorbells and register writes (R358, R360, R364, R369) -/

/-- The data length that LENGTH gives an object: 0 and classical keep the entry's; FD is raised to the next legal length; XL goes to 2,048. -/
def doorbellLen (o : CanObj) (n : Nat) : Nat :=
  if n = 0 ∨ o.format = 0 then 0
  else if o.format = 1 then
    if n ≤ 8 then n else if n ≤ 12 then 12 else if n ≤ 16 then 16 else if n ≤ 20 then 20 else if n ≤ 24 then 24 else if n ≤ 32 then 32
    else if n ≤ 48 then 48 else 64
  else min n 2048

/-- The register fields that a doorbell leaves. -/
def txdbFields (m v : Nat) (chk : Bool) (s : State) : State :=
  wrB (wr (wrB (wr s (MBUS_TXDB_LENGTH m) (bits v 27 16)) (MBUS_TXDB_SEND m) (bit v 8)) (MBUS_TXDB_OBJECT m) (v % 256)) (MBUS_TXDB_CHK_ERR m) chk

/-- TXID applies to buffers 0 to 2 in compatibility mode (R364). -/
def txidOf (s : State) (m k : Nat) : Option (Nat × Bool × Bool) :=
  if (mbusSt s m).modeUsed && rdB s (MBUS_TXID_APPLY m) && decide (k < 3) then
    some (rd s (MBUS_TXID_ID m), rdB s (MBUS_TXID_IDE m), rdB s (MBUS_TXID_RTR m))
  else none

/-- The bytes of the area that a doorbell takes. -/
def txdbData (s : State) (m v : Nat) : List Byte :=
  match objAt s m (v % 256) with
  | none => []
  | some o =>
    let n := doorbellLen o (bits v 27 16)
    let n := if n = 0 then o.len else n
    padTo n (bar2Read s (objArea m (v % 256) + 0x40) (if bits v 27 16 = 0 ∨ o.format = 0 then n else min n (bits v 27 16)))

/-- A doorbell with the data it takes (R358): SEND requests a transmission and wakes a sleeping channel (R377). -/
def txDoorbell (m v : Nat) (d : List Byte) (own : Bool) (s : State) : State :=
  let k := v % 256
  let s := txdbFields m v false s
  match objAt s m k with
  | none => s
  | some o =>
    let s := if o.tx then setObjRun m k { objRun s m k with data := d, len := doorbellLen o (bits v 27 16), txid := txidOf s m k } s else s
    if bit v 8 then txRequest m k (wakeChannel m own s) else s

/-- A doorbell whose check fails: the previous data stays (R370). -/
def txdbCheckFails (m v : Nat) (s : State) : State := raise (inc (inc (txdbFields m v true s) (MBUS_CNT m 13)) (NODE_OVERLAP 2)) (mbusPage m) 14

/-- A write of 1 to MBUS_RECOVER (R369). -/
def recoverWrite (m v : Nat) (s : State) : State :=
  if bit v 0 ∧ rd s (MBUS_STAT_ERR_STATE m) = 2 then setMbus m { mbusSt s m with recovering := true } s else s

/-- A write of MBUS_QHEADq: one that moves it backwards or past the tail is ignored (R360). -/
def qheadWrite (m q v : Nat) (s : State) : State :=
  let h := rd s (MBUS_QHEAD m q)
  if (v % 128 + 128 - h) % 128 ≤ (rd s (MBUS_QTAIL m q) + 128 - h) % 128 then wr s (MBUS_QHEAD m q) v else s

/-- LISTEN and ONE_SHOT take effect (R354, R365, R366); the bus-idle point is at once (log entry 13). -/
def mbusCtlTakes (m : Nat) (s : State) : State :=
  syncGate m (setMbus m { mbusSt s m with listen := rdB s (MBUS_CTL_LISTEN m), oneShot := rdB s (MBUS_CTL_ONE_SHOT m) } s)

/-- A channel starts: MODE and ENUM take effect (R354). -/
def mbusStart (m : Nat) (s : State) : State :=
  mbusCtlTakes m (setMbus m { mbusSt s m with modeUsed := rdB s (MBUS_CTL_MODE m), enumUsed := rdB s (MBUS_CTL_ENUM m) } s)

/-- A channel has stopped: every pending transmission is discarded with TX_RESULT 2 (R354). -/
def mbusStop (m : Nat) (s : State) : State :=
  let s := wrB s (MBUS_STAT_SYNCED m) false
  forEach ((mbusSt s m).objs.filter (fun e => rdB s (MBW_O_TX_PEND m e.1))) (fun e t => endRequest m e.1 2 t) s

/-! ## Schedule (R363) -/

/-- A basic cycle starts at a fire of the comparator: the loaded matrix takes force at the first fire whose index is 0 (R363). -/
def cycleStart (m target period : Nat) (s : State) : State :=
  let b := mbusSt s m
  let idx (x : Matrix) : Nat := (target / period) % x.cycles
  let s := match b.loaded with
    | none => s
    | some x =>
      if period ≠ 0 ∧ idx x = 0 then
        let s := setMbus m { b with matrix := some x, loaded := none } s
        let s := wrB (wrB s (MBUS_SCHED_ON m) true) (MBUS_SCHED_WAITING m) false
        completeObj 0x0802 (.sched m) stOK (le 8 target) (wr (wr s (MBUS_SCHED_B m) (x.cycles - 1)) (MBUS_SCHED_W m) (x.windows.length - 1))
      else s
  match (mbusSt s m).matrix with
  | none => s
  | some x => setMbus m { mbusSt s m with window := none, winSent := false } (wr s (MBUS_SCHED_CYCLE m) (idx x))

/-- A fire of use 0x10 starts a cycle of each schedule that names the comparator (R317). -/
def canCycles (c target period : Nat) (s : State) : State :=
  forEach [0, 1, 2, 3] (fun m t => if rd t (MBUS_CTL_SCHED_CMP m) = c ∧ pageOn t (mbusPage m) then cycleStart m target period t else t) s

/-- Object k's frame is past its SOF: as a command's operand tells, where the object may be sent, or as the end of a window showed (R355, R363, R367). -/
def onWire (s : State) (m k : Nat) (sof : Bool) : Bool :=
  (objRun s m k).sof || (sof && match txEntry s m k with | none => false | some o => mayTx s m k o)

/-- SCHED_WINDOW_OPEN: the window opens (R363). -/
def windowOpen (m w : Nat) (s : State) : State :=
  match (mbusSt s m).matrix with
  | none => s
  | some x =>
    if scheduled s m ∧ pageOn s (mbusPage m) ∧ w < x.windows.length then
      wr (setMbus m { mbusSt s m with window := some w, winSent := false } s) (MBUS_SCHED_WINDOW m) w
    else s

/-- SCHED_WINDOW_OPEN on a channel. -/
def execSchedWindowOpen (m : Fin 4) (w : Fin 64) (s : State) : Host.Outcome State Fault Refusal := .next (whenRun s (windowOpen m.val w.val))

/-- An object that the open window was for and that was not sent. -/
def windowMissed (s : State) (m : Nat) : Bool :=
  match openWindow s m with
  | none => false
  | some (ty, cell) =>
    !(mbusSt s m).winSent &&
    if ty = 0 then decide (cell ≠ 0xFF) else (mbusSt s m).objs.any (fun e => e.2.tx && decide (e.2.cls = ty) && rdB s (MBW_O_TX_PEND m e.1))

/-- SCHED_WINDOW_END: a window that passed without its frame counts in SCHED_MISS, one whose frame is still on the bus in SCHED_OVERRUN; both raise SCHED
(R363). The frame goes on to its end. onBus names the object whose frame is on the bus; it counts only where that object may be sent in the window. -/
def windowEnd (m w : Nat) (onBus : Option (Fin 256)) (s : State) : State :=
  if (mbusSt s m).window ≠ some w then s
  else
    let past := match onBus with
      | none => false
      | some k => onWire s m k.val true
    let missed := windowMissed s m && !isFenced s && !past
    let s := match openWindow s m with
      | some (0, k) => if missed then wr s (MBW_O_TX_RESULT m k) 6 else s
      | _ => s
    let s := if missed then raise (inc s (MBUS_CNT m 14)) (mbusPage m) 12 else s
    let s := match past, onBus with
      | true, some k => raise (inc (setObjRun m k.val { objRun s m k.val with sof := true, late := true } s) (MBUS_CNT m 15)) (mbusPage m) 12
      | _, _ => s
    setMbus m { mbusSt s m with window := none, winSent := false } s

/-- SCHED_WINDOW_END on a channel. -/
def execSchedWindowEnd (m : Fin 4) (w : Fin 64) (onBus : Option (Fin 256)) (s : State) : Host.Outcome State Fault Refusal :=
  .next (whenRun s (windowEnd m.val w.val onBus))

/-- The schedule comparator is released: SCHED (R363, R372). -/
def schedCmpLost (c : Nat) (s : State) : State :=
  forEach [0, 1, 2, 3] (fun m t =>
    if rd t (MBUS_CTL_SCHED_CMP m) = c ∧ scheduled t m then
      raise (setMbus m { mbusSt t m with window := none, winSent := false } t) (mbusPage m) 12
    else t) s

/-! ## Faults of the transceiver (R372) -/

/-- TXD_DOMINANT_TIMEOUT: TXD_TMO until the next recessive TXD, that is the next frame. -/
def txdTimeout (m : Nat) (s : State) : State := raiseRec (wrB s (MBUS_STAT_TXD_TMO m) true) (mbusPage m) 15 0 (some m)

/-- TXD_DOMINANT_TIMEOUT on a channel. -/
def execTxdDominantTimeout (m : Fin 4) (s : State) : Host.Outcome State Fault Refusal := .next (whenRun s (txdTimeout m.val))

/-- BUS_DOMINANT_TIMEOUT: no integration until the bus is recessive. -/
def busTimeout (m : Nat) (s : State) : State := raise (wrB (wrB s (MBUS_STAT_BUS_DOM m) true) (MBUS_STAT_SYNCED m) false) (mbusPage m) 15

/-- BUS_DOMINANT_TIMEOUT on a channel. -/
def execBusDominantTimeout (m : Fin 4) (s : State) : Host.Outcome State Fault Refusal := .next (whenRun s (busTimeout m.val))

/-- XCVR_OVERTEMP: the transmitter is off, the receiver on (R497). -/
def execXcvrOvertemp (m : Fin 4) (s : State) : Host.Outcome State Fault Refusal :=
  .next (whenRun s (fun s => raiseRec (wrB s (MBUS_STAT_THERMAL m.val) true) (mbusPage m.val) 15 0 (some m.val)))

/-- XCVR_THERMAL_RECOVERY: cooled by the hysteresis (R497). -/
def execXcvrThermalRecovery (m : Fin 4) (s : State) : Host.Outcome State Fault Refusal := .next (whenRun s (fun s => wrB s (MBUS_STAT_THERMAL m.val) false))

/-- VCAN_LOW: every transceiver recessive; the controllers integrate again afterwards. -/
def vcanLow (s : State) : State :=
  forEach [0, 1, 2, 3] (fun m t =>
    if rdB t (MBUS_STAT_VCAN_LOW m) then t
    else raiseRec (wrB (wrB t (MBUS_STAT_VCAN_LOW m) true) (MBUS_STAT_SYNCED m) false) (mbusPage m) 15 0 (some m)) s

/-- VCAN_LOW. -/
def execVcanLow (s : State) : Host.Outcome State Fault Refusal := .next (whenRun s vcanLow)

/-- VCAN_IN_RANGE. -/
def execVcanInRange (s : State) : Host.Outcome State Fault Refusal :=
  .next (whenRun s (forEach [0, 1, 2, 3] (fun m t => wrB t (MBUS_STAT_VCAN_LOW m) false)))

/-- CAN_TAKEOVER_UNGATE (R371): the new active's controller leaves the gated state at the next bus-idle point. -/
def takeoverUngate (m : Nat) (s : State) : State := if isActive s then syncGate m (setMbus m { mbusSt s m with gated := false } s) else s

/-- CAN_TAKEOVER_UNGATE on a channel. -/
def execCanTakeoverUngate (m : Fin 4) (s : State) : Host.Outcome State Fault Refusal := .next (whenRun s (takeoverUngate m.val))

/-- CAN_WAKE (R377): the wake detection of a channel in standby or sleep. -/
def canWake (m : Nat) (s : State) : State :=
  if (mbusSt s m).commanded < 2 then s else let t := wakeChannel m false s; setMbus m { mbusSt t m with wokenIdle := true } t

/-! ## MSGBUS group (R159, R160) -/

/-- A bit-timing block is in range (R352, R353). -/
def timingOk (d : List Byte) (enum : Bool) : Bool :=
  let b (o : Nat) := leAt d o 1
  let f := b 0x0C
  let nom := b 0 * (1 + b 1 + b 2)
  let fd := b 4 * (1 + b 5 + b 6)
  let xl := b 8 * (1 + b 9 + b 10)
  decide (1 ≤ b 0 ∧ b 0 ≤ 32 ∧ 2 ≤ b 1 ∧ 1 ≤ b 2 ∧ b 2 ≤ 128 ∧ 1 ≤ b 3 ∧ b 3 ≤ b 2) &&
  decide (1 ≤ b 4 ∧ b 4 ≤ 32 ∧ 1 ≤ b 5 ∧ b 5 ≤ 31 ∧ 1 ≤ b 6 ∧ b 6 ≤ 16 ∧ 1 ≤ b 7 ∧ b 7 ≤ b 6) &&
  decide (1 ≤ b 8 ∧ b 8 ≤ 32 ∧ 1 ≤ b 9 ∧ b 9 ≤ 31 ∧ 1 ≤ b 10 ∧ b 10 ≤ 16 ∧ 1 ≤ b 11 ∧ b 11 ≤ b 10) &&
  decide (f < 32 ∧ b 0x0D ≤ 127 ∧ 1 ≤ b 0x0E ∧ b 0x0E ≤ 63 ∧ 1 ≤ b 0x0F ∧ b 0x0F ≤ 63 ∧ b 0x10 ≤ 63) && decide (leAt d 0x11 15 = 0) &&
  decide (80 ≤ nom) && (!bit f 0 || decide (10 ≤ fd)) && (!bit f 1 || decide (4 ≤ xl)) && (!(bit f 1 && !bit f 4) || decide (10 ≤ xl)) &&
  (!bit f 3 || decide (b 4 ≤ 2 ∧ b 8 ≤ 2)) && (!bit f 2 || decide (640 ≤ nom)) && (!enum || bit f 0)

/-- MB_TIMING: refused while the channel is ON or changing (R354). -/
def mbTimingRun (c : Cmd) (s : State) : Reply :=
  let m := c.u 0x08 1
  if (pageSt s (mbusPage m)).en ≠ .off then Reply.fail stWRONG_STATE s
  else Reply.ok (forEach (List.range 8) (fun k t => wr t (MBUS_TIMING m k) (c.u (0x0C + 4 * k) 4)) s)

/-- The row of MB_TIMING. -/
def mbTimingSpec : CmdSpec := CmdSpec.sync 0x0800 .shared [(0x08, 1), (0x0C, 32)]
  (fun s c => decide (c.u 0x08 1 ≤ 3) && timingOk (slice c.desc 0x0C 32) (rdB s (MBUS_CTL_ENUM (c.u 0x08 1)))) mbTimingRun

/-- MB_TIMING (R159, R353). -/
def execMbTiming (t : Take) (s : State) : Host.Outcome State Fault Refusal := .next (takeState mbTimingSpec t s)

/-- An object entry from its 32 bytes (R355). -/
def parseObj (d : List Byte) : CanObj :=
  let b := leAt d 0 1
  let f := leAt d 2 1
  { tx := bit b 1, event := bit b 2, oneShot := bit b 3, clashStop := bit b 4, rtr := bit b 5, format := leAt d 1 1, ide := bit f 0, brs := bit f 1,
    sec := bit f 2, cls := leAt d 3 1, ident := leAt d 4 4, len := leAt d 8 2, sdt := leAt d 0xA 1, vcid := leAt d 0xB 1, af := leAt d 0xC 4,
    qmask := leAt d 0x10 1 }

/-- Legal data lengths (R355). -/
def lenOk (format n : Nat) : Bool :=
  if format = 0 then decide (n ≤ 8)
  else if format = 1 then decide (n ≤ 8 ∨ n = 12 ∨ n = 16 ∨ n = 20 ∨ n = 24 ∨ n = 32 ∨ n = 48 ∨ n = 64)
  else decide (1 ≤ n ∧ n ≤ 2048)

/-- An entry's bytes are in range; IDE, BRS and SEC only where their format has them (R355). -/
def objOk (d : List Byte) : Bool :=
  let o := parseObj d
  decide (leAt d 0 1 < 64 ∧ o.format ≤ 2 ∧ leAt d 2 1 < 8 ∧ o.cls ≤ 2 ∧ o.qmask < 16 ∧ leAt d 0x11 15 = 0) && lenOk o.format o.len &&
  !(o.rtr && decide (o.format ≠ 0)) && decide (o.ident < if o.ide then 2 ^ 29 else 2 ^ 11) && !(o.ide && decide (o.format = 2)) &&
  !(o.brs && decide (o.format ≠ 1)) && !(o.sec && decide (o.format ≠ 2)) && (o.tx || decide (o.cls = 0)) && (!o.tx || decide (o.qmask = 0)) &&
  (decide (o.format = 2) || decide (o.sdt = 0 ∧ o.vcid = 0 ∧ o.af = 0))

/-- A second valid object of the same direction with the same IDE and identifier; objects 0 to 2 are exempt in compatibility mode (R355). -/
def objDup (s : State) (m k : Nat) (o : CanObj) : Bool :=
  !(decide (k < 3) && rdB s (MBUS_CTL_MODE m)) &&
  (mbusSt s m).objs.any (fun e => decide (e.1 ≠ k) && !(decide (e.1 < 3) && rdB s (MBUS_CTL_MODE m)) && (e.2.tx == o.tx) && (e.2.ide == o.ide) &&
    decide (e.2.ident = o.ident))

/-- Kept for worker enumeration while ENUM = 1 (R355). -/
def objReserved (s : State) (m k : Nat) (o : CanObj) : Bool :=
  rdB s (MBUS_CTL_ENUM m) && (decide (254 ≤ k) || (!o.ide && decide (o.ident = 0x7F0 ∨ o.ident = 0x7F1)))

/-- MB_OBJ_SET: a pending request is discarded unless its frame has reached SOF; NEW, LOST, the clash count and the counts clear (R355). -/
def mbObjSetRun (sof : Bool) (c : Cmd) (s : State) : Reply :=
  let m := c.u 0x08 1
  let k := c.u 0x0A 2
  let d := slice c.desc 0x0C 32
  let o := parseObj d
  let valid := bit (leAt d 0 1) 0
  if valid ∧ (objDup s m k o ∨ objReserved s m k o) then Reply.fail stBAD_ARG s
  else
    let runs := onWire s m k sof
    let old := txEntry s m k
    let u := objRun s m k
    let s := if rdB s (MBW_O_TX_PEND m k) ∧ runs = false then endRequest m k 2 s else s
    let run : ObjRun := if runs then { u with old := old, sof := true, count := 0, lost := 0 } else { ObjRun.init with upd := u.upd }
    let b := mbusSt s m
    let s := setObjRun m k run (setMbus m { b with objs := if valid then setKey b.objs k o else eraseK b.objs k } s)
    let s := wr (wrB (wrB s (MBW_O_NEW m k) false) (MBW_O_LOST m k) false) (MBW_O_CLASHES m k) 0
    Reply.ok (bar2Write s (objArea m k + 0x20) (zeros 8))

/-- The row of MB_OBJ_SET. -/
def mbObjSetSpec (sof : Bool) : CmdSpec := CmdSpec.sync 0x0801 .shared [(0x08, 1), (0x0A, 2), (0x0C, 32)]
  (fun _ c => decide (c.u 0x08 1 ≤ 3) && decide (c.u 0x0A 2 ≤ 255) && objOk (slice c.desc 0x0C 32)) (mbObjSetRun sof)

/-- MB_OBJ_SET (R159, R355); sof tells that the frame of a pending request has reached SOF. -/
def execMbObjSet (t : Take) (sof : Bool) (s : State) : Host.Outcome State Fault Refusal := .next (takeState (mbObjSetSpec sof) t s)

/-- A staged matrix (R363): windows with start, length in ns, type and TX_ENABLE; cells. -/
def parseMatrix (d : List Byte) (b w : Nat) : Matrix :=
  { cycles := b,
    windows := (List.range w).map (fun i => (leAt d (8 * i) 4, 100 * leAt d (8 * i + 4) 2, leAt d (8 * i + 6) 1, leAt d (8 * i + 7) 1 + 1)),
    cells := (List.range (b * w)).map (fun i => leAt d (8 * w + i) 1) }

/-- Windows ascend and do not overlap. -/
def windowsOk : List (Nat × Nat × Nat × Nat) → Bool
  | [] => true
  | [v] => decide (100 ≤ v.2.1 ∧ v.2.2.1 ≤ 2 ∧ v.2.2.2 ≤ 16)
  | v :: u :: t => decide (100 ≤ v.2.1 ∧ v.2.2.1 ≤ 2 ∧ v.2.2.2 ≤ 16 ∧ v.1 + v.2.1 ≤ u.1) && windowsOk (u :: t)

/-- A cell fits its window: exclusive an object of class 0 or empty, any other empty. -/
def cellOk (s : State) (m : Nat) (x : Matrix) (i : Nat) : Bool :=
  let cell := (x.cells[i]?).getD 0xFF
  decide (cell = 0xFF) ||
  (decide (((x.windows[i % x.windows.length]?).getD (0, 0, 2, 0)).2.2.1 = 0) &&
    match objAt s m cell with | none => false | some o => o.tx && decide (o.cls = 0))

/-- MB_SCHED_LOAD: the comparator must be held with use 0x10 and armed periodic; the matrix waits for its first cycle of index 0 (R362, R363). -/
def mbSchedLoadRun (c : Cmd) (s : State) : Reply :=
  let m := c.u 0x08 1
  let b := c.u 0x0A 1
  let w := c.u 0x0B 1
  let x := parseMatrix (bar2Read s (hqBase (c.u 0x09 1)) (8 * w + b * w)) b w
  let k := rd s (MBUS_CTL_SCHED_CMP m)
  if holdsCmp s c.path k 0x10 = false ∨ cmpArmed s k = false ∨ rdB s (TRIG_CMP_PERIODIC k) = false ∨ windowsOk x.windows = false ∨
      (List.range (b * w)).all (cellOk s m x) = false then Reply.fail stBAD_ARG s
  else Reply.accepted (wrB (setMbus m { mbusSt s m with loaded := some x } s) (MBUS_SCHED_WAITING m) true)

/-- The row of MB_SCHED_LOAD. -/
def mbSchedLoadSpec : CmdSpec where
  opcode := 0x0802
  async := true
  kind := .shared
  hostOnly := true
  used := fun _ => [(0x08, 8)]
  argOk := fun _ c => decide (c.u 0x08 1 ≤ 3) && decide (c.u 0x09 1 ≤ 31) && decide (1 ≤ c.u 0x0A 1 ∧ c.u 0x0A 1 ≤ 32) &&
    decide (1 ≤ c.u 0x0B 1 ∧ c.u 0x0B 1 ≤ 64)
  pages := fun _ _ => []
  obj := fun _ c => .sched (c.u 0x08 1)
  bulk := fun c => some (c.u 0x09 1)
  input := fun c => some (8 * c.u 0x0B 1 + c.u 0x0A 1 * c.u 0x0B 1, c.u 0x0C 4)
  run := mbSchedLoadRun

/-- MB_SCHED_LOAD (R159, R363). -/
def execMbSchedLoad (t : Take) (s : State) : Host.Outcome State Fault Refusal := .next (takeState mbSchedLoadSpec t s)

/-- MB_CANCEL (R160, R367); sof tells that the object's SOF was driven at or before the edge at which the cancel acts. -/
def mbCancelRun (sof : Bool) (c : Cmd) (s : State) : Reply :=
  let m := c.u 0x08 1
  let k := c.u 0x0A 2
  let pend := rdB s (MBW_O_TX_PEND m k)
  let exclusive := decide (openWindow s m = some (0, k)) && !(mbusSt s m).winSent
  if pend = false ∧ exclusive = false ∧ (objRun s m k).sof = false then Reply.okWith (le 1 2) s
  else if onWire s m k sof then
    let a : Accepted := ⟨c.opcode, c.flags, c.tag, c.path, .none, c.desc, false, c.uid, c.twin, c.seq⟩
    let s := setObjRun m k { objRun s m k with sof := true } s
    ⟨none, [], setMbus m { mbusSt s m with cancels := (mbusSt s m).cancels ++ [(k, a)] } s, none⟩
  else
    let s := if exclusive then wr (setMbus m { mbusSt s m with winSent := true } s) (MBW_O_TX_RESULT m k) 2 else endRequest m k 2 s
    Reply.okWith (le 1 0) (inc s (MBUS_CNT m 17))

/-- The row of MB_CANCEL. -/
def mbCancelSpec (sof : Bool) : CmdSpec := CmdSpec.sync 0x0803 .shared [(0x08, 1), (0x0A, 2)]
  (fun _ c => decide (c.u 0x08 1 ≤ 3) && decide (c.u 0x0A 2 ≤ 255)) (mbCancelRun sof)

/-- MB_CANCEL (R159, R367). -/
def execMbCancel (t : Take) (sof : Bool) (s : State) : Host.Outcome State Fault Refusal := .next (takeState (mbCancelSpec sof) t s)

/-- MB_CLASH_REARM. -/
def mbClashRearmRun (c : Cmd) (s : State) : Reply :=
  let m := c.u 0x08 1
  let k := c.u 0x0A 2
  if rdB s (MBW_O_STOPPED m k) then Reply.ok (wr (wrB s (MBW_O_STOPPED m k) false) (MBW_O_CLASHES m k) 0) else Reply.fail stWRONG_STATE s

/-- The row of MB_CLASH_REARM. -/
def mbClashRearmSpec : CmdSpec := CmdSpec.sync 0x0804 .shared [(0x08, 1), (0x0A, 2)]
  (fun _ c => decide (c.u 0x08 1 ≤ 3) && decide (c.u 0x0A 2 ≤ 255)) mbClashRearmRun

/-- MB_CLASH_REARM (R159, R368). -/
def execMbClashRearm (t : Take) (s : State) : Host.Outcome State Fault Refusal := .next (takeState mbClashRearmSpec t s)

/-- MB_STATUS. -/
def mbStatusRun (c : Cmd) (s : State) : Reply :=
  let m := c.u 0x08 1
  Reply.okWith (le 1 (rd s (MBUS_STAT_TEC m)) ++ le 1 (rd s (MBUS_STAT_REC m)) ++ le 1 (rd s (MBUS_STAT_ERR_STATE m)) ++
    le 1 (rd s (SLEEP_BUSCTL_XSTATE m)) ++ le 4 (rd s (MBUS_CNT m 10)) ++ le 4 (rd s (MBUS_CNT m 6))) s

/-- The row of MB_STATUS. -/
def mbStatusSpec : CmdSpec := CmdSpec.sync 0x0805 .rd [(0x08, 1)] (fun _ c => decide (c.u 0x08 1 ≤ 3)) mbStatusRun

/-- MB_STATUS (R159). -/
def execMbStatus (t : Take) (s : State) : Host.Outcome State Fault Refusal := .next (takeState mbStatusSpec t s)

end Sys2Proof.Machine
end

