-- ==== Sys2Proof/Machine/Load.lean ====
section
/-! DEFINITION. The load channels and the LOAD group (15_load_channels.md, R162, R163). -/

namespace Sys2Proof.Machine

/-! ## Classes, groups, pairs (R40, R395, R396) -/

/-- Rating in mA. -/
def lchRating (n : Nat) : Nat := if n < 8 then 6000 else if n < 12 then 15000 else 1500
/-- Class limit in mA. -/
def lchLimit (n : Nat) : Nat := lchRating n * 5 / 4
/-- Inrush maximum in mA. -/
def lchInrush (n : Nat) : Nat := lchRating n * 4
/-- ADC LSB in µA. -/
def lchLsb (n : Nat) : Nat := if n < 8 then 5859 else if n < 12 then 14648 else 1465
/-- VHV group, which is also the thermal cluster (R40, R400). -/
def lchGroup (n : Nat) : Nat := if n < 4 then 0 else if n < 8 then 1 else if n < 10 then 2 else if n < 12 then 3 else if n < 14 then 0 else 1

/-- The other channel of a pair. -/
def lchMate (n : Nat) : Nat := if n % 2 = 0 then n + 1 else n - 1

/-- The channel runs as one paralleled pair (R396). -/
def lchPaired (s : State) (n : Nat) : Bool := decide (8 ≤ n ∧ n < 12) && rdB s (LCH_CFG_PAR n) && rdB s (LCH_CFG_PAR (lchMate n))

/-- The channel whose machine governs: the lower of a pair. -/
def lchLead (s : State) (n : Nat) : Nat := if lchPaired s n then 2 * (n / 2) else n

/-- The channels that a machine governs. -/
def lchBoth (s : State) (n : Nat) : List Nat := if lchPaired s n then [2 * (n / 2), 2 * (n / 2) + 1] else [n]

/-- A channel's state beyond its registers. -/
def lchSt (s : State) (n : Nat) : LchSt := lookupD s.load.ch n LchSt.init
/-- Sets it. -/
def setLch (n : Nat) (v : LchSt) (s : State) : State := { s with load := { s.load with ch := putD s.load.ch n v LchSt.init } }

/-- The group is usable (R406). -/
def groupUsable (s : State) (g : Nat) : Bool := bit s.load.usable.toNat g && s.load.pgnd

/-- The node's own line die drives the channel's stage (R413). -/
def lchDriven (s : State) (n : Nat) : Bool :=
  isActive s || (decide (role s = 1) && decide (rd s (LCH_CFG_WIRING n) = 1 ∨ rd s (LCH_CFG_WIRING n) = 2))

/-! ## Trip profiles (R397, R398) -/

/-- ROM profiles as points (µs, % of the rating) (R398). -/
def romProfile : Nat → List (Nat × Nat)
  | 0 => [(0, 400), (2000, 400), (5000, 350), (10000, 300), (20000, 220), (30000, 170), (40000, 140), (50000, 125)]
  | 1 => [(0, 300), (200, 250), (500, 200), (1000, 150), (2000, 125), (3000, 125), (4000, 125), (5000, 125)]
  | 2 => [(0, 400), (5000, 400), (15000, 350), (25000, 300), (35000, 250), (45000, 200), (55000, 150), (65000, 125)]
  | 3 => [(0, 200), (1000, 180), (2000, 160), (4000, 150), (8000, 140), (16000, 135), (32000, 130), (64000, 125)]
  | 4 => [(0, 200), (500, 180), (1000, 160), (2000, 150), (3000, 140), (5000, 130), (8000, 125), (10000, 125)]
  | 5 => [(0, 150), (200, 150), (500, 140), (1000, 130), (2000, 125), (3000, 125), (4000, 125), (5000, 125)]
  | _ => []

/-- Points (µs, mA) of a channel's profile. A user profile that LCH_PROFILE never wrote, and a type that R163 does not list, is eight points of
time 0 at the class limit. -/
def profileOf (s : State) (n : Nat) : List (Nat × Nat) :=
  let t := rd s (LCH_CFG_TYPE n)
  if t ≤ 5 then (romProfile t).map (fun p => (p.1, p.2 * lchRating n / 100))
  else (s.load.profiles.lookup t).getD (List.replicate 8 (0, lchLimit n))

/-- Length of the inrush window in µs: the time of the eighth point. -/
def inrushUs (s : State) (n : Nat) : Nat := match (profileOf s n)[7]? with | none => 0 | some p => p.1

/-- The limit of the last point at or before t; the first point's before any. -/
def pointLimit (l : List (Nat × Nat)) (t : Nat) : Nat := l.foldl (fun a p => if p.1 ≤ t then p.2 else a) ((l.head?.getD (0, 0)).2)

/-- The trip level in mA at t µs after the start of the window (R397); 2 ms after a takeover it is the inrush maximum (R413). -/
def tripLevel (s : State) (n t : Nat) : Nat :=
  let base := if s.load.takeover ∧ rd s (LCH_STAT_STATE n) = 2 then lchInrush n
    else if t < inrushUs s n then min (pointLimit (profileOf s n) t) (lchInrush n) else lchLimit n
  if rdB s (LCH_STAT_DERATED n) then base * 7 / 8 else base

/-! ## Reports (R416, R418) -/

/-- A fault code of a channel: FAULT, LCH_FAULTn, FAULTn. -/
def lchFault (n code : Nat) (s : State) : State := raise (wrBit (wr s (LCH_STAT_FAULT n) code) (LCH_FAULT n) (code - 1) true) 0x051 n

/-- A fault code with a record of FAULTn. -/
def lchFaultRec (n code : Nat) (s : State) : State := recordEvent (lchFault n code s) 0x051 n code (some n)

/-- A counter of 16 bits that saturates. -/
def lchTrips (n : Nat) (s : State) : State := incSat s (LCH_CNT_TRIPS n)

/-! ## Machine (R399) -/

/-- What a pair's higher channel shows of the lower one's machine and control register (R396). -/
def mirrorPair (n : Nat) (s : State) : State :=
  if lchPaired s n then
    let a := 2 * (n / 2)
    let b := a + 1
    let s := wr (wr s (LCH_STAT_STATE b) (rd s (LCH_STAT_STATE a))) (LCH_STAT_BUSY b) (rd s (LCH_STAT_BUSY a))
    let s := wr (wr s (LCH_STAT_HELD b) (rd s (LCH_STAT_HELD a))) (LCH_STAT_TRIPPED b) (rd s (LCH_STAT_TRIPPED a))
    let s := wr (wr s (LCH_STAT_COUNT b) (rd s (LCH_STAT_COUNT a))) (LCH_STAT_INRUSH b) (rd s (LCH_STAT_INRUSH a))
    wr (wr s (LCH_CTL_EN b) (rd s (LCH_CTL_EN a))) (LCH_CTL_DUTY b) (rd s (LCH_CTL_DUTY a))
  else s

/-- The governing channel enters a state; BUSY in STARTING, STOPPING and TESTING; leaving ON restarts the open-load sums (R403). -/
def toState (n st : Nat) (s : State) : State :=
  let s := if rd s (LCH_STAT_STATE n) = 2 ∧ st ≠ 2 then
      forEach (lchBoth s n) (fun k t => setLch k { lchSt t k with olBelow := 0, olAbove := 0 } t) s else s
  mirrorPair n (wrB (wr s (LCH_STAT_STATE n) st) (LCH_STAT_BUSY n) (decide (st = 1 ∨ st = 3 ∨ st = 7)))

/-- The held request. -/
def setHeld (n : Nat) (v : Option Bool) (s : State) : State := mirrorPair n (wrB (setLch n { lchSt s n with held := v } s) (LCH_STAT_HELD n) v.isSome)

/-- TRIPPED. -/
def setTripped (n : Nat) (v : Bool) (s : State) : State := mirrorPair n (wrB s (LCH_STAT_TRIPPED n) v)

/-- EN of the governing channel. -/
def setEn (n : Nat) (v : Bool) (s : State) : State := mirrorPair n (wrB s (LCH_CTL_EN n) v)

/-- The stage switches off. -/
def stageOff (n : Nat) (s : State) : State := setLch n { lchSt s n with offAt := nowNs s, demagDone := false } s

/-- STARTING: the inrush window starts (R397). -/
def enterStarting (n : Nat) (s : State) : State :=
  let s := setLch n { lchSt s n with retryDue := none, dueNow := false } s
  toState n 1 (mirrorPair n (wrB s (LCH_STAT_INRUSH n) (decide (inrushUs s n ≠ 0))))

/-- STOPPING with its switch-off. -/
def enterStopping (n : Nat) (s : State) : State := toState n 3 (stageOff n s)

/-- SUPPLY_OFF: each channel of the machine reports SUPPLY (R396, R406). -/
def enterSupplyOff (n : Nat) (s : State) : State := forEach (lchBoth s n) (fun k t => lchFault k 5 t) (toState n 6 s)

/-- STARTING, or SUPPLY_OFF where the group is unusable. -/
def startOrSupply (n : Nat) (s : State) : State := if groupUsable s (lchGroup n) then enterStarting n s else enterSupplyOff n s

/-- An enable written on the governing channel (R103, R399). -/
def enWrite (n : Nat) (v : Bool) (s : State) : State :=
  let s := setEn n v s
  match rd s (LCH_STAT_STATE n) with
  | 0 => if v then (if rd s (LCH_STAT_FAULT n) = 2 then setEn n false s else startOrSupply n s) else s
  | 1 => setHeld n (some v) s
  | 2 => if v then s else enterStopping n s
  | 3 => setHeld n (some v) (setTripped n false s)
  | 4 => if v then s else toState n 0 (setLch n { lchSt s n with retryDue := none, dueNow := false } s)
  | 6 => if v then s else enterStopping n s
  | 7 => setHeld n (some v) s
  | _ => s

/-- CHANNEL_START_COMPLETE: 20 µs after entry; a held 0 stops the channel again (R103, R399). -/
def startComplete (n : Nat) (s : State) : State :=
  if rd s (LCH_STAT_STATE n) ≠ 1 ∨ lchLead s n ≠ n then s
  else
    let h := (lchSt s n).held
    let s := setHeld n none s
    if h = some false then enterStopping n s else toState n 2 s

/-- CHANNEL_START_COMPLETE of a channel. -/
def execChannelStartComplete (n : Fin 16) (s : State) : Host.Outcome State Fault Refusal := .next (whenRun s (startComplete n.val))

/-- DEMAG_END (R409). -/
def demagEnd (n : Nat) (s : State) : State :=
  if rd s (LCH_STAT_STATE n) = 3 then setLch n { lchSt s n with demagDone := true } s else s

/-- DEMAG_END of a channel. -/
def execDemagEnd (n : Fin 16) (s : State) : Host.Outcome State Fault Refusal := .next (whenRun s (demagEnd n.val))

/-- RETRY_DELAY in ns; 0 acts as 1 ms. -/
def retryDelay (s : State) (n : Nat) : Nat := 1000000 * max 1 (rd s (LCH_CFG_RETRY_DELAY n))

/-- Retries used up: OFF, EN := 0, RETRY_EXHAUSTED with its record. -/
def exhausted (n : Nat) (s : State) : State := lchFaultRec n 2 (setEn n false (toState n 0 s))

/-- CHANNEL_STOP_COMPLETE: the rows of R399 first, then R103. -/
def stopComplete (n : Nat) (s : State) : State :=
  if rd s (LCH_STAT_STATE n) ≠ 3 ∨ lchLead s n ≠ n ∨ (lchBoth s n).all (fun k => (lchSt s k).demagDone || decide (k ≠ n)) = false then s
  else
    let h := (lchSt s n).held
    let tripped := rdB s (LCH_STAT_TRIPPED n)
    let s := setTripped n false (setHeld n none s)
    if (lchBoth s n).any (fun k => rdB s (LCH_STAT_LATCH k)) then toState n 5 s
    else if tripped then
      if rd s (LCH_STAT_COUNT n) < rd s (LCH_CFG_RETRY_MAX n) then
        toState n 4 (setLch n { lchSt s n with retryDue := some (max (nowNs s) ((lchSt s n).offAt + retryDelay s n)), dueNow := false } s)
      else exhausted n s
    else if h = some true then startOrSupply n s
    else toState n 0 s

/-- CHANNEL_STOP_COMPLETE of a channel. -/
def execChannelStopComplete (n : Fin 16) (s : State) : Host.Outcome State Fault Refusal := .next (whenRun s (stopComplete n.val))

/-- A trip of the governing machine: TRIPPED unless a request is held (R399). -/
def machineTrip (n : Nat) (s : State) : State :=
  let s := if (lchSt s n).held.isNone then setTripped n true s else s
  enterStopping n s

/-- A trip of channel n acts: SHORT on the channel that detected it, its count, the stop of its machine (R396, R397). -/
def tripActs (n : Nat) (s : State) : State :=
  let a := lchLead s n
  if rd s (LCH_STAT_STATE a) = 1 ∨ rd s (LCH_STAT_STATE a) = 2 then machineTrip a (lchTrips n (lchFault n 1 s)) else s

/-- A junction at 175 °C: LATCH, THERMAL with its record, the stop of its machine. -/
def thermalActs (n : Nat) (s : State) : State :=
  let a := lchLead s n
  if rd s (LCH_STAT_STATE a) = 1 ∨ rd s (LCH_STAT_STATE a) = 2 then
    enterStopping a (wrB (lchFaultRec n 3 s) (LCH_STAT_LATCH n) true)
  else s

/-- An entry of class 5 in the contribution of a joined node. -/
def journalOther (i : JItem) (s : State) : State := if joined s then { s with twin := { s.twin with own := s.twin.own ++ [⟨5, i, true⟩] } } else s

/-- CHANNEL_TRIP on a stage that this node drives; a joined node journals it (R413). -/
def channelTrip (n : Fin 16) (s : State) : State := if lchDriven s n.val then journalOther (.trip n false) (tripActs n.val s) else s

/-- CHANNEL_TRIP of a channel. -/
def execChannelTrip (n : Fin 16) (s : State) : Host.Outcome State Fault Refusal := .next (whenRun s (channelTrip n))

/-- THERMAL_SHUTDOWN of a channel (R399). -/
def thermalShutdown (n : Fin 16) (s : State) : State := if lchDriven s n.val then journalOther (.trip n true) (thermalActs n.val s) else s

/-- THERMAL_SHUTDOWN. -/
def execThermalShutdown (n : Fin 16) (s : State) : Host.Outcome State Fault Refusal := .next (whenRun s (thermalShutdown n))

/-- Another channel of the cluster is in its inrush window (R400). -/
def clusterBusy (s : State) (n : Nat) : Bool :=
  (List.range 16).any (fun k => decide (lchLead s k ≠ n ∧ lchGroup k = lchGroup n) && rdB s (LCH_STAT_INRUSH k))

/-- A retry: STARTING, count + 1. -/
def retryNow (n : Nat) (s : State) : State :=
  enterStarting n (incSat (mirrorPair n (wr s (LCH_STAT_COUNT n) (rd s (LCH_STAT_COUNT n) + 1))) (LCH_CNT_RETRIES n))

/-- RETRY_DUE (R399, R400): SUPPLY_OFF on an unusable group, a wait on a neighbour in inrush, otherwise the retry. -/
def retryDue (n : Nat) (s : State) : State :=
  if rd s (LCH_STAT_STATE n) ≠ 4 ∨ lchLead s n ≠ n then s
  else if groupUsable s (lchGroup n) = false then enterSupplyOff n (setLch n { lchSt s n with retryDue := none } s)
  else if clusterBusy s n then setLch n { lchSt s n with dueNow := true } s
  else retryNow n s

/-- RETRY_DUE of a channel. -/
def execRetryDue (n : Fin 16) (s : State) : Host.Outcome State Fault Refusal := .next (whenRun s (retryDue n.val))

/-- INRUSH_WINDOW_END: the window ends; retries of the cluster that waited for it all start (R400). -/
def inrushEnd (n : Nat) (s : State) : State :=
  let s := mirrorPair n (wrB s (LCH_STAT_INRUSH n) false)
  let ready := (List.range 16).filter (fun k => (lchSt s k).dueNow && decide (lchGroup k = lchGroup n ∧ rd s (LCH_STAT_STATE k) = 4 ∧ lchLead s k = k) && !clusterBusy s k)
  forEach ready (fun k t => if groupUsable t (lchGroup k) then retryNow k t else enterSupplyOff k t) s

/-- INRUSH_WINDOW_END of a channel. -/
def execInrushWindowEnd (n : Fin 16) (s : State) : Host.Outcome State Fault Refusal := .next (whenRun s (inrushEnd n.val))

/-- RETRY_COUNT_RESET: 10 s of on-time without a trip (R402). -/
def retryCountReset (n : Nat) (s : State) : State :=
  if rd s (LCH_STAT_STATE n) = 2 then mirrorPair n (wr s (LCH_STAT_COUNT n) 0) else s

/-- RETRY_COUNT_RESET of a channel. -/
def execRetryCountReset (n : Fin 16) (s : State) : Host.Outcome State Fault Refusal := .next (whenRun s (retryCountReset n.val))

/-! ## Groups (R406, R407) -/

/-- The governing channels of a group. -/
def groupChannels (s : State) (g : Nat) : List Nat := (List.range 16).filter (fun n => decide (lchGroup n = g ∧ lchLead s n = n))

/-- A channel of a group that became unusable: its stage is off; a held 0 stops it (R399). -/
def supplyLost (n : Nat) (s : State) : State :=
  if rd s (LCH_STAT_STATE n) = 1 ∨ rd s (LCH_STAT_STATE n) = 2 then
    let h := (lchSt s n).held
    let s := enterSupplyOff n (stageOff n (setHeld n none s))
    if h = some false then enterStopping n s else s
  else s

/-- A group becomes unusable. -/
def loseGroup (g : Nat) (s : State) : State :=
  forEach (groupChannels s g) supplyLost { s with load := { s.load with usable := BitVec.ofNat 4 (clrBit s.load.usable.toNat g) } }

/-- GROUP_UNUSABLE (R406): absent, above 160 V or reversed, each with its bit and event. -/
def groupUnusable (g : Nat) (why : GroupFault) (s : State) : State :=
  let s := match why with
    | .absent => raise (wrB s (LOAD_GRPSTAT_PRESENT g) false) 0x050 0
    | .overVolt => raise (wrB s (LOAD_GRPSTAT_OVER g) true) 0x050 1
    | .reversed => raise (wrB s (LOAD_GRPSTAT_REVERSE g) true) 0x050 4
  loseGroup g s

/-- GROUP_UNUSABLE of a group. -/
def execGroupUnusable (g : Fin 4) (why : GroupFault) (s : State) : Host.Outcome State Fault Refusal := .next (whenRun s (groupUnusable g.val why))

/-- GROUP_USABLE: 1 ms in range with PGND present; its channels return with EN = 1, without counting a retry. -/
def groupReturns (g : Nat) (s : State) : State :=
  if s.load.pgnd = false then s
  else
    let s := wrB (wrB (wrB s (LOAD_GRPSTAT_PRESENT g) true) (LOAD_GRPSTAT_OVER g) false) (LOAD_GRPSTAT_REVERSE g) false
    let s := { s with load := { s.load with usable := BitVec.ofNat 4 (setBit s.load.usable.toNat g) } }
    forEach (groupChannels s g) (fun n t => if rd t (LCH_STAT_STATE n) = 6 ∧ rdB t (LCH_CTL_EN n) then enterStarting n t else t) s

/-- GROUP_USABLE of a group. -/
def execGroupUsable (g : Fin 4) (s : State) : Host.Outcome State Fault Refusal := .next (whenRun s (groupReturns g.val))

/-- GROUP_VOLTAGE_CHANGE of a usable group: UNDER, SURGE and the event SURGE. -/
def groupVoltage (g : Nat) (band : VoltBand) (s : State) : State :=
  if bit s.load.usable.toNat g = false then s
  else match band with
  | .spec => wrB (wrB s (LOAD_GRPSTAT_UNDER g) false) (LOAD_GRPSTAT_SURGE g) false
  | .under => wrB (wrB s (LOAD_GRPSTAT_UNDER g) true) (LOAD_GRPSTAT_SURGE g) false
  | .surge => raise (wrB (wrB s (LOAD_GRPSTAT_UNDER g) false) (LOAD_GRPSTAT_SURGE g) true) 0x050 2

/-- GROUP_VOLTAGE_CHANGE of a group. -/
def execGroupVoltageChange (g : Fin 4) (band : VoltBand) (s : State) : Host.Outcome State Fault Refusal := .next (whenRun s (groupVoltage g.val band))

/-- PGND loss on a governing channel (R407): with EN = 1 it goes to SUPPLY_OFF from whatever state, and each channel of the machine records SUPPLY and
then PGND_LOST; with EN = 0 it keeps its FAULT, and a start whose held request is 0 stops. -/
def pgndChannel (n : Nat) (s : State) : State :=
  let s := if rd s (LCH_STAT_STATE n) = 1 ∨ rd s (LCH_STAT_STATE n) = 2 then stageOff n s else s
  if rdB s (LCH_CTL_EN n) then
    let s := setTripped n false (setHeld n none (setLch n { lchSt s n with retryDue := none, dueNow := false } s))
    forEach (lchBoth s n) (lchFault · 6) (enterSupplyOff n s)
  else if rd s (LCH_STAT_STATE n) = 1 ∨ rd s (LCH_STAT_STATE n) = 2 then enterStopping n (setHeld n none s)
  else s

/-- PGND_LOST (R407): every group is unusable, PGND_LOST is set and recorded, each channel follows; the relay coil, which returns through PGND,
releases. -/
def pgndLost (s : State) : State :=
  if s.load.pgnd = false then s
  else
    let s := raiseRec (wrB s LOAD_STAT_PGND_LOST true) 0x050 3 6 none
    let s := { s with load := { s.load with pgnd := false, usable := 0 }, line := { s.line with bypOn := false } }
    forEach ((List.range 16).filter (fun n => decide (lchLead s n = n))) pgndChannel s

/-- PGND_LOST. -/
def execPgndLost (s : State) : Host.Outcome State Fault Refusal := .next (whenRun s pgndLost)

/-- PGND_RESTORED (R407): PGND counts as present again, and the coil is driven again unless the line die holds it off (R23). -/
def pgndRestored (s : State) : State :=
  { wrB s LOAD_STAT_PGND_LOST false with load := { s.load with pgnd := true }, line := { s.line with bypOn := !s.line.r18 && !s.line.r19 } }

/-- PGND_RESTORED. -/
def execPgndRestored (s : State) : Host.Outcome State Fault Refusal := .next (whenRun s pgndRestored)

/-! ## Current, open load, imbalance (R403, R411, R413) -/

/-- OL_THR in force: below 4 LSB of the class acts as 4 LSB. -/
def olThreshold (s : State) (n : Nat) : Nat := max (rd s (LCH_OL_THR n)) ((4 * lchLsb n + 999) / 1000)

/-- OL_TIME in samples of 100 µs; 0 acts as 1 ms. -/
def olSamples (s : State) (n : Nat) : Nat := 10 * max 1 (rd s (LCH_OL_TIME n))

/-- One counted sample of a channel (R403). -/
def olSample (n ma : Nat) (s : State) : State :=
  let c := lchSt s n
  if ma < olThreshold s n then
    let k := min (c.olBelow + 1) (olSamples s n)
    let s := setLch n { c with olBelow := k, olAbove := 0, openLoad := c.openLoad || decide (olSamples s n ≤ k) } s
    if olSamples s n ≤ k ∧ c.openLoad = false then lchFault n 4 s else s
  else
    let k := min (c.olAbove + 1) (olSamples s n)
    let clear := c.openLoad && decide (olSamples s n ≤ k)
    let s := setLch n { c with olAbove := k, olBelow := 0, openLoad := c.openLoad && !clear } s
    if clear ∧ rd s (LCH_STAT_FAULT n) = 4 then wr s (LCH_STAT_FAULT n) 0 else s

/-- mA of a code of a channel. -/
def codeMa (n code : Nat) : Nat := min 65535 (code * lchLsb n / 1000)

/-- The open-load samples of one conversion for the channels that sel names. -/
def olSamplesOf (a : AdcSample) (sel : State → Nat → Bool) (s : State) : State :=
  forEach (List.range 16) (fun n t =>
    if sel t n && decide (rd t (LCH_STAT_STATE n) = 2) && bit a.onPhase.toNat n && !rdB t (LCH_STAT_INRUSH n) && decide (rd t (LCH_OL_THR n) ≠ 0) then
      olSample n (codeMa n ((a.codes[n]?).getD 0).toNat) t
    else t) s

/-- ADC_SAMPLE (R411): codes and mA of every channel; open load on the channels that this node drives; a joined node journals its samples. -/
def adcSample (a : AdcSample) (s : State) : State :=
  if a.aligned ≠ rdB s LOAD_CTL_ADC_ALIGN then s
  else if a.aligned ∧ a.sinceUs < 100 then raise (wrB s LOAD_STAT_ADC_SKIP true) 0x050 10
  else
    let s := forEach (List.range 16) (fun n t =>
      let c := ((a.codes[n]?).getD 0).toNat
      wr (wr t (LCH_CUR_CODE n) c) (LCH_CUR_MA n) (codeMa n c)) s
    let s := olSamplesOf a lchDriven s
    if role s = 0 then journalOther (.sample a) s else s

/-- ADC_SAMPLE. -/
def execAdcSample (codes : AdcSample) (s : State) : Host.Outcome State Fault Refusal := .next (whenRun s (adcSample codes))

/-- IMBALANCE of a PAIRED_SHARED channel: reported with its record; it clears within the bound (R413). -/
def imbalance (n : Nat) (beyond : Bool) (s : State) : State :=
  if rd s (LCH_CFG_WIRING n) ≠ 1 ∨ joined s = false ∨ rdB s (LCH_STAT_INRUSH n) ∨ (lchSt s n).imb = beyond then s
  else
    let s := setLch n { lchSt s n with imb := beyond } s
    if beyond then raiseRec (lchFault n 9 s) 0x050 9 9 (some n)
    else if rd s (LCH_STAT_FAULT n) = 9 then wr s (LCH_STAT_FAULT n) 0 else s

/-- IMBALANCE of a channel. -/
def execImbalance (n : Fin 16) (beyond : Bool) (s : State) : Host.Outcome State Fault Refusal := .next (whenRun s (imbalance n.val beyond))

/-! ## Segments (R404) -/

/-- SEGMENT_FAIL: isolated, derated, reported and kept in the configuration store; an active node asks for a swap drill. Its repair is scheduled; a
spare that fails before it is in service is retired (R483). -/
def segmentFail (n seg : Nat) (s : State) : State :=
  let s := wrB (wrBit s (LCH_STAT_SEG_OK n) seg false) (LCH_STAT_DERATED n) true
  let s := raiseRec (lchFault n 0x0A s) 0x050 8 0x0A (some n)
  let s := { s with store := { s.store with segs := if s.store.segs.contains (n, seg) then s.store.segs else s.store.segs ++ [(n, seg)] } }
  let spare := decide (seg = 8) && (lchSt s n).spareFor.isNone
  let s := scheduleRepair ⟨5, n, seg, if spare then 1 else 0, if spare then 0x15 else 0x12, true⟩ s
  if role s = 0 then { s with rsv := { s.rsv with drillAsked := true } } else s

/-- SEGMENT_FAIL of a segment. -/
def execSegmentFail (n : Fin 16) (seg : Fin 9) (s : State) : Host.Outcome State Fault Refusal := .next (whenRun s (segmentFail n.val seg.val))

/-! ## PWM (R405) -/

/-- Effective duty in 0.01 % at a group voltage in 0.1 V. -/
def effDuty (s : State) (n vg : Nat) : Nat :=
  let d := min 10000 (rd s (LCH_CTL_DUTY n))
  if rdB s (LCH_CFG_COMP n) then
    if vg = 0 then (if d = 0 then 0 else 10000) else min 10000 (d * (rd s LOAD_CTL_VREF) ^ 2 / vg ^ 2)
  else d

/-- A PWM period starts: its effective duty (R405). -/
def pwmStart (n vg : Nat) (s : State) : State :=
  if rd s (LCH_STAT_STATE n) = 1 ∨ rd s (LCH_STAT_STATE n) = 2 then wr s (LCH_PWR_DUTY n) (effDuty s (lchLead s n) vg) else s

/-- PWM_PERIOD_START with the average voltage of the group in the previous period. -/
def execPwmPeriodStart (n : Fin 16) (vg : Fin 65536) (s : State) : Host.Outcome State Fault Refusal :=
  .next (whenRun s (fun s => pwmStart n.val vg.val (wr s (LOAD_VHV (lchGroup n.val)) vg.val)))

/-- A fire of use 0x12: the period of each aligned channel starts (R317, R405). -/
def pwmFire (c : Nat) (s : State) : State :=
  if rd s LOAD_CTL_PWM_CMP = c then
    forEach (List.range 16) (fun n t => if rdB t (LCH_CFG_ALIGN n) then pwmStart n (rd t (LOAD_VHV (lchGroup n))) t else t) s
  else s

/-! ## Dissipation budget (R414) -/

/-- The budget in mW: above 12,000 acts as 12,000. -/
def budgetMw (s : State) : Nat := min 12000 (rd s LOAD_BUDGET)

/-- Loss of a machine: a pair counts as one. -/
def machineLoss (s : State) (n : Nat) : Nat := (lchBoth s n).foldl (fun a k => a + rd s (LCH_PWR_LOSS k)) 0

/-- The channels that can be shed. -/
def shedCandidates (s : State) : List Nat :=
  (List.range 16).filter (fun n => decide (lchLead s n = n ∧ rd s (LCH_CFG_SHED n) ≠ 3 ∧ (rd s (LCH_STAT_STATE n) = 1 ∨ rd s (LCH_STAT_STATE n) = 2)))

/-- The channel to shed: lowest priority, then highest loss, then highest number. -/
def shedChoice (s : State) : Option Nat :=
  (shedCandidates s).foldl (fun o n =>
    match o with
    | none => some n
    | some b =>
      let pb := rd s (LCH_CFG_SHED b)
      let pn := rd s (LCH_CFG_SHED n)
      if pn < pb ∨ (pn = pb ∧ machineLoss s b ≤ machineLoss s n) then some n else o) none

/-- A channel is shed: EN := 0, BUDGET_SHED, SHED with its record. -/
def shedActs (n : Nat) (s : State) : State :=
  if rd s (LCH_STAT_STATE n) = 1 ∨ rd s (LCH_STAT_STATE n) = 2 then
    enterStopping n (setHeld n none (raiseRec (lchFault n 7 (setEn n false s)) 0x050 6 7 (some n)))
  else s

/-- The driving node sheds one channel and journals it. -/
def shedOne (s : State) : State :=
  match shedChoice s with
  | none => s
  | some n => journalOther (.shed (Fin.ofNat 16 n)) (shedActs n s)

/-- BUDGET_UPDATE: losses and temperatures; the comparison with the budget by the node that drives (R414). -/
def budgetUpdate (l : LossSample) (s : State) : State :=
  let s := forEach (List.range 16) (fun n t => wr t (LCH_PWR_LOSS n) ((l.loss[n]?).getD 0)) s
  let s := forEach (List.range 4) (fun k t => wr t (LOAD_TEMP k) ((l.temps[k]?).getD 0)) s
  let total := l.loss.foldl (· + ·) 0
  let s := wr s LOAD_STAT_LOSS (min 65535 total)
  if role s = 1 then s
  else if total ≤ budgetMw s then { wrB s LOAD_STAT_BUDGET false with load := { s.load with excess := 0 } }
  else
    let e := s.load.excess + 1
    let s := { wrB s LOAD_STAT_BUDGET true with load := { s.load with excess := e } }
    if e = 1 then raise s 0x050 5 else if (e - 1) % 10 = 0 then shedOne s else s

/-- BUDGET_UPDATE. -/
def execBudgetUpdate (losses : LossSample) (s : State) : Host.Outcome State Fault Refusal := .next (whenRun s (budgetUpdate losses))

/-- TAKEOVER_TRIP_END: the 2 ms of R413 are over. -/
def execTakeoverTripEnd (s : State) : Host.Outcome State Fault Refusal := .next (whenRun s (fun s => { s with load := { s.load with takeover := false } }))

/-! ## ISNS and SEL (R46, R412) -/

/-- LOAD_ISNS follows the claims (R412). -/
def syncIsns (s : State) : State :=
  match claimOf s 0x400 with
  | none => wr (wrB (wrB s LOAD_ISNS_CLAIMED false) LOAD_ISNS_BALL false) LOAD_ISNS_CHANNEL 0xFF
  | some c =>
    let s := wrB (wrB s LOAD_ISNS_CLAIMED true) LOAD_ISNS_BALL (decide (c.use = 1))
    if c.use = 1 then
      wr s LOAD_ISNS_CHANNEL (if (claimOf s 0x110).isSome ∧ ballReady s 4 then s.line.sel.toNat else 0xFF)
    else wr s LOAD_ISNS_CHANNEL s.load.isns

/-- SEL_CHANGE: SEL0 to SEL3 are sampled at every step tick and passed to the line die (R46). -/
def selChange (v : BitVec 4) (s : State) : State := syncIsns (wr { s with line := { s.line with sel := v } } LOAD_ISNS_SEL v.toNat)

/-- SEL_CHANGE. -/
def execSelChange (v : BitVec 4) (s : State) : Host.Outcome State Fault Refusal := .next (whenRun s (selChange v))

/-! ## LOAD group (R162) -/

/-- The page whose protected fields the LOAD commands change. -/
def lchPages (_ : State) (_ : Cmd) : List Nat := [0x051]

/-- The channels of a mask that LCH_SET acts on: the higher channel of a pair is ignored (R396). -/
def maskChannels (s : State) (mask : Nat) : List Nat := (List.range 16).filter (fun n => bit mask n && decide (lchLead s n = n))

/-- LCH_SET: duty and enable of each channel; the result names the channels whose request is held. -/
def lchSetRun (c : Cmd) (s : State) : Reply :=
  let l := maskChannels s (c.u 0x08 2)
  let v := decide (c.u 0x0A 1 = 1)
  let s := forEach l (fun n t => enWrite n v (mirrorPair n (wr t (LCH_CTL_DUTY n) (c.u 0x0C 2)))) s
  Reply.okWith (le 2 (l.foldl (fun a n => if rdB s (LCH_STAT_HELD n) then setBit a n else a) 0)) (touch 0x051 s)

/-- The row of LCH_SET. -/
def lchSetSpec : CmdSpec := { CmdSpec.sync 0x0A00 .shared [(0x08, 3), (0x0C, 2)]
  (fun _ c => decide (c.u 0x0A 1 ≤ 1) && decide (c.u 0x0C 2 ≤ 10000)) lchSetRun with pages := lchPages }

/-- LCH_SET (R162, R399). -/
def execLchSet (t : Take) (s : State) : Host.Outcome State Fault Refusal := .next (takeState lchSetSpec t s)

/-- The load types of R163. -/
def typeOk (t : Nat) : Bool := decide (t ≤ 5 ∨ (8 ≤ t ∧ t ≤ 0x0B))

/-- The channel is OFF. -/
def lchOff (s : State) (n : Nat) : Bool := decide (rd s (LCH_STAT_STATE n) = 0)

/-- What LCH_CONFIG writes on one channel. -/
def configOne (c : Cmd) (n : Nat) (s : State) : State :=
  let ty := c.u 0x09 1
  let s := wr (wr s (LCH_CFG_TYPE n) ty) (LCH_CFG_WIRING n) (c.u 0x0A 1)
  let s := wr (wr (wr s (LCH_CFG_PWM_FREQ n) (c.u 0x0C 2)) (LCH_OL_THR n) (c.u 0x0E 2)) (LCH_OL_TIME n) (c.u 0x10 2)
  wrB (wrB s (LCH_CFG_COMP n) (decide (ty = 0 ∨ ty = 3))) (LCH_CFG_PAR n) (decide (c.u 0x12 1 = 1))

/-- LCH_CONFIG: both channels of a pair where PAR is or was set (R396). -/
def lchConfigRun (c : Cmd) (s : State) : Reply :=
  let n := c.u 0x08 1
  let l := if c.u 0x12 1 = 1 then [n, lchMate n] else [n]
  let need := if c.u 0x12 1 = 1 ∨ lchPaired s n then [n, lchMate n] else [n]
  if need.all (lchOff s) = false then Reply.fail stWRONG_STATE s
  else
    let s := if lchPaired s n then wrB s (LCH_CFG_PAR (lchMate n)) false else s
    Reply.ok (touch 0x051 (mirrorPair n (forEach l (configOne c) s)))

/-- The row of LCH_CONFIG. -/
def lchConfigSpec : CmdSpec := { CmdSpec.sync 0x0A01 .shared [(0x08, 3), (0x0C, 7)]
  (fun _ c => decide (c.u 0x08 1 ≤ 15) && typeOk (c.u 0x09 1) && decide (c.u 0x0A 1 ≤ 2) && decide (50 ≤ c.u 0x0C 2 ∧ c.u 0x0C 2 ≤ 1000) &&
    decide (c.u 0x12 1 ≤ 1) && (decide (c.u 0x12 1 = 0) || decide (8 ≤ c.u 0x08 1 ∧ c.u 0x08 1 ≤ 11))) lchConfigRun with pages := lchPages }

/-- LCH_CONFIG (R162, R396). -/
def execLchConfig (t : Take) (s : State) : Host.Outcome State Fault Refusal := .next (takeState lchConfigSpec t s)

/-- The eight points of LCH_PROFILE (µs, mA). -/
def profilePoints (c : Cmd) : List (Nat × Nat) := (List.range 8).map (fun i => (c.u (0x0C + 4 * i) 2, c.u (0x0E + 4 * i) 2))

/-- Times ascend strictly. -/
def timesAscend : List (Nat × Nat) → Bool
  | a :: b :: t => decide (a.1 < b.1) && timesAscend (b :: t)
  | _ => true

/-- The row of LCH_PROFILE. -/
def lchProfileSpec : CmdSpec := CmdSpec.sync 0x0A02 .shared [(0x08, 1), (0x0C, 32)]
  (fun _ c => decide (c.u 0x08 1 ≤ 3) && timesAscend (profilePoints c))
  (fun c s => Reply.ok { s with load := { s.load with profiles := setKey s.load.profiles (8 + c.u 0x08 1) (profilePoints c) } })

/-- LCH_PROFILE (R162, R398). -/
def execLchProfile (t : Take) (s : State) : Host.Outcome State Fault Refusal := .next (takeState lchProfileSpec t s)

/-- Hottest junction of a channel's cluster is below 150 °C; LOAD_TEMP is in °C + 50. A channel's own junction is not reported, so the cluster's
hottest stands for it (log entry 21). -/
def coolEnough (s : State) (n : Nat) : Bool := decide (rd s (LOAD_TEMP (lchGroup n)) < 200)

/-- The latch of a channel clears: the LATCHED rows of R399. -/
def latchClears (n : Nat) (s : State) : State :=
  let s := wrB s (LCH_STAT_LATCH n) false
  let a := lchLead s n
  if rd s (LCH_STAT_STATE a) ≠ 5 ∨ (lchBoth s a).any (fun k => rdB s (LCH_STAT_LATCH k)) then s
  else if rdB s (LCH_CTL_EN a) then
    if rd s (LCH_STAT_COUNT a) < rd s (LCH_CFG_RETRY_MAX a) then
      toState a 4 (setLch a { lchSt s a with retryDue := some (nowNs s + retryDelay s a), dueNow := false } s)
    else exhausted a s
  else toState a 0 s

/-- One channel of LCH_CLEAR: the count first, then the latch (R401, R402). -/
def clearOne (what n : Nat) (s : State) : State :=
  let s := if bit what 1 then
      let t := mirrorPair n (wr s (LCH_STAT_COUNT n) 0)
      if rd t (LCH_STAT_FAULT n) = 2 then wr t (LCH_STAT_FAULT n) 0 else t
    else s
  if bit what 0 ∧ rdB s (LCH_STAT_LATCH n) ∧ coolEnough s n then latchClears n s else s

/-- LCH_CLEAR: the result names the channels whose latch stayed set. -/
def lchClearRun (c : Cmd) (s : State) : Reply :=
  let l := (List.range 16).filter (bit (c.u 0x08 2))
  let s := forEach l (clearOne (c.u 0x0A 1)) s
  Reply.okWith (le 2 (if bit (c.u 0x0A 1) 0 then l.foldl (fun a n => if rdB s (LCH_STAT_LATCH n) then setBit a n else a) 0 else 0)) (touch 0x051 s)

/-- The row of LCH_CLEAR. -/
def lchClearSpec : CmdSpec := CmdSpec.sync 0x0A03 .shared [(0x08, 3)] (fun _ c => decide (c.u 0x0A 1 ≤ 3)) lchClearRun

/-- LCH_CLEAR (R162, R401). -/
def execLchClear (t : Take) (s : State) : Host.Outcome State Fault Refusal := .next (takeState lchClearSpec t s)

/-- LCH_FW_TEST: an OFF channel goes to TESTING (R410). -/
def lchFwTestRun (c : Cmd) (s : State) : Reply :=
  let n := lchLead s (c.u 0x08 1)
  if lchOff s n then Reply.accepted (toState n 7 s) else Reply.fail stWRONG_STATE s

/-- The row of LCH_FW_TEST. -/
def lchFwTestSpec : CmdSpec where
  opcode := 0x0A04
  async := true
  kind := .shared
  hostOnly := false
  used := fun _ => [(0x08, 1)]
  argOk := fun _ c => decide (c.u 0x08 1 ≤ 15)
  pages := fun _ _ => []
  obj := fun _ c => .fwTest (c.u 0x08 1)
  bulk := fun _ => none
  input := fun _ => none
  run := lchFwTestRun

/-- LCH_FW_TEST (R162, R410). -/
def execLchFwTest (t : Take) (s : State) : Host.Outcome State Fault Refusal := .next (takeState lchFwTestSpec t s)

/-- FW_TEST_COMPLETE (R399, R410): FW_DONE, FW_ABSENT where the clamp conducted, and the request that was held. A test whose channel a PGND loss took to
SUPPLY_OFF completes its command and leaves the channel there. -/
def fwTestComplete (n : Nat) (absent : Bool) (us : Nat) (s : State) : State :=
  let a := lchLead s n
  if rd s (LCH_STAT_STATE a) ≠ 7 ∧ findAccepted s 0x0A04 (.fwTest n) = none then s
  else
    let s := if absent then lchFault n 8 s else s
    let s := raise s 0x050 7
    let h := (lchSt s a).held
    let s := if rd s (LCH_STAT_STATE a) ≠ 7 then s
      else
        let t := setHeld a none s
        if h = some true then startOrSupply a t else toState a 0 t
    completeObj 0x0A04 (.fwTest n) stOK (le 1 (if absent then 1 else 0) ++ zeros 3 ++ le 2 us) s

/-- FW_TEST_COMPLETE of a channel. -/
def execFwTestComplete (n : Fin 16) (absent : Bool) (demagUs : Fin 65536) (s : State) : Host.Outcome State Fault Refusal :=
  .next (whenRun s (fwTestComplete n.val absent demagUs.val))

/-- LCH_STATUS. -/
def lchStatusRun (c : Cmd) (s : State) : Reply :=
  let n := c.u 0x08 1
  Reply.okWith (le 1 (rd s (LCH_STAT_STATE n)) ++ le 1 (rd s (LCH_STAT_FAULT n)) ++ le 1 (rd s (LCH_STAT_COUNT n)) ++ le 1 (rd s (LCH_STAT_LATCH n)) ++
    le 2 (rd s (LCH_CUR_MA n)) ++ le 2 (rd s (LCH_STAT_SEG_OK n))) s

/-- The row of LCH_STATUS. -/
def lchStatusSpec : CmdSpec := CmdSpec.sync 0x0A05 .rd [(0x08, 1)] (fun _ c => decide (c.u 0x08 1 ≤ 15)) lchStatusRun

/-- LCH_STATUS (R162). -/
def execLchStatus (t : Take) (s : State) : Host.Outcome State Fault Refusal := .next (takeState lchStatusSpec t s)

/-- ISNS_SELECT: ISNS must be held by the caller in register mode (R412). -/
def isnsSelectRun (c : Cmd) (s : State) : Reply :=
  if holds s c.path 0x400 ∧ (claimOf s 0x400).map (fun k => k.use) = some 0 then
    Reply.ok (syncIsns { s with load := { s.load with isns := c.u 0x08 1 } })
  else Reply.fail stWRONG_STATE s

/-- The row of ISNS_SELECT. -/
def isnsSelectSpec : CmdSpec := CmdSpec.sync 0x0A06 .shared [(0x08, 1)] (fun _ c => decide (c.u 0x08 1 ≤ 15 ∨ c.u 0x08 1 = 0xFF)) isnsSelectRun

/-- ISNS_SELECT (R162, R412). -/
def execIsnsSelect (t : Take) (s : State) : Host.Outcome State Fault Refusal := .next (takeState isnsSelectSpec t s)

/-! ## LCH_CTLn written (R396, R399) -/

/-- A write of LCH_CTLn: duty, then the enable; discarded on the higher channel of a pair. -/
def lchCtlWrite (n v : Nat) (s : State) : State :=
  if lchLead s n ≠ n then s else enWrite n (bit v 31) (mirrorPair n (wr s (LCH_CTL_DUTY n) (v % 2 ^ 14)))

end Sys2Proof.Machine
end

