-- ==== Sys2Proof/Machine/Sync.lean ====
section
/-! DEFINITION. The steps of the time unit: fires of comparators (R314, R317 to R320), the two domains, the selected domain, the one step, slewing,
holdover and the grandmaster load (R301 to R311). -/

namespace Sys2Proof.Machine

/-! ## Fires (R314 to R319) -/

/-- The binding pseudocode of R314: the signed difference of short time and the target's low 32 bits is not negative. -/
def cmpReached (now target : Nat) : Bool := decide ((now % 2 ^ 32 + 2 ^ 32 - target % 2 ^ 32) % 2 ^ 32 < 2 ^ 31)

/-- What a fire does in its claimed use (R317); target is the comparator's target. -/
def fireUse (c u target : Nat) (s : State) : State :=
  if 1 ≤ u ∧ u ≤ 8 then trigFire (u - 1) s
  else if u = 0x10 then canCycles c target (cmpPeriod s c) s
  else if u = 0x11 then releaseFire c s
  else if u = 0x12 then pwmFire c s
  else s

/-- The next target of a periodic comparator, its period later; a one-shot is no longer armed (R315). -/
def fireNext (c : Nat) (s : State) : State :=
  if rdB s (TRIG_CMP_PERIODIC c) then
    let t := incBy s (TRIG_TGT c) (cmpPeriod s c)
    { t with time := { t.time with passed := t.time.passed.filter (· ≠ c) } }
  else disarmCmp c s

/-- A fire of an armed comparator in its claimed use, late or not (R317): its bits, CMPg, its use, its next target. -/
def fireCmp (c : Nat) (late : Bool) (s : State) : State :=
  match cmpUse s c with
  | none => s
  | some u =>
    if cmpArmed s c then
      let s := wrBit (inc s (TRIG_CMP_FIRES c)) TRIG_FIRED c true
      let s := { s with time := { s.time with firedSince := c :: s.time.firedSince.filter (· ≠ c) } }
      let s := if late then wrBit s TRIG_LATE c true else s
      let s := raiseIf (late || decide (u = 0x14)) 0x031 (c / 4) s
      fireNext c (fireUse c u (rd s (TRIG_TGT c)) s)
    else s

/-- CMP_FIRE: an armed comparator whose target the hardware holds and has reached; for the uses of the line die the target has been passed to it (R318). -/
def cmpFire (c : Nat) (s : State) : State :=
  if cmpArmed s c && !rdB s (TRIG_CMP_HELD_TCS c) && cmpReached (nowNs s) (rd s (TRIG_TGT c)) &&
      (!lineUse (cmpUse s c) || s.time.passed.contains c) then fireCmp c false s
  else s

/-- CMP_FIRE of a comparator. -/
def execCmpFire (c : Fin 32) (s : State) : Host.Outcome State Fault Refusal := .next (whenRun s (cmpFire c.val))

/-- The targets that an internal-link frame passes to the line die; one that has passed is acted on at arrival, late (R318). -/
def passTargets (s : State) : State :=
  forEach (List.range 32) (fun c s =>
    if cmpArmed s c && !rdB s (TRIG_CMP_HELD_TCS c) && lineUse (cmpUse s c) && !s.time.passed.contains c then
      let t := { s with time := { s.time with passed := c :: s.time.passed } }
      if rd t (TRIG_TGT c) < nowNs t then fireCmp c true t else t
    else s) s

/-! ## The step (R301, R302) -/

/-- A comparator re-evaluated on the new counter (R302). -/
def reevaluate (c : Nat) (s : State) : State :=
  if cmpArmed s c = false then s
  else if rdB s (TRIG_CMP_PERIODIC c) then
    let lo : Int := nowNs s + 2000
    let next := lo + ((rd s (TRIG_TGT c) : Int) - lo) % (max 1 (cmpPeriod s c) : Nat)
    let t := wr s (TRIG_TGT c) next.toNat
    let t := wrB t (TRIG_CMP_HELD_TCS c) (decide (nowNs t + 2000000000 < rd t (TRIG_TGT c)))
    { t with time := { t.time with passed := t.time.passed.filter (· ≠ c) } }
  else if rd s (TRIG_TGT c) ≤ nowNs s then fireCmp c true s
  else wrB s (TRIG_CMP_HELD_TCS c) (decide (nowNs s + 2000000000 < rd s (TRIG_TGT c)))

/-- Train time takes a value in nanoseconds of PTP time: the one step after a node reset, with STEP and its record (R301). The offsets of the
domains against train time move with it. -/
def stepTime (new : Nat) (s : State) : State :=
  let delta : Int := (new : Int) - s.time.ns
  let move (d : DomSt) : DomSt := if d.known then { d with offset := d.offset - delta } else d
  let s := { s with time := { s.time with ns := new % (2 ^ 48 * 1000000000), d0 := move s.time.d0, d1 := move s.time.d1, load := none } }
  let s := wr (wr s (TIME_OFF 0) (s32 s.time.d0.offset)) (TIME_OFF 1) (s32 s.time.d1.offset)
  let s := raiseRec (wrB s TIME_STAT_STEPPED true) 0x030 4 0 none
  forEach (List.range 32) reevaluate s

/-! ## Rates (R301, R309) -/

/-- 4 ns in units of 2^-40 ns. -/
def nominalIncr : Nat := 4 * 2 ^ 40

/-- An increment within the servo range of ±250 ppm (R301). -/
def clampIncr (n : Nat) : Nat := max (nominalIncr - nominalIncr / 4000) (min (nominalIncr + nominalIncr / 4000) n)

/-- A domain's rate with the slew's correction of 50 ppm toward an offset (R309). -/
def slewIncr (rate : Nat) (offset : Int) : Nat :=
  clampIncr (if offset = 0 then rate else if 0 < offset then rate + nominalIncr / 20000 else rate - nominalIncr / 20000)

/-- Sets the increment in force. -/
def setIncr (n : Nat) (s : State) : State := { s with time := { s.time with incr := n } }

/-! ## The selected domain (R308, R309, R311) -/

/-- The selected domain. -/
def selDom (s : State) : Nat := rd s TIME_STAT_SEL

/-- This node is the grandmaster of a domain. -/
def gmSelf (s : State) (d : Nat) : Bool := rdB s (TIME_STAT_GM_SELF d)

/-- The domain that R308 selects now; the preferred domain returns with REVERT 0 at once, otherwise at REVERT_TIMER_EXPIRY. -/
def selectNew (s : State) : Nat :=
  let mode := rd s TIME_CTL_SELECT
  if mode ≤ 1 then mode
  else
    let pref := rd s TIME_CTL_PREF
    let sel := selDom s
    if domSync s pref then (if sel = pref ∨ domSync s (1 - pref) = false ∨ rd s TIME_CTL_REVERT = 0 then pref else sel)
    else if domSync s (1 - pref) then 1 - pref
    else sel

/-- The selected domain becomes d; a change raises SELECT. -/
def applySelect (d : Nat) (s : State) : State := if d = selDom s then s else raise (wr s TIME_STAT_SEL d) 0x030 2

/-- Train time follows the selected domain: the step, holdover, or a slew, after a change of the selected domain or of its state. was tells whether
train time was synchronized before, rate the increment of its last servo state. The grandmaster of the selected domain runs from the reference (R310). -/
def followDomain (changed was : Bool) (rate : Nat) (s : State) : State :=
  let d := domSt s (selDom s)
  if rdB s TIME_STAT_STEPPED = false then
    if domSync s (selDom s) then setIncr (clampIncr d.incr) (stepTime (((s.time.ns : Int) + d.offset) % (2 ^ 48 * 1000000000 : Int)).toNat s) else s
  else if gmSelf s (selDom s) ∧ domSync s (selDom s) = false then
    let s := if rdB s TIME_STAT_HOLDOVER then s else raise (wrB s TIME_STAT_HOLDOVER true) 0x030 7
    let s := wrB s TIME_STAT_SLEWING false
    if rdB s (TIME_DOM_PPS_EN (selDom s)) then s else setIncr nominalIncr s
  else if domSync s (selDom s) = false then
    if rdB s TIME_STAT_HOLDOVER then s else setIncr rate (wrB (raise (wrB s TIME_STAT_HOLDOVER true) 0x030 7) TIME_STAT_SLEWING false)
  else
    let s := wrB s TIME_STAT_HOLDOVER false
    if changed || decide (syncThr s < d.offset.natAbs) then
      let s := if rdB s TIME_STAT_SLEWING then s else { s with time := { s.time with slewSync := was } }
      setIncr (slewIncr d.incr d.offset) (wrB s TIME_STAT_SLEWING true)
    else if rdB s TIME_STAT_SLEWING then setIncr (slewIncr d.incr d.offset) s
    else setIncr (clampIncr d.incr) s

/-- Selection and following run again after anything changed that they depend on; old is the state before that change. -/
def timeUpdate (old s : State) : State :=
  let new := selectNew s
  followDomain (decide (new ≠ selDom s)) (trainSync old) (clampIncr (domSt old (selDom old)).incr) (applySelect new s)

/-! ## Domain states (R303, R307) -/

/-- A domain stops being synchronized. -/
def domUnsync (d : Nat) (s : State) : State :=
  let s := setDom d { domSt s d with good := 0, bad := 0 } s
  if domSync s d then raise (wrB s (TIME_STAT_SYNC d) false) 0x030 d else s

/-- The clockIdentity of the node (R303). -/
def clockIdentity : Nat := 0x00EB1EFFFE * 2 ^ 24 + nodeMac % 2 ^ 24

/-- The grandmaster of a domain as the BMCA decides: identity, itself or not, slave port. A change of identity raises GMd and ends synchronization. -/
def setGm (d gm : Nat) (self : Bool) (slave : Nat) (s : State) : State :=
  let s := setDom d { domSt s d with slave := slave, offset := if self then 0 else (domSt s d).offset } (wrB s (TIME_STAT_GM_SELF d) self)
  if (domSt s d).known ∧ rd s (TIME_GM d) = gm then s
  else raise (wr (domUnsync d (setDom d { domSt s d with known := true } s)) (TIME_GM d) gm) 0x030 (5 + d)

/-- No grandmaster of a domain is known. -/
def noGm (d : Nat) (s : State) : State :=
  let s := wrB (domUnsync d s) (TIME_STAT_GM_SELF d) false
  if (domSt s d).known then raise (wr (setDom d { domSt s d with known := false } s) (TIME_GM d) 0) 0x030 (5 + d) else s

/-- gPTP messages act on a port: gPTP runs there and the port is asCapable (R303, R306). -/
def gptpPort (s : State) (p : Nat) : Bool := gptpOn s p && rdB s (TIME_LINKDLY_ASCAPABLE p)

/-- The clockClass that the node announces for a domain of its own: 6 while PPS edges arrive in time, otherwise 248 (R310); 0 where it relays. -/
def ownClass (s : State) (d : Nat) : Nat :=
  if gmSelf s d then (if rdB s (TIME_DOM_PPS_EN d) && (domSt s d).pps then 6 else 248) else 0

/-- Sends a gPTP message on the master ports of a domain: every port but its slave port. -/
def sendGptp (d kind : Nat) (s : State) : State :=
  forEach (List.range 15) (fun p s =>
    if gptpPort s p && (gmSelf s d || decide (p ≠ (domSt s d).slave)) then emit s (.gptp p d kind (ownClass s d)) else s) s

/-- A good measurement counts toward the 16 of R307; a bad one starts the count again, and two above 10 × SYNC_THR end synchronization. -/
def servoCount (d off : Nat) (s : State) : State :=
  let st := domSt s d
  let good := if off ≤ syncThr s then min 16 (st.good + 1) else 0
  let bad := if 10 * syncThr s < off then st.bad + 1 else 0
  let s := setDom d { st with good := good, bad := min 2 bad } s
  if 2 ≤ bad then domUnsync d s
  else if good = 16 ∧ domSync s d = false then raise (wrB s (TIME_STAT_SYNC d) true) 0x030 d
  else s

/-- SYNC_RX (R304, R307): a Sync on the domain's slave port is relayed on its master ports; with its Follow_Up it feeds the servo. -/
def syncRx (d p : Nat) (m : SyncMeas) (s : State) : State :=
  let st := domSt s d
  if rdB s (TIME_DOM_EN d) && gptpPort s p && st.known && !gmSelf s d && decide (st.slave = p) && m.followUp then
    let t := if rd s (TIME_GM d) = m.gm.toNat then s else setGm d m.gm.toNat false p s
    let t := sendGptp d 0 t
    let t := setDom d { domSt t d with offset := m.offset, incr := clampIncr m.increment } t
    timeUpdate s (servoCount d m.servo.natAbs (wr t (TIME_OFF d) (s32 m.offset)))
  else s

/-- SYNC_RX of a domain on a port. -/
def execSyncRx (d : Fin 2) (p : Port) (m : SyncMeas) (s : State) : Host.Outcome State Fault Refusal := .next (whenRun s (syncRx d.val p.val m))

/-- What the BMCA of a domain decides (R303): this node only where GM_CAP = 1. A node that becomes grandmaster announces it. -/
def bmca (d : Nat) (a : AnnounceMsg) (s : State) : State :=
  if a.self then
    if rdB s (TIME_DOM_GM_CAP d) then
      let was := gmSelf s d
      let t := wr (setGm d clockIdentity true 0 s) (TIME_OFF d) 0
      if was then t else sendGptp d 1 t
    else s
  else setGm d a.gm.toNat false a.slave.val s

/-- ANNOUNCE_RX (R303, R307). -/
def announceRx (d p : Nat) (a : AnnounceMsg) (s : State) : State :=
  if rdB s (TIME_DOM_EN d) && gptpPort s p then timeUpdate s (bmca d a s) else s

/-- ANNOUNCE_RX of a domain on a port. -/
def execAnnounceRx (d : Fin 2) (p : Port) (a : AnnounceMsg) (s : State) : Host.Outcome State Fault Refusal :=
  .next (whenRun s (announceRx d.val p.val a))

/-- SYNC_INTERVAL (R303): the grandmaster sends Sync, or Announce, on every port of the domain; a relay sends Announce on its master ports. -/
def syncInterval (d : Nat) (announce : Bool) (s : State) : State :=
  if rdB s (TIME_DOM_EN d) && (gmSelf s d || (announce && (domSt s d).known)) then sendGptp d (if announce then 1 else 0) s else s

/-- SYNC_INTERVAL of a domain. -/
def execSyncInterval (d : Fin 2) (announce : Bool) (s : State) : Host.Outcome State Fault Refusal := .next (whenRun s (syncInterval d.val announce))

/-- SYNC_RECEIPT_TIMEOUT (R307). -/
def syncTimeout (d : Nat) (s : State) : State := if gmSelf s d then s else timeUpdate s (domUnsync d s)

/-- SYNC_RECEIPT_TIMEOUT of a domain. -/
def execSyncReceiptTimeout (d : Fin 2) (s : State) : Host.Outcome State Fault Refusal := .next (whenRun s (syncTimeout d.val))

/-- ANNOUNCE_RECEIPT_TIMEOUT (R303, R307): the domain loses synchronization and its BMCA runs again. -/
def announceTimeout (d : Nat) (next : Option AnnounceMsg) (s : State) : State :=
  if gmSelf s d then s
  else
    let t := domUnsync d s
    timeUpdate s (match next with | none => noGm d t | some a => bmca d a t)

/-- ANNOUNCE_RECEIPT_TIMEOUT of a domain. -/
def execAnnounceReceiptTimeout (d : Fin 2) (next : Option AnnounceMsg) (s : State) : Host.Outcome State Fault Refusal :=
  .next (whenRun s (announceTimeout d.val next))

/-- REVERT_TIMER_EXPIRY (R308): in automatic selection the preferred domain, synchronized for REVERT seconds, is selected again. -/
def revertExpiry (s : State) : State :=
  let pref := rd s TIME_CTL_PREF
  if 2 ≤ rd s TIME_CTL_SELECT ∧ domSync s pref = true ∧ selDom s ≠ pref then
    followDomain true (trainSync s) (clampIncr (domSt s (selDom s)).incr) (applySelect pref s)
  else s

/-- REVERT_TIMER_EXPIRY. -/
def execRevertTimerExpiry (s : State) : Host.Outcome State Fault Refusal := .next (whenRun s revertExpiry)

/-- SLEW_DONE (R309): SLEWING clears; train time runs at the selected domain's rate. -/
def slewDone (s : State) : State :=
  if rdB s TIME_STAT_SLEWING then setIncr (clampIncr (domSt s (selDom s)).incr) (raise (wrB s TIME_STAT_SLEWING false) 0x030 3) else s

/-- SLEW_DONE. -/
def execSlewDone (s : State) : Host.Outcome State Fault Refusal := .next (whenRun s slewDone)

/-! ## Grandmaster time (R310) -/

/-- A PPS state of a domain; a grandmaster announces a change of its clockClass. -/
def setPps (d : Nat) (v : Bool) (s : State) : State :=
  let t := setDom d { domSt s d with pps := v } s
  if gmSelf t d && decide (ownClass t d ≠ ownClass s d) then sendGptp d 1 t else t

/-- PPS_EDGE of a domain with PPS_EN: an armed load is the one step; otherwise the edge disciplines the train time of a grandmaster of the selected
domain. The manual does not state the servo's law: the increment that follows is a free value within ±250 ppm. -/
def ppsEdge (d : Nat) (inTime : Bool) (s : State) : State :=
  if rdB s (TIME_DOM_EN d) && rdB s (TIME_DOM_PPS_EN d) then
    let s := setPps d inTime s
    match rdB s TIME_STAT_STEPPED, s.time.load with
    | false, some sec => stepTime (sec * 1000000000) s
    | _, _ =>
      if gmSelf s d && decide (selDom s = d) then nextFree (setIncr (clampIncr (Config.freeNat s.free)) s) else s
  else s

/-- PPS_EDGE of a domain. -/
def execPpsEdge (d : Fin 2) (inTime : Bool) (s : State) : Host.Outcome State Fault Refusal := .next (whenRun s (ppsEdge d.val inTime))

/-- PPS_STOP: the domain of a grandmaster falls back to clockClass 248. -/
def execPpsStop (d : Fin 2) (s : State) : Host.Outcome State Fault Refusal := .next (whenRun s (setPps d.val false))

/-- A write of TIME_GM_SEC_LO arms the load while STEPPED = 0, and is ignored afterwards. -/
def gmSecWrite (v : Nat) (s : State) : State :=
  if rdB s TIME_STAT_STEPPED then s
  else
    let t := wr s TIME_GM_SEC_LO v
    { t with time := { t.time with load := some (rd t TIME_GM_SEC_HI * 2 ^ 32 + rd t TIME_GM_SEC_LO) } }

/-! ## Settings -/

/-- A domain that TIME_DOMd.EN stops has no grandmaster and is not synchronized; selection and following run on the settings in force (R303, R308). -/
def timeSettings (s : State) : State :=
  timeUpdate s (forEach [0, 1] (fun d t => if rdB t (TIME_DOM_EN d) then t else noGm d t) s)

/-- TIME_SELECT writes and commits TIME_CTL.SELECT (R157, R323). -/
def timeSelectRun (c : Cmd) (s : State) : Reply := Reply.ok (timeSettings (touch 0x030 (wrBoth s TIME_CTL_SELECT (c.u 0x08 1))))

/-- The row of TIME_SELECT. -/
def timeSelectSpec : CmdSpec :=
  { CmdSpec.sync 0x0601 .shared [(0x08, 1)] (fun _ c => decide (c.u 0x08 1 ≤ 2)) timeSelectRun with pages := fun _ _ => [0x030] }

/-- TIME_SELECT (R157, R308). -/
def execTimeSelect (t : Take) (s : State) : Host.Outcome State Fault Refusal := .next (takeState timeSelectSpec t s)

end Sys2Proof.Machine
end

