-- ==== Sys2Proof/Machine/Sleep.lean ====
section
/-! DEFINITION. Sleep and wake (14_sleep_and_wake.md, R90, R161, R381 to R391): the consent ring, ORDER and ABORT, Park entry Steps 1 and 2, the
wake-request rules, the false wake, and the bus rings. -/

namespace Sys2Proof.Machine

/-! ## Sleep frames (R378, R379) -/

/-- The bytes of a sleep frame with its CRC-32C over offsets 18 to 59. -/
def sleepBytes (s : State) (dst kind : Nat) (f : SleepFrame) : List Byte :=
  let body := be 1 1 ++ be 1 kind ++ be 8 f.originUid.toNat ++ be 1 (if f.originTwin then 1 else 0) ++ be 1 f.cause.toNat ++ be 2 0 ++ be 4 f.seq.toNat ++
    be 4 f.churn.toNat ++ be 8 f.field40.toNat ++ be 8 f.excluded.toNat ++ be 4 f.field56.toNat
  macBytes dst ++ macBytes (ownTrainMac s) ++ be 2 0x8100 ++ be 2 (7 * 8192 + mgmtVid s) ++ be 2 0x88B6 ++ body ++ be 4 (crc32c body)

/-- The active sends a sleep frame ahead of every queued frame on ports of its own line, and once over T (R379). -/
def sendSleep (ports : List Nat) (dst kind : Nat) (f : SleepFrame) (s : State) : State :=
  if sendsControl s then
    let b := sleepBytes s dst kind f
    let s := forEach ports (fun p s => if linkUp s p && !secHeld s p b then transmit p b s else s) s
    if tUp s then emit s (.overT 0x0379 b) else s
  else s

/-- An ORDER or an ABORT leaves toward both ends of the train; the manual names no destination address for it, which is a free value. -/
def floodSleep (kind : Nat) (f : SleepFrame) (s : State) : State := nextFree (sendSleep [0, 1] (Config.freeNat s.free % 2 ^ 48) kind f s)

/-- A frame of this node's own origin. -/
def ownSleep (s : State) (cause seq field40 field56 : Nat) : SleepFrame :=
  ⟨ownUid s, s.fuses.twinId, BitVec.ofNat 8 cause, BitVec.ofNat 32 seq, BitVec.ofNat 32 (rd s CHURN_COUNT), BitVec.ofNat 64 field40,
   BitVec.ofNat 64 (rd s SLEEP_EXCL), BitVec.ofNat 32 field56, true⟩

/-- What the sequence held is kept by: origin and kind. -/
def sleepKey (kind : Nat) (f : SleepFrame) : Nat := f.originUid.toNat * 64 + (if f.originTwin then 32 else 0) + kind

/-- The acceptance of R379: churn count, CRC, an origin in the committed curd, for TOKEN and ORDER the manager; not a second copy, not its own. -/
def sleepAccepts (s : State) (kind : Nat) (f : SleepFrame) : Bool :=
  decide (f.churn.toNat = rd s CHURN_COUNT) && f.crcGood && (amapByUid s f.originUid).isSome &&
  (decide (kind = 0x0B) || isManager s f.originUid f.originTwin) && decide (s.sleep.seen.lookup (sleepKey kind f) ≠ some f.seq.toNat) &&
  !(decide (f.originUid = ownUid s) && decide (f.originTwin = s.fuses.twinId))

/-- The sequence of an accepted frame is held. -/
def holdSeq (kind : Nat) (f : SleepFrame) (s : State) : State :=
  { s with sleep := { s.sleep with seen := insertK s.sleep.seen (sleepKey kind f) f.seq.toNat } }

/-! ## Consent and the ring (R380 to R382) -/

/-- The wake inputs enabled in SLEEP_WAKE.EN that are active on either twin. -/
def activeInputs (s : State) : Nat := rd s SLEEP_WAKE_EN &&& (s.sleep.inputs ||| s.sleep.partnerInputs).toNat

/-- The car node consents (R380). -/
def consents (s : State) : Bool := rdB s SLEEP_CTL_CONSENT && decide (activeInputs s = 0)

/-- Car number of this node; 0 for none. -/
def ownCar (s : State) : Nat := match amapByUid s (ownUid s) with | none => 0 | some e => e.car

/-- Cars of the committed curd. -/
def carCount (s : State) : Nat := s.fwd.bank0.amap.length

/-- A car that the ring passes over: excluded, or both twins fenced or absent (R381). -/
def passedOver (s : State) (car : Nat) : Bool :=
  bit (rd s SLEEP_EXCL) (car - 1) ||
  (match amapByCar s car with
   | none => true
   | some e => decide (3 ≤ e.twin0 ∧ 3 ≤ e.twin1 ∧ (e.twin0 = 3 ∨ e.twin1 = 3)))

/-- The next stop of a token after a car, in ascending order with a wrap, with the bits of the cars passed over; fuel is the number of cars. -/
def nextStop (s : State) (fuel car acc : Nat) : Nat × Nat :=
  match fuel with
  | 0 => (car, acc)
  | fuel + 1 =>
    let c := if car ≥ carCount s then 1 else car + 1
    if c ≠ ownCar s ∧ passedOver s c then nextStop s fuel c (setBit acc (c - 1)) else (c, acc)

/-- Sends a TOKEN to the next car. -/
def passToken (f : SleepFrame) (s : State) : State :=
  let (c, acc) := nextStop s (carCount s) (ownCar s) f.field40.toNat
  match amapByCar s c with
  | none => s
  | some e => sendSleep [towardPort e] (trainMac 2 e.handle) 0x09 { f with field40 := BitVec.ofNat 64 acc } s

/-- TOKEN_RX: the car's bit, and on to the next car; both twins learn the excluded cars. -/
def tokenRx (f : SleepFrame) (s : State) : State :=
  if sleepAccepts s 0x09 f = false ∨ f.originUid = ownUid s then s
  else
    let s := wr (holdSeq 0x09 f s) SLEEP_EXCL f.excluded.toNat
    let f := if consents s then { f with field40 := BitVec.ofNat 64 (setBit f.field40.toNat (ownCar s - 1)) } else f
    passToken f s

/-- TOKEN_RX. -/
def execTokenRx (f : SleepFrame) (s : State) : Host.Outcome State Fault Refusal := .next (whenRun s (tokenRx f))

/-- This node holds the manager role. -/
def managerHere (s : State) : Bool := rdB s DEV_ROLE_SELF

/-- Seconds of awake time left; the whole time while the timer is stopped. -/
def awakeLeft (s : State) : Nat :=
  match s.sleep.timer with
  | none => rd s SLEEP_AWAKE
  | some t => rd s SLEEP_AWAKE - (nowNs s - t) / 1000000000

/-- The prepare window in ns. -/
def prepareNs (s : State) : Nat := rd s SLEEP_WIN_PREPARE * 1000000

/-- The next whole millisecond. -/
def wholeMs (t : Nat) : Nat := (t + 999999) / 1000000 * 1000000

/-! ## Order, abort and wake requests (R383 to R387, R389) -/

/-- An ORDER takes effect on this node: EXCLUDED, or PREPARE with its instant. -/
def acceptOrder (seq instant excluded : Nat) (s : State) : State :=
  let s := wr s SLEEP_EXCL excluded
  if rd s SLEEP_STAT_PHASE ≠ 0 then s
  else
    let s := { s with sleep := { s.sleep with order := some (seq, instant) } }
    if ownCar s ≠ 0 ∧ bit excluded (ownCar s - 1) then raise (wr s SLEEP_STAT_PHASE 3) 0x048 2
    else raise (wr (wr s SLEEP_STAT_PHASE 1) SLEEP_COMMIT instant) 0x048 0

/-- The manager sends an ORDER and takes it itself. -/
def sendOrder (instant : Nat) (s : State) : State :=
  let seq := s.sleep.orderSeq + 1
  let s := { s with sleep := { s.sleep with orderSeq := seq } }
  let s := floodSleep 0x0A (ownSleep s 0 seq instant (rd s SLEEP_WIN_PREPARE)) s
  acceptOrder (seq % 2 ^ 32) instant (rd s SLEEP_EXCL) s

/-- ORDER_RX. -/
def orderRx (f : SleepFrame) (s : State) : State :=
  if sleepAccepts s 0x0A f then acceptOrder f.seq.toNat f.field40.toNat f.excluded.toNat (floodSleep 0x0A f (holdSeq 0x0A f s)) else s

/-- ORDER_RX. -/
def execOrderRx (f : SleepFrame) (s : State) : Host.Outcome State Fault Refusal := .next (whenRun s (orderRx f))

/-- Completes every SLEEP_ORDER of a scope. -/
def completeOrder (scope status : Nat) (res : List Byte) (s : State) : State :=
  completeWhere (fun a => decide (a.opcode = 0x0901 ∧ a.u 0x08 1 = scope)) status res s

/-- The sleep in its prepare window is aborted: AWAKE, ABORT, no instant (R385). -/
def abortSleep (cause : Nat) (s : State) : State :=
  if rd s SLEEP_STAT_PHASE ≠ 1 then s
  else
    let s := raise (wr (wr (wr s SLEEP_STAT_PHASE 0) SLEEP_COMMIT 0) SLEEP_STAT_CAUSE cause) 0x048 1
    completeOrder 0 stWRONG_STATE (zeros 8 ++ le 1 cause) { s with sleep := { s.sleep with order := none } }

/-- ABORT_RX: the ABORT of the ORDER held. -/
def abortRx (f : SleepFrame) (s : State) : State :=
  if sleepAccepts s 0x0B f then
    let s := floodSleep 0x0B f (holdSeq 0x0B f s)
    match s.sleep.order with
    | some (seq, _) => if seq = f.seq.toNat then abortSleep f.cause.toNat s else s
    | none => s
  else s

/-- ABORT_RX. -/
def execAbortRx (f : SleepFrame) (s : State) : Host.Outcome State Fault Refusal := .next (whenRun s (abortRx f))

/-- Bit of a wake source. -/
def wakeBit : WakeSrc → Nat
  | .wakeTl => 0
  | .cpl1 => 1
  | .cpl2 => 2
  | .lead => 3
  | .can m => 4 + m.val

/-- A wake request of an awake node (R384, R385): WAKE_REQ and CAUSE; in PREPARE an abort, or, in the last 2 ms, a request held for the wake latch.
It wakes the channels in standby or sleep (R377) and aborts bus sleeps in their window (R391). -/
def wakeRequest (cause latchBit : Nat) (s : State) : State :=
  if rd s SLEEP_STAT_PHASE = 2 then s
  else
    let s := raise (wr s SLEEP_STAT_CAUSE cause) 0x048 6
    let s := forEach [0, 1, 2, 3] (fun m s => wakeChannel m true (busAbort m cause s)) s
    if rd s SLEEP_STAT_PHASE = 1 then
      match s.sleep.order with
      | none => s
      | some (seq, instant) =>
        if nowNs s + 2000000 ≤ instant then
          let s := if cause = 4 then s else floodSleep 0x0B (ownSleep s cause seq instant 0) s
          abortSleep cause s
        else { s with sleep := { s.sleep with heldWake := BitVec.ofNat 9 (setBit s.sleep.heldWake.toNat latchBit) } }
    else s

/-- A wake input takes a level past its filter; an enabled one that becomes active is a request and answers a false wake (R384, R390). -/
def wakeInput (src : WakeSrc) (active partner : Bool) (s : State) : State :=
  let b := wakeBit src
  let put (v : BitVec 8) : BitVec 8 := BitVec.ofNat 8 (if active then setBit v.toNat b else clrBit v.toNat b)
  let s := if partner then { s with sleep := { s.sleep with partnerInputs := put s.sleep.partnerInputs } }
           else { s with sleep := { s.sleep with inputs := put s.sleep.inputs } }
  if active ∧ bit (rd s SLEEP_WAKE_EN) b then wakeRequest 1 b (answerWake s) else s

/-- WAKE_REQUEST: a bus wake counts on a channel whose CAN bit is set. -/
def wakeRequestRow (c : WakeCause) (s : State) : State :=
  match c with
  | .input src active partner => wakeInput src active partner s
  | .bus m => if bit (rd s SLEEP_WAKE_EN) (4 + m.val) then wakeRequest 2 (4 + m.val) s else s
  | .withdrawn => wakeRequest 3 8 s
  | .churn => wakeRequest 4 8 s

/-- WAKE_REQUEST. -/
def execWakeRequest (c : WakeCause) (s : State) : Host.Outcome State Fault Refusal := .next (whenRun s (wakeRequestRow c))

/-- CAN_WAKE with the wake request of its channel (R377, R384). -/
def canWakeRow (m : Fin 4) (s : State) : State :=
  if (mbusSt s m.val).commanded < 2 then s else wakeRequestRow (.bus m) (canWake m.val s)

/-- CAN_WAKE on a channel. -/
def execCanWake (m : Fin 4) (s : State) : Host.Outcome State Fault Refusal := .next (whenRun s (canWakeRow m))

/-- What a churn commit does to train sleep: exclusion ends, and the commit is a wake request (R382, R384, R389). -/
def sleepOnCommit (s : State) : State :=
  let s := if rd s SLEEP_STAT_PHASE = 3 then { wr s SLEEP_STAT_PHASE 0 with sleep := { s.sleep with order := none } } else s
  wakeRequest 4 8 (wr s SLEEP_EXCL 0)

/-! ## The manager's rounds (R381, R382) -/

/-- Bits of all cars. -/
def allCars (s : State) : Nat := 2 ^ carCount s - 1

/-- A round returned with a bitmap: it ends the ring, or feeds the awake timer. -/
def roundReturn (bits : Nat) (s : State) : State :=
  let full := allCars s
  let got := (bits ||| rd s SLEEP_EXCL) &&& full
  let s := { s with sleep := { s.sleep with roundOut := false, consentSeen := BitVec.ofNat 64 got } }
  if got = full then sendOrder (wholeMs (nowNs s + prepareNs s)) { s with sleep := { s.sleep with timer := none } }
  else if got = 0 then { s with sleep := { s.sleep with timer := none } }
  else { s with sleep := { s.sleep with timer := some (s.sleep.timer.getD (nowNs s)) } }

/-- RING_ROUND: an awake manager with RING_EN starts a round; alone on the train, its round returns at once. -/
def ringRound (s : State) : State :=
  if managerHere s && rdB s SLEEP_CTL_RING_EN && isActive s && decide (rd s SLEEP_STAT_PHASE = 0) && decide (ownCar s ≠ 0) then
    let s := { s with sleep := { s.sleep with round := s.sleep.round + 1, roundOut := true } }
    let left := match s.sleep.timer with | none => 0xFFFFFFFF | some _ => awakeLeft s
    let own := if consents s then setBit 0 (ownCar s - 1) else 0
    let (c, acc) := nextStop s (carCount s) (ownCar s) own
    if c = ownCar s then roundReturn acc s else passToken (ownSleep s 0 s.sleep.round own left) s
  else s

/-- RING_ROUND. -/
def execRingRound (s : State) : Host.Outcome State Fault Refusal := .next (whenRun s ringRound)

/-- ROUND_RETURN: the manager's token is back with its consent bitmap. -/
def execRoundReturn (consent : BitVec 64) (s : State) : Host.Outcome State Fault Refusal :=
  .next (whenRun s (onlyIf (managerHere s && s.sleep.roundOut && decide (rd s SLEEP_STAT_PHASE = 0)) (roundReturn consent.toNat)))

/-- ROUND_LOST: 20 ms without a return. -/
def roundLost (s : State) : State := if s.sleep.roundOut then raise { s with sleep := { s.sleep with roundOut := false } } 0x048 7 else s

/-- ROUND_LOST. -/
def execRoundLost (s : State) : Host.Outcome State Fault Refusal := .next (whenRun s roundLost)

/-- AWAKE_TIMER_EXPIRY: every car whose bit was clear is excluded, with one record that names each. -/
def awakeExpiry (s : State) : State :=
  match s.sleep.timer with
  | none => s
  | some _ =>
    let out := allCars s - (s.sleep.consentSeen.toNat &&& allCars s)
    let cars := (List.range 64).filter (fun c => bit out c)
    let s := wr { s with sleep := { s.sleep with timer := none } } SLEEP_EXCL (rd s SLEEP_EXCL ||| out)
    forEach cars (fun c s => recordEvent s 0x048 2 0 (some (c + 1))) (raise s 0x048 2)

/-- AWAKE_TIMER_EXPIRY. -/
def execAwakeTimerExpiry (s : State) : Host.Outcome State Fault Refusal := .next (whenRun s (onlyIf (managerHere s) awakeExpiry))

/-! ## Park entry, Steps 1 and 2 (R90) -/

/-- The pulse of R387 starts, unless one runs. -/
def driveTl (s : State) : State := { s with park := { s.park with tlPulse := true } }

/-- The wake source bit of DEV_RSTCAUSE, held in the park domain (R80, R88). -/
def wakeCauseBit (b : Nat) (s : State) : State :=
  if b = 0 then wr s DEV_RSTCAUSE_WAKE_TL 1
  else if b = 1 then wr s DEV_RSTCAUSE_WAKE_CPL1 1
  else if b = 2 then wr s DEV_RSTCAUSE_WAKE_CPL2 1
  else if b = 3 then wr s DEV_RSTCAUSE_WAKE_LEAD 1
  else if b < 8 then wrBit s DEV_RSTCAUSE_WAKE_CAN (b - 4) true
  else s

/-- A source sets the wake latch; one of TL_FWD other than WAKE_TL drives WAKE_TL (R386, R92). -/
def latchWake (fwd b : Nat) (s : State) : State :=
  let s := wakeCauseBit b { s with park := { s.park with latch := BitVec.ofNat 9 (setBit s.park.latch.toNat b) } }
  if b ≠ 0 ∧ bit fwd b then driveTl s else s

/-- A channel's machine in Park entry: its enable clears, a driven stage switches off with demagnetization. -/
def parkChannel (n : Nat) (s : State) : State :=
  if lchLead s n ≠ n then s
  else
    let st := rd s (LCH_STAT_STATE n)
    let s := setEn n false s
    if st = 1 ∨ st = 2 then enterStopping n s else if st = 4 ∨ st = 6 then toState n 0 s else s

/-- The first 16 bytes of the digest of the last committed curd as four words. -/
def digestWords (d : List Byte) : List Word := (List.range 4).map (fun i => BitVec.ofNat 32 (leAt d (4 * i) 4))

/-- Park entry, Steps 1 and 2: the latch is armed and takes held requests; drive-enable off, loads off, transceivers to sleep; the deferred record
and the Park entry record are written, and the last committed curd is saved. -/
def parkEntry (s : State) : State :=
  let s := { s with park := { s.park with armed := true, latch := 0 }, sleep := { s.sleep with parkAt := none, order := none } }
  let s := wr (wr s SLEEP_STAT_PHASE 2) SLEEP_COMMIT 0
  let held := s.sleep.heldWake.toNat
  let s := forEach (List.range 9) (fun b s => if bit held b then latchWake (rd s SLEEP_WAKE_TL_FWD) b s else s) s
  let s := { s with sleep := { s.sleep with heldWake := 0 } }
  let s := wrB s TWIN_STAT_DRIVE_EN false
  let s := forEach (List.range 16) parkChannel s
  let s := forEach [0, 1, 2, 3] (fun m s => syncXcvr m (setMbus m { mbusSt s m with commanded := 3 } s)) s
  let s := record (flushHeld s) 0x0200 2 (digestWords s.churn.digest)
  match s.churn.curd with
  | none => s
  | some c => { s with store := { s.store with curd := some c, curdDigest := s.churn.digest } }

/-- SLEEP_COMMIT_INSTANT: every node that holds the ORDER begins Park entry, unless its car is excluded; SLEEP_ORDER completes with the instant. -/
def sleepCommit (s : State) : State :=
  match s.sleep.order with
  | none => s
  | some (_, instant) =>
    let s := completeOrder 0 stOK (le 8 instant ++ le 1 0) s
    if rd s SLEEP_STAT_PHASE = 1 then parkEntry s else { s with sleep := { s.sleep with order := none } }

/-- SLEEP_COMMIT_INSTANT. -/
def execSleepCommitInstant (s : State) : Host.Outcome State Fault Refusal := .next (whenRun s sleepCommit)

/-- PARK_COMMAND_INSTANT: the instant that SLEEP_PARK, or a false wake, named. -/
def execParkCommandInstant (s : State) : Host.Outcome State Fault Refusal :=
  .next (whenRun s (onlyIf (s.sleep.parkAt.isSome && decide (rd s SLEEP_STAT_PHASE ≠ 2)) parkEntry))

/-- WAKE_IN_PARK (R92): from Step 1 on an enabled source sets the latch; in Park the enables are those written at Step 4. -/
def wakeInPark (src : WakeSrc) (s : State) : State :=
  if s.park.armed = false then s
  else
    let parked := decide (s.phase ≠ .running)
    let en := if parked then s.park.wakeEn.toNat else rd s SLEEP_WAKE_EN
    let fwd := if parked then s.park.tlFwd.toNat else rd s SLEEP_WAKE_TL_FWD
    if bit en (wakeBit src) then latchWake fwd (wakeBit src) s else s

/-- WAKE_IN_PARK of a source. -/
def execWakeInPark (src : WakeSrc) (s : State) : Host.Outcome State Fault Refusal := .next (wakeInPark src s)

/-- FALSE_WAKE_EXPIRY (R390): the timer still runs; FALSE_WAKE with its record, and Park at the next step tick without a WAKE_TL pulse. -/
def falseWake (s : State) : State :=
  if rd s SLEEP_STAT_FW_RUN = 0 then s
  else
    let s := raiseRec (wr s SLEEP_STAT_FW_RUN 0) 0x048 5 0 none
    { s with sleep := { s.sleep with parkAt := some (nowNs s + 1000) } }

/-- FALSE_WAKE_EXPIRY. -/
def execFalseWakeExpiry (s : State) : Host.Outcome State Fault Refusal := .next (whenRun s falseWake)

/-- The effect of a write of 1 to TL_PULSE: the active or solo node drives WAKE_TL, unless a pulse runs (R387). -/
def tlPulseWrite (s : State) : State := if isActive s then driveTl s else s

/-- TL_PULSE_END: TL_WIDTH has passed. -/
def execTlPulseEnd (s : State) : Host.Outcome State Fault Refusal := .next { s with park := { s.park with tlPulse := false } }

/-! ## Bus sleep (R391) -/

/-- The objects of a channel meet R391: TOBJ an FD transmit object of class 2 with length 12, ROBJ an FD receive object. -/
def ringObjectsOk (s : State) (m : Nat) : Bool :=
  (match objAt s m (rd s (SLEEP_BUSCTL_TOBJ m)) with | none => false | some o => o.tx && decide (o.format = 1 ∧ o.cls = 2 ∧ o.len = 12)) &&
  (match objAt s m (rd s (SLEEP_BUSCTL_ROBJ m)) with | none => false | some o => !o.tx && decide (o.format = 1))

/-- Roster entry w, 0 to 63, is PRESENT and linked to channel m (R299). -/
def onChannel (s : State) (m w : Nat) : Bool :=
  decide (rd s (DEV_WRK_STATE w) = 2) && decide (rd s (DEV_WRK_STATE_LINK1 w) = 0x80 + m ∨ rd s (DEV_WRK_STATE_LINK2 w) = 0x80 + m)

/-- The PRESENT workers of a channel as a bitmap. -/
def channelWorkers (s : State) (m : Nat) : Nat := (List.range 64).foldl (fun a w => if onChannel s m w then setBit a w else a) 0

/-- SLEEP_STATE in force: 0 and 1 act as 3. -/
def sleepState (s : State) (m : Nat) : Nat := let v := rd s (SLEEP_BUSCTL_SLEEP_STATE m); if v < 2 then 3 else v

/-- The awake timer of a channel, as in R382 and only while HOST_OK = 1: it starts on a round with some consent and some not, stops on none, and at its
expiry excludes the workers that did not consent. -/
def busTimer (m got want : Nat) (s : State) : State :=
  let b := mbusSt s m
  if rdB s (SLEEP_BUSCTL_HOST_OK m) = false ∨ got = 0 then setMbus m { b with ringTimer := none } s
  else match b.ringTimer with
  | none => if got = want then s else setMbus m { b with ringTimer := some (nowNs s) } s
  | some t =>
    if t + rd s SLEEP_AWAKE * 1000000000 ≤ nowNs s then
      setMbus m { b with ringTimer := none, ringExcl := BitVec.ofNat 64 (b.ringExcl.toNat ||| (want - (want &&& got))) } s
    else s

/-- BUS_RING_ROUND: the round that ends shows its consent; the next token leaves: PREPARE in the window, SLEEP at its end, otherwise a plain one. -/
def busRingRound (m : Nat) (s : State) : State :=
  if rdB s (SLEEP_BUSCTL_RING_EN m) = false ∨ pageOn s (mbusPage m) = false ∨ 2 ≤ (mbusSt s m).commanded ∨ (mbusSt s m).ringSleep then s
  else if ringObjectsOk s m = false then wrB s (SLEEP_BUSCTL_RING_ERR m) true
  else
    let s := wrB s (SLEEP_BUSCTL_RING_ERR m) false
    match (mbusSt s m).ringPrep with
    | some t =>
      if t ≤ nowNs s then
        let s := sendToken m 2 (setMbus m { mbusSt s m with ringPrep := none, ringSleep := true } s)
        if [0, 1, 2, 3].any (fun k => (mbusSt s k).ringPrep.isSome) then s else completeOrder 1 stOK (le 8 t ++ le 1 0) s
      else sendToken m 1 s
    | none =>
      let b := mbusSt s m
      let want := channelWorkers s m
      let got := b.ringNow.toNat &&& want
      let s := wr s (SLEEP_BUSCON m) b.ringNow.toNat
      let s := if b.ringRound = 0 then s else busTimer m got want s
      let done := decide (b.ringRound ≠ 0) && rdB s (SLEEP_BUSCTL_HOST_OK m) &&
        decide ((got ||| (mbusSt s m).ringExcl.toNat) &&& want = want)
      let s := setMbus m { mbusSt s m with ringRound := b.ringRound + 1, ringNow := 0,
                                           ringPrep := if done then some (wholeMs (nowNs s + prepareNs s)) else none } s
      sendToken m (if done then 1 else 0) s

/-- BUS_RING_ROUND on a channel. -/
def execBusRingRound (m : Fin 4) (s : State) : Host.Outcome State Fault Refusal := .next (whenRun s (busRingRound m.val))

/-- BUS_SLEEP_ENTRY: 1 ms after the SLEEP token the commanded state becomes SLEEP_STATE. -/
def busSleepEntry (m : Nat) (s : State) : State :=
  if (mbusSt s m).ringSleep then
    let s := setMbus m { mbusSt s m with ringSleep := false, ringRound := 0, ringNow := 0, ringTimer := none, ringExcl := 0, wokenIdle := false,
                                         commanded := sleepState s m } s
    raise (syncXcvr m s) 0x048 3
  else s

/-- BUS_SLEEP_ENTRY on a channel. -/
def execBusSleepEntry (m : Fin 4) (s : State) : Host.Outcome State Fault Refusal := .next (whenRun s (busSleepEntry m.val))

/-- BUS_FALSE_WAKE: a bus woken by its wake detection that has carried no valid frame returns to SLEEP_STATE. -/
def busFalseWake (m : Nat) (s : State) : State :=
  if (mbusSt s m).wokenIdle then syncXcvr m (setMbus m { mbusSt s m with wokenIdle := false, commanded := sleepState s m } s) else s

/-- BUS_FALSE_WAKE on a channel. -/
def execBusFalseWake (m : Fin 4) (s : State) : Host.Outcome State Fault Refusal := .next (whenRun s (busFalseWake m.val))

/-! ## Commands (R161) -/

/-- The page whose protected fields the SLEEP commands write. -/
def sleepPages (_ : State) (_ : Cmd) : List Nat := [0x048]

/-- SLEEP_CONSENT: withdrawn consent is a wake request (R384). -/
def sleepConsentRun (c : Cmd) (s : State) : Reply :=
  let had := rdB s SLEEP_CTL_CONSENT
  let v := decide (c.u 0x08 1 = 1)
  let s := touch 0x048 (wrB s SLEEP_CTL_CONSENT v)
  Reply.ok (if had && !v then wakeRequest 3 8 s else s)

/-- The row of SLEEP_CONSENT. -/
def sleepConsentSpec : CmdSpec :=
  { CmdSpec.sync 0x0900 .shared [(0x08, 1)] (fun _ c => decide (c.u 0x08 1 ≤ 1)) sleepConsentRun with pages := sleepPages }

/-- SLEEP_CONSENT (R161, R380). -/
def execSleepConsent (t : Take) (s : State) : Host.Outcome State Fault Refusal := .next (takeState sleepConsentSpec t s)

/-- The channels that a commanded bus sleep takes: those that run a ring and are awake. -/
def ringChannels (s : State) : List Nat :=
  [0, 1, 2, 3].filter (fun m => rdB s (SLEEP_BUSCTL_RING_EN m) && pageOn s (mbusPage m) && decide ((mbusSt s m).commanded < 2) && ringObjectsOk s m)

/-- SLEEP_ORDER: the train, on the manager, or this car's buses; the instant is the argument or the end of a prepare window, raised to a whole ms. -/
def sleepOrderRun (c : Cmd) (s : State) : Reply :=
  let arg := c.u 0x10 8
  let least := nowNs s + prepareNs s
  let instant := wholeMs (if arg = 0 then least else arg)
  if c.u 0x08 1 = 0 then
    if managerHere s = false ∨ rd s SLEEP_STAT_PHASE ≠ 0 then Reply.fail stWRONG_STATE s
    else if arg ≠ 0 ∧ arg < least then Reply.fail stTOO_LATE s
    else Reply.accepted (sendOrder instant s)
  else if ringChannels s = [] then Reply.fail stWRONG_STATE s
  else if arg ≠ 0 ∧ arg < least then Reply.fail stTOO_LATE s
  else Reply.accepted (forEach (ringChannels s) (fun m s => sendToken m 1 (setMbus m { mbusSt s m with ringPrep := some instant } s)) s)

/-- The row of SLEEP_ORDER. -/
def sleepOrderSpec : CmdSpec :=
  { CmdSpec.sync 0x0901 .shared [(0x08, 1), (0x10, 8)] (fun _ c => decide (c.u 0x08 1 ≤ 1)) sleepOrderRun with async := true }

/-- SLEEP_ORDER (R161, R383). -/
def execSleepOrder (t : Take) (s : State) : Host.Outcome State Fault Refusal := .next (takeState sleepOrderSpec t s)

/-- SLEEP_PARK: Park entry at an instant, 0 for the next step tick. -/
def sleepParkRun (c : Cmd) (s : State) : Reply :=
  let arg := c.u 0x10 8
  if arg ≠ 0 ∧ arg < nowNs s then Reply.fail stTOO_LATE s
  else Reply.ok { s with sleep := { s.sleep with parkAt := some (if arg = 0 then nowNs s + 1000 else arg) } }

/-- The row of SLEEP_PARK. -/
def sleepParkSpec : CmdSpec := CmdSpec.sync 0x0902 .shared [(0x10, 8)] (fun _ _ => true) sleepParkRun

/-- SLEEP_PARK (R161, R90). -/
def execSleepPark (t : Take) (s : State) : Host.Outcome State Fault Refusal := .next (takeState sleepParkSpec t s)

/-- SLEEP_TIMES (R383). -/
def sleepTimesRun (c : Cmd) (s : State) : Reply :=
  Reply.ok (touch 0x048 (wr (wr (wr s SLEEP_AWAKE (c.u 0x08 4)) SLEEP_WIN_PREPARE (c.u 0x0C 2)) SLEEP_WIN_FALSE_WAKE (c.u 0x0E 2)))

/-- The row of SLEEP_TIMES: a value outside its limit gives BAD_ARG. -/
def sleepTimesSpec : CmdSpec :=
  { CmdSpec.sync 0x0903 .shared [(0x08, 8)]
      (fun _ c => decide (1 ≤ c.u 0x08 4 ∧ c.u 0x08 4 ≤ 86400 ∧ 100 ≤ c.u 0x0C 2 ∧ c.u 0x0C 2 ≤ 10000 ∧ 500 ≤ c.u 0x0E 2 ∧ c.u 0x0E 2 ≤ 60000))
      sleepTimesRun with pages := sleepPages }

/-- SLEEP_TIMES (R161, R383). -/
def execSleepTimes (t : Take) (s : State) : Host.Outcome State Fault Refusal := .next (takeState sleepTimesSpec t s)

/-- XCVR_SET: aborts a bus sleep in its window (R391); normal and listen-only wake the channel first (R376, R377). -/
def xcvrSetRun (c : Cmd) (s : State) : Reply :=
  let m := c.u 0x08 1
  let v := c.u 0x09 1
  let s := busAbort m 0 s
  let s := if v ≤ 1 then wakeChannel m true s else s
  Reply.ok (syncXcvr m (setMbus m { mbusSt s m with commanded := v, wokenIdle := false } s))

/-- The row of XCVR_SET. -/
def xcvrSetSpec : CmdSpec := CmdSpec.sync 0x0904 .shared [(0x08, 2)] (fun _ c => decide (c.u 0x08 1 ≤ 3 ∧ c.u 0x09 1 ≤ 3)) xcvrSetRun

/-- XCVR_SET (R161, R376). -/
def execXcvrSet (t : Take) (s : State) : Host.Outcome State Fault Refusal := .next (takeState xcvrSetSpec t s)

/-- SLEEP_STATUS. -/
def sleepStatusRun (_ : Cmd) (s : State) : Reply :=
  Reply.okWith (le 1 (rd s SLEEP_STAT_PHASE) ++ zeros 3 ++ le 4 (awakeLeft s) ++ le 8 (rd s SLEEP_EXCL)) s

/-- The row of SLEEP_STATUS. -/
def sleepStatusSpec : CmdSpec := CmdSpec.sync 0x0905 .rd [] (fun _ _ => true) sleepStatusRun

/-- SLEEP_STATUS (R161). -/
def execSleepStatus (t : Take) (s : State) : Host.Outcome State Fault Refusal := .next (takeState sleepStatusSpec t s)

end Sys2Proof.Machine
end

