-- ==== Sys2Proof/Machine/SafePoint.lean ====
section
/-! DEFINITION. Safe points (R484 to R486, R481): the commit of pending repairs before a drill, on the shadow, and in Step 3 of Park entry. -/

namespace Sys2Proof.Machine

/-- A committed repair takes effect where R480 lets it act at commit: the frame engine whose number the spare takes (R214), the spare
segment of a channel (R481), the sector of bad positions (R474). -/
def applyRepair (r : Repair) (s : State) : State :=
  if bit r.flags 0 then s
  else if r.kind = 5 then
    let s := wrBit (wrBit s (LCH_STAT_SEG_OK r.inst) 8 true) (LCH_STAT_SEG_OK r.inst) r.element false
    let s := setLch r.inst { lchSt s r.inst with spareFor := some r.element } s
    wrB s (LCH_STAT_DERATED r.inst) (s.store.segs.any (fun x => decide (x.1 = r.inst ∧ x.2 ≠ r.element)))
  else if r.kind = 4 then
    let keep (b : Nat) (l : List Nat) : List Nat := l.filter (fun p => decide (sectorOf b p ≠ r.element))
    let copyTo (b : Nat) (s : State) : State :=
      forEach ((badOf s b).filter (fun p => decide (sectorOf b p = r.element))) (fun p s =>
        match (bankOf s (1 - b)).lookup p with | some x => storeCopy b p x s | none => s) s
    let s := copyTo 1 (copyTo 0 s)
    syncBad { s with rcd := { s.rcd with bad0 := keep 0 s.rcd.bad0, bad1 := keep 1 s.rcd.bad1 } }
  else if r.kind = 0 then { s with fwd := { s.fwd with failed := s.fwd.failed.filter (fun e => decide (e ≠ r.inst)) } }
  else s

/-- Burns one entry; ok tells that the read-back matches. The entry is valid, or void with free contents. LEDGER_LOW raises once at 240 entries. -/
def burnEntry (r : Repair) (point : Nat) (ok : Bool) (s : State) : State :=
  let e : LedgerEntry := ⟨r.kind, r.inst, r.element, r.flags, r.cause, point, spareIndex s r, s.store.hours, if ok then none else some s.free⟩
  let s := if ok then s else inc (nextFree s) (RSV_CNT 1)
  let s := syncRsv { s with fuses := { s.fuses with ledger := s.fuses.ledger ++ [e] } }
  raiseIf (decide (s.fuses.ledger.length = 240)) 0x070 4 s

/-- A repair whose entry reads back: applied, COMMITTED with its record, RSV_SCHEDULE completed. -/
def committed (r : Repair) (point : Nat) (s : State) : State :=
  let n := s.fuses.ledger.length - 1
  let s := inc (raiseRec (applyRepair r s) 0x070 1 0 (some r.inst)) (RSV_CNT 0)
  completeWhere (schedules r) stOK (le 1 n ++ zeros 3 ++ le 1 point) s

/-- The repair leaves the list. -/
def dropRepair (r : Repair) (s : State) : State := syncRsv { s with rsv := { s.rsv with pend := s.rsv.pend.filter (fun x => decide (x ≠ r)) } }

/-- Entries burned so far, the read-backs still to come, and the state. -/
structure Burning where
  burned : Nat
  good : List Bool
  st : State

/-- One repair at a safe point: exhausted, or burned, and once more in the next entry where the first read-back fails. A repair that no valid entry made
stays only where RSV_SCHEDULE is its cause. -/
def commitOne (point : Nat) (b : Burning) (r : Repair) : Burning :=
  if 8 ≤ b.burned then b
  else if isExhausted b.st r then { b with st := rsvExhausted r (dropRepair r b.st) }
  else
    let s := burnEntry r point (b.good.headD true) b.st
    if b.good.headD true then ⟨b.burned + 1, b.good.tail, committed r point (dropRepair r s)⟩
    else if isExhausted s r then ⟨b.burned + 1, b.good.tail, rsvExhausted r (dropRepair r s)⟩
    else if 8 ≤ b.burned + 1 then ⟨b.burned + 1, b.good.tail, s⟩
    else
      let second := b.good.tail.headD true
      let s := burnEntry r point second s
      ⟨b.burned + 2, b.good.tail.tail, if second then committed r point (dropRepair r s) else if r.cause = 0x20 then s else dropRepair r s⟩

/-- The repairs that a safe point allows: at a drill kinds 0 and 4, and kind 5 where the shadow does not drive the channel (R480). -/
def allowedAt (s : State) (drill : Bool) (r : Repair) : Bool :=
  !drill || decide (r.kind = 0 ∨ r.kind = 4) || (decide (r.kind = 5) && !lchDriven s r.inst)

/-- REFCLK_B is due at Park entry: the node runs on it, REFCLK_A has failed to qualify since the failover, and the ledger does not hold it (R73). -/
def refDue (s : State) : Bool := rdB s DEV_CLKSTAT_REF_SEL && s.clk.aBad && decide (ledgerCount s (fun e => decide (e.kind = 6)) = 0)

/-- RESERVE_SAFE_POINT: before a drill on the shadow, or in Step 3 of Park entry; at most 8 entries, in list order. -/
def safePoint (drill : Bool) (good : List Bool) (s : State) : State :=
  if (drill = true ∧ role s ≠ 1) ∨ (drill = false ∧ rd s SLEEP_STAT_PHASE ≠ 2) then s
  else
    let s := if drill = false ∧ refDue s = true then scheduleRepair ⟨6, 0, 0, 0, 0x14, true⟩ s else s
    ((s.rsv.pend.filter (allowedAt s drill)).foldl (commitOne (if drill then 0 else 1)) ⟨0, good, s⟩).st

/-- RESERVE_SAFE_POINT. -/
def execReserveSafePoint (drill : Bool) (good : List Bool) (s : State) : Host.Outcome State Fault Refusal := .next (whenRun s (safePoint drill good))

end Sys2Proof.Machine
end

