-- ==== Sys2Proof/Machine/Claims.lean ====
section
/-! DEFINITION. Resource claims (R42 to R46, R167 to R171): RES_CLAIM, RES_RELEASE, RES_QUERY, and what a claim and its release do to the
resource. -/

namespace Sys2Proof.Machine

/-- A resource identifier with an instance of its class (R168). -/
def resOk (r : Nat) : Bool :=
  decide ((r / 256 = 1 ∧ (4 ≤ r % 256 ∧ r % 256 ≤ 7 ∨ r % 256 = 0x10)) ∨ ((r / 256 = 2 ∨ r / 256 = 3) ∧ r % 256 ≤ 0x1F) ∨ r = 0x400)

/-- Instance 0xFF of a class that has several (R168). -/
def resAny (r : Nat) : Bool := decide (r = 0x2FF ∨ r = 0x3FF)

/-- A use that R169 lists for the class of a resource. -/
def useOk (r use : Nat) : Bool :=
  if r / 256 = 2 then decide ((1 ≤ use ∧ use ≤ 8) ∨ (0x10 ≤ use ∧ use ≤ 0x14))
  else if r / 256 = 4 then decide (use ≤ 1)
  else decide (use = 0)

/-- The claim that stands against another one of a resource with a use (R43, R316); the resource itself is not looked at. -/
def conflictOf (claims : List Claim) (r use : Nat) : Option Claim :=
  if r = 0x110 then claims.find? (fun c => decide (c.res = 0x104))
    |>.orElse (fun _ => claims.find? (fun c => decide (c.res = 0x105)))
    |>.orElse (fun _ => claims.find? (fun c => decide (c.res = 0x106)))
    |>.orElse (fun _ => claims.find? (fun c => decide (c.res = 0x107)))
  else if r / 256 = 1 then claims.find? (fun c => decide (c.res = 0x110))
  else if r / 256 = 2 ∧ 1 ≤ use ∧ use ≤ 8 then claims.find? (fun c => decide (c.res / 256 = 2 ∧ c.use = use ∧ c.res ≠ r))
  else none

/-- The holder block of R170 as result bytes from offset 8. -/
def holderBlock (c : Claim) : List Byte :=
  le 2 c.res ++ le 1 c.kind ++ le 1 c.ring ++ le 4 c.tag ++ le 8 c.settled ++ le 2 c.handle ++ le 1 c.twin ++ le 1 c.use

/-- The waits of R46 at the release of a ball: SEL takes all four balls with it. -/
def ballRelease (r : Nat) (s : State) : State :=
  if r = 0x110 then forEach (List.range 5) (fun b t => wr t (NODE_BALL_WAIT b) 2) s
  else wr (wr s (NODE_BALL_WAIT (r - 0x104)) 2) (NODE_BALL_WAIT 4) 2

/-- A claim takes force: a comparator shows its use; ISNS and SEL act on the mirror channel (R412). -/
def takeClaim (c : Claim) (s : State) : State :=
  let s := { s with claims := s.claims ++ [c] }
  syncIsns (if c.res / 256 = 2 then wr s (TRIG_CMP_USE (c.res % 256)) c.use else s)

/-- A claim ends (R46, R171, R319, R332, R363). -/
def dropClaim (r : Nat) (s : State) : State :=
  let s := if r / 256 = 2 then
      wr (schedCmpLost (r % 256) (pubsLost (r % 256) (disarmCmp (r % 256) (endPulse (r % 256) s)))) (TRIG_CMP_USE (r % 256)) 0xFF
    else if r / 256 = 1 then ballRelease r s
    else if r = 0x400 then { s with load := { s.load with isns := 0xFF } }
    else s
  syncIsns { s with claims := s.claims.filter (fun c => decide (c.res ≠ r)) }

/-- The lowest free instance of a class (R168). -/
def freeInstance (s : State) (cls : Nat) : Option Nat :=
  (List.range 32).find? (fun k => (claimOf s (cls * 256 + k)).isNone) |>.map (fun k => cls * 256 + k)

/-- The claim that a command makes (R170): for the manager, the node that the committed curd names now. -/
def claimBy (s : State) (c : Cmd) (r use : Nat) : Claim :=
  { res := r, kind := callerKind c.path,
    ring := (match c.path with | .host n => n.val | .manager a => a.val | .partner => 0),
    tag := c.tag, settled := nowNs s,
    handle := (match c.path with | .manager _ => rd s DEV_ROLE_HANDLE | _ => 0),
    twin := (match c.path with | .manager _ => rd s DEV_ROLE_TWIN | _ => 0), use := use }

/-- RES_CLAIM: what the caller already holds with the use stays; no claim displaces a holder (R43, R171). -/
def resClaimRun (c : Cmd) (s : State) : Reply :=
  let want := c.u 0x08 2
  let use := c.u 0x0A 1
  let grant (r : Nat) : Reply :=
    match conflictOf s.claims r use with
    | some k => ⟨some stCONFLICT, holderBlock k, s, none⟩
    | none => Reply.okWith (le 2 r) (takeClaim (claimBy s c r use) s)
  if resAny want then
    match freeInstance s (want / 256) with
    | none => Reply.fail stNO_RESOURCE s
    | some r => grant r
  else match claimOf s want with
  | some k => if k.kind = callerKind c.path ∧ k.use = use then Reply.okWith (le 2 want) s else ⟨some stCONFLICT, holderBlock k, s, none⟩
  | none => grant want

/-- The row of RES_CLAIM. -/
def resClaimSpec : CmdSpec :=
  CmdSpec.sync 0x1100 .shared [(0x08, 3)] (fun _ c => (resOk (c.u 0x08 2) || resAny (c.u 0x08 2)) && useOk (c.u 0x08 2) (c.u 0x0A 1)) resClaimRun

/-- RES_CLAIM (R43, R167 to R171). -/
def execResClaim (t : Take) (s : State) : Host.Outcome State Fault Refusal := .next (takeState resClaimSpec t s)

/-- RES_RELEASE: only its holder releases a claim (R45, R171). -/
def resReleaseRun (c : Cmd) (s : State) : Reply :=
  match claimOf s (c.u 0x08 2) with
  | none => Reply.fail stWRONG_STATE s
  | some k => if k.kind = callerKind c.path then Reply.ok (dropClaim (c.u 0x08 2) s) else ⟨some stCONFLICT, holderBlock k, s, none⟩

/-- The row of RES_RELEASE. -/
def resReleaseSpec : CmdSpec := CmdSpec.sync 0x1101 .shared [(0x08, 2)] (fun _ c => resOk (c.u 0x08 2)) resReleaseRun

/-- RES_RELEASE (R45, R171). -/
def execResRelease (t : Take) (s : State) : Host.Outcome State Fault Refusal := .next (takeState resReleaseSpec t s)

/-- RES_QUERY: the holder block, with kind 0xFF when free. -/
def resQueryRun (c : Cmd) (s : State) : Reply :=
  match claimOf s (c.u 0x08 2) with
  | none => Reply.okWith (le 2 (c.u 0x08 2) ++ le 1 0xFF) s
  | some k => Reply.okWith (holderBlock k) s

/-- The row of RES_QUERY. -/
def resQuerySpec : CmdSpec := CmdSpec.sync 0x1102 .rd [(0x08, 2)] (fun _ c => resOk (c.u 0x08 2)) resQueryRun

/-- RES_QUERY (R167). -/
def execResQuery (t : Take) (s : State) : Host.Outcome State Fault Refusal := .next (takeState resQuerySpec t s)

/-! ## Claims of a configuration image (R44, R45, R152) -/

/-- The claims of a list name resources and uses and do not conflict with each other (R84, R151). -/
def claimsOk (l : List (Nat × Nat)) : Bool :=
  l.all (fun c => resOk c.1 && useOk c.1 c.2) && decide ((l.map (·.1)).Nodup) &&
  l.all (fun c => (conflictOf (l.map (fun d => ⟨d.1, 5, 0, 0, 0, 0, 0, d.2⟩)) c.1 c.2).isNone)

/-- The claim of the image. -/
def imageClaim (s : State) (c : Nat × Nat) : Claim := ⟨c.1, 5, 0, 0, nowNs s, 0, 0, c.2⟩

/-- The first claim of an image that another holder holds or stands against. -/
def imageConflict (s : State) (l : List (Nat × Nat)) : Option Claim :=
  let others := s.claims.filter (fun k => decide (k.kind ≠ 5))
  l.findSome? (fun c => (others.find? (fun k => decide (k.res = c.1))).orElse (fun _ => conflictOf others c.1 c.2))

/-- The image's claims replace those of the image before it: the ones that it no longer makes are released first. -/
def imageClaims (l : List (Nat × Nat)) (s : State) : State :=
  let gone := s.claims.filter (fun k => decide (k.kind = 5) && !l.any (fun c => decide (c.1 = k.res ∧ c.2 = k.use)))
  let s := forEach gone (fun k t => dropClaim k.res t) s
  forEach l (fun c t => if (claimOf t c.1).isSome then t else takeClaim (imageClaim t c) t) s

end Sys2Proof.Machine
end

