-- ==== Sys2Proof/Machine/Keys.lean ====
section
/-! DEFINITION. Keys, life cycle and attestation (17_keys_life_cycle_attestation.md, R165, R166): the vault, life-cycle transitions, MACsec keys, key
distribution and the Mbatis statement. -/

namespace Sys2Proof.Machine

/-! ## The vault (R453 to R456) -/

/-- A vault slot. -/
def slotAt (s : State) (n : Nat) : Slot := lookupD s.keys.slots n Slot.init

/-- KEY_VALID and the TKR ID follow the slots. -/
def syncSlots (s : State) : State :=
  let s := wr s KEY_VALID ((List.range 64).foldl (fun a n => if (slotAt s n).valid then setBit a n else a) 0)
  if (slotAt s 5).valid then s else wr s KEY_TKR 0

/-- Sets a slot. -/
def setSlot (n : Nat) (v : Slot) (s : State) : State := syncSlots { s with keys := { s.keys with slots := putD s.keys.slots n v Slot.init } }

/-- Valid slots whose parent is in a list. -/
def slotChildren (s : State) (l : List Nat) : List Nat :=
  (List.range 64).filter (fun n => (slotAt s n).valid && l.contains (slotAt s n).parent && !l.contains n)

/-- The valid descendants of slot n: levels end at 4. -/
def descendants (s : State) (n : Nat) : List Nat :=
  let grow (l : List Nat) : List Nat := l ++ slotChildren s l
  (grow (grow (grow (grow [n])))).drop 1

/-- A slot becomes invalid; its generation advances; it counts. -/
def dropSlot (n : Nat) (s : State) : State :=
  let v := slotAt s n
  if v.valid then inc (setSlot n { v with valid := false, gen := (v.gen + 1) % 2 ^ 32, key := [] } s) (KEY_CNT 0) else s

/-- A slot and all its descendants become invalid in one step tick (R455). -/
def invalidate (n : Nat) (s : State) : State :=
  let l := n :: descendants s n
  raiseIf (l.any (fun k => (slotAt s k).valid)) 0x060 0 (forEach l dropSlot s)

/-- A system slot's key is replaced: the old key and its descendants are invalidated, then the slot is filled. -/
def fillSlot (n usage level parent : Nat) (label key : List Byte) (s : State) : State :=
  let s := invalidate n s
  setSlot n ⟨true, usage, level, parent, (slotAt s n).gen, label, key⟩ s

/-- R454: KMAC256 of the parent with usage, level and label under "FZKD". -/
def deriveKey (parent : List Byte) (usage level : Nat) (label : List Byte) : List Byte :=
  Config.kmac parent (le 1 usage ++ le 1 level ++ label) 32 (be 4 0x465A4B44)

/-- The root of the life-cycle state (R444, R445). -/
def stateRoot (s : State) : List Byte :=
  if s.fuses.lc = 0 ∨ (s.fuses.lc = 1 ∧ s.fuses.enrolled = false) then Config.vendorStarter
  else if s.fuses.lc = 1 then s.fuses.intStarter
  else s.fuses.fieldStarter

/-- The slots filled in boot Step 3; an unwrap failure leaves slots 0 to 3 invalid (R453, R455). -/
def bootSlots (pufOk : Bool) (s : State) : State :=
  if s.fuses.lc = 4 then s
  else if pufOk = false then raise s 0x060 5
  else
    let s := fillSlot 0 0 0 0xFF [] (stateRoot s) s
    let s := if s.fuses.enrolled then fillSlot 1 0 0 0xFF [] s.fuses.intStarter s else s
    let s := fillSlot 2 6 1 0xFE [] (deriveKey Config.vendorStarter 6 1 []) s
    fillSlot 3 7 1 0xFE [] (deriveKey Config.vendorStarter 7 1 []) s

/-- KEY_LC follows the fuses and JTAG. -/
def syncLc (s : State) : State :=
  wrB (wrB (wrB (wrB (wr s KEY_LC_STATE s.fuses.lc) KEY_LC_ENROLLED s.fuses.enrolled) KEY_LC_MAP s.fuses.map.isSome) KEY_LC_JTAG (jtagOpen s))
    KEY_LC_MAP_FAULT (decide (s.fuses.lc = 2 ∨ s.fuses.lc = 3) && (s.fuses.mapBad || s.fuses.map.isNone))

/-! ## The KEY group (R165, R454, R455) -/

/-- The children that KEY_DERIVE accepts with a usage, and the largest level of each. -/
def deriveMax (child usage : Nat) : Nat :=
  if child = 4 ∧ usage = 2 then 4 else if child = 5 ∧ usage = 3 then 3 else if 16 ≤ child ∧ child ≤ 63 ∧ usage = 1 then 4 else 0

/-- KEY_DERIVE. The manual gives a derived slot 5 no TKR ID: it is a free value other than 0. -/
def keyDeriveRun (c : Cmd) (s : State) : Reply :=
  let p := slotAt s (c.u 0x08 1)
  let child := c.u 0x09 1
  let usage := c.u 0x0A 1
  let label := slice c.desc 0x0C (c.u 0x0B 1)
  if p.valid = false then Reply.fail stKEY_INVALID s
  else if 1 < p.usage ∨ deriveMax child usage < p.level + 1 then Reply.fail stBAD_ARG s
  else if (slotAt s child).valid then Reply.fail stNO_RESOURCE s
  else
    let g := (slotAt s child).gen
    let s := inc (setSlot child ⟨true, usage, p.level + 1, c.u 0x08 1, g, label, deriveKey p.key usage (p.level + 1) label⟩ s) (KEY_CNT 1)
    let s := if child = 5 then nextFree (wr s KEY_TKR (Config.freeNat s.free % (2 ^ 32 - 1) + 1)) else s
    Reply.okWith (le 1 (p.level + 1) ++ zeros 3 ++ le 4 g) s

/-- The row of KEY_DERIVE. -/
def keyDeriveSpec : CmdSpec :=
  CmdSpec.sync 0x0C00 .shared [(0x08, 48)]
    (fun _ c => decide (c.u 0x08 1 ≤ 63 ∧ c.u 0x0B 1 ≤ 44 ∧ deriveMax (c.u 0x09 1) (c.u 0x0A 1) ≠ 0)) keyDeriveRun

/-- KEY_DERIVE (R165, R454). -/
def execKeyDerive (t : Take) (s : State) : Host.Outcome State Fault Refusal := .next (takeState keyDeriveSpec t s)

/-- KEY_STATUS. -/
def keyStatusRun (c : Cmd) (s : State) : Reply :=
  let v := slotAt s (c.u 0x08 1)
  Reply.okWith (le 1 (if v.valid then 1 else 0) ++ le 1 v.parent ++ le 1 v.level ++ le 1 v.usage ++ le 4 v.gen) s

/-- The row of KEY_STATUS. -/
def keyStatusSpec : CmdSpec := CmdSpec.sync 0x0C02 .rd [(0x08, 1)] (fun _ c => decide (c.u 0x08 1 ≤ 63)) keyStatusRun

/-- KEY_STATUS (R165, R453). -/
def execKeyStatus (t : Take) (s : State) : Host.Outcome State Fault Refusal := .next (takeState keyStatusSpec t s)

/-! ## Key frames (R460, R461) -/

/-- One segment of a key frame: half of the key or of the ciphertext, and the 60 bytes of offset 824. -/
def keySegment (s : State) (dst kind idx id : Nat) (half tail : List Byte) : List Byte :=
  let body := be 1 1 ++ be 1 kind ++ be 8 (ownUid s).toNat ++ be 1 (twinNo s) ++ be 1 idx ++ be 2 0 ++ be 4 (rd s CHURN_COUNT) ++ be 4 id ++
    padTo 784 half ++ padTo 60 tail
  macBytes dst ++ macBytes (ownTrainMac s) ++ be 2 0x8100 ++ be 2 (6 * 8192 + mgmtVid s) ++ be 2 0x88B6 ++ body ++ be 4 (crc32c body)

/-- Both segments of a key frame to a twin of a car. -/
def sendKeyFrame (e : AmapEntry) (twin : Bool) (kind id : Nat) (data tail : List Byte) (s : State) : State :=
  let dst := trainMac (if twin then 1 else 0) e.handle
  let s := sendRemote e twin (keySegment s dst kind 0 id (data.take 784) []) s
  sendRemote e twin (keySegment s dst kind 1 id (data.drop 784) tail) s

/-- KEYREQ to the manager of the committed curd; it is outstanding until a KEYDIST answers. -/
def sendKeyReq (s : State) : State :=
  match amapByHandle s (rd s DEV_ROLE_HANDLE) with
  | none => s
  | some e =>
    let s := sendKeyFrame e (rdB s DEV_ROLE_TWIN) 0x0C (rd s KEY_TKR) Config.kemKey [] s
    inc (wrB { s with keys := { s.keys with tries := min 4 (s.keys.tries + 1) } } KEY_SEC_KEYREQ true) (KEY_CNT 2)

/-- KEYDIST with the own root to a twin of a car. The ciphertext is a function of the root and a fresh draw. -/
def sendKeyDist (e : AmapEntry) (twin : Bool) (s : State) : State :=
  let w := padTo 1628 (Config.kemWrap (slotAt s 5).key s.free)
  nextFree (sendKeyFrame e twin 0x0D (rd s KEY_TKR) (w.take 1568) (w.drop 1568) s)

/-- A fresh train key root with a nonzero random ID in slot 5 of the manager. -/
def freshRoot (s : State) : State :=
  let s := fillSlot 5 3 1 0xFF [] (Config.random s.free) s
  nextFree (wr s KEY_TKR (Config.freeNat s.free % (2 ^ 32 - 1) + 1))

/-- MACsec runs on the backbone: the train configuration in force says so. -/
def macsecOn (s : State) : Bool := match s.tcfg.inForce with | none => false | some c => c.macsec

/-- Label of a key of a churn: a four-character tag, the churn count, the curd digest and the line byte. -/
def churnLabel (s : State) (tag : Nat) : List Byte := be 4 tag ++ be 4 (rd s CHURN_COUNT) ++ padTo 16 s.churn.digest ++ be 1 (twinNo s)

/-- Slot 6 of the committed churn, where slot 5 is valid; key and salt stand in one string. -/
def fillSlot6 (s : State) : State :=
  let r := slotAt s 5
  if r.valid then
    let k := Config.kmac r.key (churnLabel s 0x465A5341) 32 (be 4 0x465A4D53) ++ Config.kmac r.key (churnLabel s 0x465A534C) 12 (be 4 0x465A4D53)
    fillSlot 6 4 (r.level + 1) 5 [] k s
  else dropSlot 6 s

/-- Slot 8 of the committed churn, where slot 1 is valid. -/
def fillSlot8 (s : State) : State :=
  let r := slotAt s 1
  if r.valid then
    let k := Config.kmac r.key (churnLabel s 0x465A4254) 32 (be 4 0x465A4D53) ++ Config.kmac r.key (churnLabel s 0x465A4253) 12 (be 4 0x465A4D53)
    fillSlot 8 5 1 1 [] k s
  else dropSlot 8 s

/-- The keys of a backbone port follow slots 6, 7 and 8; oldAn is the previous association number. -/
def installKeys (oldAn : Nat) (s : State) : State :=
  let an := rd s CHURN_COUNT % 3
  let key (n a : Nat) : List (Nat × List Byte) := if (slotAt s n).valid then [(a, (slotAt s n).key)] else []
  let l := key 6 an ++ (if oldAn = an then [] else key 7 oldAn) ++ key 8 3
  forEach [0, 1] (fun p s =>
    let s := { s with fwd := { s.fwd with secPort := setKey s.fwd.secPort p l } }
    let s := wrB (wr (wrB (wrB s (FWD_SECSTAT_ON p) true) (FWD_SECSTAT_CONF p) (rdB s KEY_SEC_CONF)) (FWD_SECSTAT_TX_AN p) an) (FWD_SECSTAT_KEYS_VALID p)
      (slotAt s 6).valid
    wrB s (FWD_SECSTAT_OLD_RX p) ((slotAt s 7).valid && decide (oldAn ≠ an))) s

/-- MACsec is off on both backbone ports. -/
def secOff (s : State) : State :=
  forEach [0, 1] (fun p s =>
    wr (wrB (wrB (wrB (wrB { s with fwd := { s.fwd with secPort := setKey s.fwd.secPort p [] } } (FWD_SECSTAT_ON p) false) (FWD_SECSTAT_CONF p) false)
      (FWD_SECSTAT_KEYS_VALID p) false) (FWD_SECSTAT_OLD_RX p) false) (FWD_SECSTAT_TX_AN p) 0) s

/-- A pending root is installed (R461). -/
def installPending (s : State) : State :=
  match s.keys.pendRoot with
  | none => s
  | some (id, root) =>
    let s := wr (fillSlot 5 3 1 3 [] root s) KEY_TKR id
    raise (wr { s with keys := { s.keys with pendRoot := none } } KEY_TKR_PEND 0) 0x060 3

/-- The keys at a commit, in its step tick (R459, R461): the pending root, the old association key, the new keys, the manager's fresh root, the
request of a node whose slot 5 is invalid or came from another manager. -/
def commitKeys (s : State) : State :=
  let s := wrB (wrB s KEY_SEC_MACSEC (macsecOn s)) KEY_SEC_CONF (match s.tcfg.inForce with | none => false | some c => c.macsec && c.conf)
  if macsecOn s = false then secOff s
  else
    let oldAn := rd s (FWD_SECSTAT_TX_AN 0)
    let old := slotAt s 6
    let self := rdB s DEV_ROLE_SELF
    let s := installPending s
    let s := if self ∧ (slotAt s 5).valid = false then freshRoot s else s
    let s := if old.valid then setSlot 7 { old with valid := true, gen := (slotAt s 7).gen } (dropSlot 7 s) else dropSlot 7 s
    let s := installKeys oldAn (fillSlot8 (fillSlot6 s))
    let s := wrB { s with keys := { s.keys with tries := 0 } } KEY_SEC_KEYREQ false
    let from_ := amapByHandle s (rd s DEV_ROLE_HANDLE)
    let same := match from_, s.keys.rootFrom with | some e, some (u, t) => decide (e.uid = u ∧ t = rdB s DEV_ROLE_TWIN) | _, _ => false
    if self = false ∧ ((slotAt s 5).valid = false ∨ same = false) then sendKeyReq s else s

/-- KEY_INVALIDATE: slots 4, 5 and 16 to 63. The manager makes a fresh root at once and sends it to every node of its curd (R461). -/
def keyInvalidateRun (c : Cmd) (s : State) : Reply :=
  let n := c.u 0x08 1
  if n ≤ 3 ∨ (6 ≤ n ∧ n ≤ 8) then Reply.fail stWRONG_STATE s
  else
    let d := (descendants s n).length
    let s := invalidate n s
    let s := if n = 5 ∧ rdB s DEV_ROLE_SELF = true ∧ macsecOn s = true then
        let s := freshRoot s
        forEach s.fwd.bank0.amap (fun e s => forEach [false, true] (fun t s =>
          if e.uid = ownUid s ∧ t = s.fuses.twinId then s else sendKeyDist e t s) s) s
      else s
    Reply.okWith (le 1 d) s

/-- The row of KEY_INVALIDATE: slots 9 to 15 give BAD_ARG. -/
def keyInvalidateSpec : CmdSpec :=
  CmdSpec.sync 0x0C01 .shared [(0x08, 1)] (fun _ c => decide (c.u 0x08 1 ≤ 8 ∨ (16 ≤ c.u 0x08 1 ∧ c.u 0x08 1 ≤ 63))) keyInvalidateRun

/-- KEY_INVALIDATE (R165, R455). -/
def execKeyInvalidate (t : Take) (s : State) : Host.Outcome State Fault Refusal := .next (takeState keyInvalidateSpec t s)

/-- KEYREQ_RX: the manager answers with its root; a requester that holds another root is left with it pending (R461). -/
def keyReqRx (r : KeyReq) (s : State) : State :=
  if r.srcOk ∧ rdB s DEV_ROLE_SELF = true ∧ (slotAt s 5).valid = true then
    match amapByUid s r.uid with
    | none => s
    | some e =>
      let s := sendKeyDist e r.twin s
      if r.tkrId.toNat ≠ 0 ∧ r.tkrId.toNat ≠ rd s KEY_TKR then { s with keys := { s.keys with tkrChurn := true } } else s
  else s

/-- KEYREQ_RX. -/
def execKeyreqRx (r : KeyReq) (s : State) : Host.Outcome State Fault Refusal := .next (whenRun s (keyReqRx r))

/-- KEYDIST_RX from the manager of the committed curd: rejected, without effect, installed at once, or pending (R461). -/
def keyDistRx (k : KeyDist) (s : State) : State :=
  if k.srcOk = false ∨ isManager s k.uid k.twin = false then s
  else if k.unwrapped = false then inc s (KEY_CNT 4)
  else
    let s := wrB { inc s (KEY_CNT 3) with keys := { s.keys with tries := 0 } } KEY_SEC_KEYREQ false
    let id := k.tkrId.toNat
    if (slotAt s 5).valid ∧ rd s KEY_TKR = id then s
    else
      let s := { s with keys := { s.keys with rootFrom := some (k.uid, k.twin) } }
      if (slotAt s 5).valid then raise (wr { s with keys := { s.keys with pendRoot := some (id, k.root) } } KEY_TKR_PEND id) 0x060 3
      else
        let s := raise (wr (fillSlot 5 3 1 3 [] k.root s) KEY_TKR id) 0x060 3
        if macsecOn s then installKeys (rd s CHURN_COUNT % 3) (fillSlot8 (fillSlot6 s)) else s

/-- KEYDIST_RX. -/
def execKeydistRx (k : KeyDist) (s : State) : Host.Outcome State Fault Refusal := .next (whenRun s (keyDistRx k))

/-- KEYREQ_RESEND: 10 ms without an answer; after three sends KEYREQ_LATE raises. -/
def keyReqResend (s : State) : State :=
  if rdB s KEY_SEC_KEYREQ = false then s else sendKeyReq (raiseIf (decide (s.keys.tries = 3)) 0x060 4 s)

/-- KEYREQ_RESEND. -/
def execKeyreqResend (s : State) : Host.Outcome State Fault Refusal := .next (whenRun s keyReqResend)

/-- The churn key of a train configuration that comes into force (R458). -/
def churnKey (c : TrainConfig) (s : State) : State :=
  if c.churnSalt.all (fun b => decide (b = 0)) ∨ (slotAt s 1).valid = false then s
  else inc (fillSlot 4 2 1 1 c.churnSalt (deriveKey (slotAt s 1).key 2 1 c.churnSalt) s) (KEY_CNT 1)

/-! ## Life cycle (R446 to R449) -/

/-- The transitions of R447. -/
def lcPermitted (s : State) (target : Nat) : Bool :=
  let lc := s.fuses.lc
  decide ((lc = 0 ∧ target = 1) ∨ (lc = 1 ∧ s.fuses.enrolled = false ∧ target = 1) ∨ (lc = 1 ∧ s.fuses.enrolled = true ∧ target = 2) ∨
    (lc = 2 ∧ target = 3) ∨ (lc = 3 ∧ target = 2) ∨ ((lc = 2 ∨ lc = 3) ∧ target = 4))

/-- LC_ADVANCE: MAINT returns to FIELD with a token length of 0, every other transition has a token. -/
def lcAdvanceRun (c : Cmd) (s : State) : Reply :=
  if lcPermitted s (c.u 0x09 1) = false then Reply.fail stWRONG_STATE s
  else if decide (c.u 0x0C 4 = 0) ≠ decide (s.fuses.lc = 3 ∧ c.u 0x09 1 = 2) then Reply.fail stBAD_ARG s
  else Reply.accepted s

/-- The row of LC_ADVANCE. -/
def lcAdvanceSpec : CmdSpec :=
  { CmdSpec.sync 0x0C03 .only [(0x08, 2), (0x0C, 8)] (fun _ c => decide (c.u 0x08 1 ≤ 31)) lcAdvanceRun with
    async := true, hostOnly := true, obj := fun _ _ => .lifeCycle,
    bulk := fun c => if c.u 0x0C 4 = 0 then none else some (c.u 0x08 1), input := fun c => some (c.u 0x0C 4, c.u 0x10 4) }

/-- LC_ADVANCE (R165, R446). -/
def execLcAdvance (t : Take) (s : State) : Host.Outcome State Fault Refusal := .next (takeState lcAdvanceSpec t s)

/-- The conditions of R448 for a MAINT token. -/
def maintOk (v : TokenVerdict) (s : State) : Bool :=
  match s.tcfg.inForce with
  | none => false
  | some c => !c.maintAuth.all (fun b => decide (b = 0)) && decide (v.signerDigest = c.maintAuth) &&
      decide (v.notAfter ≤ ptpSeconds s + 60 * c.maintMax) && trainSync s

/-- The rules of R451 for a protection map of eight words. -/
def mapRules (ws : List Nat) : Bool :=
  decide (ws.length = 8) && ws.all (fun w => decide (w < 2 ^ 33)) && decide (ws.getD 3 0 = 0) &&
  [0, 4].all (fun k => bit (ws.getD k 0) 0 && bit (ws.getD k 0) 16)

/-- The eight words of a payload. -/
def mapWords (p : List Byte) : List Nat := (List.range 8).map (fun i => leAt p (8 * i) 8)

/-- Slot 0 takes the root of a state after its descendants are invalidated. -/
def newRoot (key : List Byte) (s : State) : State := fillSlot 0 0 0 0xFF [] key (invalidate 0 s)

/-- Entry to MAINT (R448). -/
def enterMaint (v : TokenVerdict) (token : List Byte) (s : State) : State :=
  let mins := match s.tcfg.inForce with | none => 0 | some c => c.maintMax
  let s := { s with fuses := { s.fuses with lc := 3 },
                    keys := { s.keys with maint := some (v.notAfter, nowNs s + mins * 60000000000), debugBit := v.debugBit } }
  let s := newRoot (Config.kmac s.fuses.fieldStarter (be 4 0x465A4D54 ++ Config.sha3 token) 32 (be 4 0x465A4B44)) s
  raise (raise (syncLc s) 0x060 2) 0x060 1

/-- Exit from MAINT: JTAG closes at once, with a record (R448). -/
def leaveMaint (s : State) : State :=
  let s := { s with fuses := { s.fuses with lc := 2 }, keys := { s.keys with maint := none, debugBit := false, extest := false } }
  let s := newRoot s.fuses.fieldStarter s
  raise (raiseRec (syncLc s) 0x060 2 0 none) 0x060 1

/-- Retirement (R449): FAIL_N, no drive-enable, zeroized starters, slots, images and train configuration; no role, no churn, reset tables, no MACsec. -/
def retire (s : State) : State :=
  let ones := List.replicate 32 (255 : Byte)
  let s := { wr (wrB s TWIN_STAT_DRIVE_EN false) TWIN_STAT_ROLE 15 with twin := { s.twin with failN := true } }
  let s := forEach (List.range 64) dropSlot s
  let s := { s with fuses := { s.fuses with lc := 4, intStarter := ones, fieldStarter := ones },
                    store := { s.store with slot0 := none, slot1 := none, ok0 := false, ok1 := false, inUse := none, tcfg := none, curd := none, curdDigest := [] },
                    tcfg := { s.tcfg with inForce := none, pend := none },
                    keys := { s.keys with pendRoot := none, maint := none, debugBit := false, signing := none, extest := false },
                    fwd := { s.fwd with bank0 := Bank.init, bank1 := Bank.init },
                    churn := ChurnSt.init }
  raise (syncStreams (syncUse (secOff (syncLc s)))) 0x060 1

/-- A token is refused (R447). -/
def tokenFails (status : Nat) (a : Accepted) (s : State) : State := complete a status [] (raise (inc s (KEY_CNT 5)) 0x060 6)

/-- LC_ADVANCE_DONE: the checks of the token and the action of its transition (R447). -/
def lcAdvanceDone (v : TokenVerdict) (s : State) : State :=
  match findAccepted s 0x0C03 .lifeCycle with
  | none => s
  | some a =>
    let target := a.u 0x09 1
    let done (s : State) : State := complete a stOK (le 1 s.fuses.lc) s
    if lcPermitted s target = false then complete a stWRONG_STATE [] s
    else if s.fuses.lc = 3 ∧ target = 2 then done (leaveMaint s)
    else if v.dieOk = false ∨ v.keyOk = false ∨ v.target.val ≠ target ∨ (target = 3 ∧ maintOk v s = false) then tokenFails stKEY_INVALID a s
    else if v.payloadOk = false ∨ (target = 2 ∧ mapRules (mapWords v.payload) = false) then tokenFails stBAD_ARG a s
    else if target = 1 ∧ s.fuses.lc = 0 then done (raise (syncLc { s with fuses := { s.fuses with lc := 1 } }) 0x060 1)
    else if target = 1 then
      done (raise (syncLc { s with fuses := { s.fuses with enrolled := true, authority := Config.sha3 (v.payload.take 2592),
                                                           intStarter := Config.unwrapStarter (v.payload.drop 2592) } }) 0x060 1)
    else if target = 2 then
      done (raise (syncLc (nextFree { s with fuses := { s.fuses with lc := 2, map := some (mapWords v.payload), mapBad := false,
                                                                     fieldStarter := Config.random s.free },
                                              keys := { s.keys with extest := false } })) 0x060 1)
    else if target = 3 then done (enterMaint v (bar2Read s (hqBase (a.u 0x08 1)) (a.u 0x0C 4)) s)
    else done (retire s)

/-- LC_ADVANCE_DONE. -/
def execLcAdvanceDone (v : TokenVerdict) (s : State) : Host.Outcome State Fault Refusal := .next (whenRun s (lcAdvanceDone v))

/-- MAINT_EXPIRY (R448). -/
def execMaintExpiry (s : State) : Host.Outcome State Fault Refusal := .next (whenRun s (onlyIf (decide (s.fuses.lc = 3)) leaveMaint))

/-! ## The Mbatis statement (R462, R463) -/

/-- The image in force. -/
def imageInUse (s : State) : Option Image :=
  match s.store.inUse with | none => none | some k => if k = 0 then s.store.slot0 else s.store.slot1

/-- The 768-byte body of a statement. -/
def statementBody (seq : Nat) (nonce : List Byte) (s : State) : List Byte :=
  let img := imageInUse s
  let flags := (if trainSync s then 1 else 0) + (if jtagOpen s then 2 else 0) + 4 * rd s DEV_BOOTSTAT_IMAGE_FALLBACK + 8 * rd s DEV_BOOTSTAT_UNCONFIGURED
  padTo 768 (le 4 0x5354424D ++ le 2 1 ++ le 2 0x300 ++ le 4 seq ++ le 4 0x8800 ++ le 1 s.fuses.grade ++ le 1 s.fuses.romIssue ++ le 1 s.fuses.lc ++
    le 1 (role s) ++ le 1 (twinNo s) ++ le 1 flags ++ le 2 s.fuses.ledger.length ++ le 8 Config.nodeDie.toNat ++ le 8 Config.lineDie.toNat ++
    le 8 Config.recordDie.toNat ++ le 8 (if s.churn.curd.isSome then (ownUid s).toNat else 0) ++ le 4 (rd s CHURN_COUNT) ++ le 4 (rd s TWIN_GEN) ++
    le 8 (nowNs s) ++ le 4 (rd s DEV_TCFG) ++ le 4 (match img with | none => 0 | some i => i.seq.toNat) ++ padTo 32 nonce ++ padTo 16 s.churn.digest ++
    padTo 64 Config.fuseDigest ++ padTo 64 Config.romDigest ++ padTo 64 (match img with | none => [] | some i => i.digest) ++
    padTo 64 (Config.sha3 (ledgerAll s)) ++ padTo 64 (match s.tcfg.inForce with | none => [] | some c => Config.sha3 c.bytes) ++
    padTo 64 (Config.sha3 Config.identityKey))

/-- ATT_SIGN: every field is taken now; an invalid identity key refuses. -/
def attSignRun (c : Cmd) (s : State) : Reply :=
  if (slotAt s 2).valid = false then Reply.fail stKEY_INVALID (raise (inc s ATT_FAILS) 0x061 1)
  else
    let seq := (rd s NODE_ATT_SEQ + 1) % 2 ^ 32
    let s := wrB (wr s NODE_ATT_SEQ seq) ATT_STAT_SIGNING true
    Reply.accepted { s with keys := { s.keys with signing := some (seq, (slotAt s 2).gen, statementBody seq (slice c.desc 0x08 32) s, c.u 0x28 1) } }

/-- The row of ATT_SIGN. -/
def attSignSpec : CmdSpec :=
  { CmdSpec.sync 0x0D00 .only [(0x08, 33)] (fun _ c => decide (c.u 0x28 1 ≤ 31 ∨ c.u 0x28 1 = 0xFF)) attSignRun with
    async := true, obj := fun _ _ => .attest, bulk := fun c => if c.u 0x28 1 = 0xFF then none else some (c.u 0x28 1) }

/-- ATT_SIGN (R166, R463). -/
def execAttSign (t : Take) (s : State) : Host.Outcome State Fault Refusal := .next (takeState attSignSpec t s)

/-- ATT_SIGN_DONE: the statement is held, or discarded where the key's generation has changed (R456). -/
def attSignDone (s : State) : State :=
  match s.keys.signing with
  | none => s
  | some (seq, gen, body, q) =>
    let s := wrB { s with keys := { s.keys with signing := none } } ATT_STAT_SIGNING false
    if (slotAt s 2).valid = false ∨ (slotAt s 2).gen ≠ gen then
      completeObj 0x0D00 .attest stKEY_INVALID [] (raise (inc (inc s (KEY_CNT 6)) ATT_FAILS) 0x061 1)
    else
      let all := body ++ padTo 4627 (Config.sign body)
      let s := { s with keys := { s.keys with statement := some (seq, all) } }
      let s := wr (wr (wrB s ATT_STAT_HELD true) ATT_SEQ seq) ATT_LEN 5395
      let s := if q = 0xFF then s else bar2Write s (hqBase q) all
      completeObj 0x0D00 .attest stOK (le 4 5395 ++ le 4 seq) (raise s 0x061 0)

/-- ATT_SIGN_DONE. -/
def execAttSignDone (s : State) : Host.Outcome State Fault Refusal := .next (whenRun s attSignDone)

/-- ATT_READ: 48 bytes of the statement held, or of the identity public key. -/
def attReadRun (c : Cmd) (s : State) : Reply :=
  let off := c.u 0x0C 2
  let give (b : List Byte) : Reply := Reply.okWith (le 2 (min 48 (b.length - off)) ++ zeros 6 ++ slice b off 48) s
  if c.u 0x08 4 = 0xFFFFFFFF then give (padTo 2592 Config.identityKey)
  else match s.keys.statement with
  | none => Reply.fail stWRONG_STATE s
  | some (seq, b) => if seq = c.u 0x08 4 then give b else Reply.fail stWRONG_STATE s

/-- The row of ATT_READ. -/
def attReadSpec : CmdSpec := CmdSpec.sync 0x0D01 .rd [(0x08, 6)] (fun _ c => decide (c.u 0x0C 2 % 48 = 0)) attReadRun

/-- ATT_READ (R166, R463). -/
def execAttRead (t : Take) (s : State) : Host.Outcome State Fault Refusal := .next (takeState attReadSpec t s)

end Sys2Proof.Machine
end

