-- ==== Sys2Proof/Machine/Curd.lean ====
section
/-! DEFINITION. The curd: its bytes and digest (R247), its computation from line lists (R253 to R256), the node that leads or manages the
train by it (R260, R286, R288), and the train entries and the address map that follow from it (R259, R280, R283 to R285). -/

namespace Sys2Proof.Machine

/-! ## Bytes (R247) -/

/-- A car entry. -/
def carBytes (c : CarEntry) : List Byte :=
  be 8 c.uid.toNat ++ be 2 c.handle.toNat ++ be 1 c.number.toNat ++ be 1 c.orientation.toNat ++ be 1 c.twin0.toNat ++ be 1 c.twin1.toNat ++
  be 1 ((if c.lineA then 1 else 0) + (if c.lineB then 2 else 0)) ++
  be 1 ((if c.isNew then 1 else 0) + (if c.lead then 2 else 0) + (if c.relayOnly then 4 else 0)) ++ be 4 c.gen.toNat

/-- The header. -/
def curdHeader (c : Curd) : List Byte :=
  be 4 c.count.toNat ++ be 1 c.cars.length ++ be 1 c.direction.toNat ++ be 1 c.refCause.toNat ++
  be 1 ((if c.orderUnsure then 1 else 0) + (if c.leadConflict then 2 else 0) + (if c.ttdp then 4 else 0)) ++
  be 8 c.lead.uid.toNat ++ be 4 c.lead.count.toNat ++ be 1 c.lead.carEnd.toNat ++ be 1 0 ++ be 2 c.nextHandle.toNat

/-- A curd's bytes. -/
def curdBytes (c : Curd) : List Byte := curdHeader c ++ c.cars.flatMap carBytes

/-- The digest: the first 16 bytes of the SHA3-512 of header and entries. -/
def curdDigest (c : Curd) : List Byte := (Config.sha3 (curdBytes c)).take 16

/-! ## Lists (R252, R254) -/

/-- A line list seen from its other end. -/
def turnList (l : List SurveyEntry) : List SurveyEntry := (l.map (fun e => { e with facing := !e.facing })).reverse

/-- One car UID stands at two positions. -/
def dupUid (l : List SurveyEntry) : Bool := decide (¬ (l.map (fun e => e.uid)).Nodup)

/-- The entry of a car in a list. -/
def entryOf (l : List SurveyEntry) (u : BitVec 64) : Option SurveyEntry := l.find? (fun e => decide (e.uid = u))

/-- The second list turned so that a car of both faces alike. -/
def alignList (a b : List SurveyEntry) : List SurveyEntry :=
  match b.find? (fun e => (entryOf a e.uid).isSome) with
  | none => b
  | some e => match entryOf a e.uid with | none => b | some d => if d.facing = e.facing then b else turnList b

/-- The car and its orientation in a curd. -/
def carIn (c : Option Curd) (u : BitVec 64) : Option CarEntry := match c with | none => none | some k => k.cars.find? (fun e => decide (e.uid = u))

/-- A digest's first four bytes: the train ID (R246). -/
def trainId (digest : List Byte) : Nat := beAt digest 0 4

/-- Where a car of the previous curd of the same train ID stood; own is this node's committed curd with its train ID. -/
def prevCar (own : Option Curd) (tid : Nat) (es : List SurveyEntry) (u : BitVec 64) : Option CarEntry :=
  if es.any (fun e => decide (e.uid = u ∧ e.prevId.toNat = tid)) then carIn own u else none

/-- Whether the previous numbering rises in the direction of the lists: taken from the first car of both (R254). -/
def prevAligned (own : Option Curd) (tid : Nat) (es : List SurveyEntry) : Bool :=
  match es.findSome? (fun e => (prevCar own tid es e.uid).map (fun c => e.facing == decide (c.orientation = 0))) with
  | none => true
  | some b => b

/-- R254's rank of a car in a run without a decided order: cars of the previous curd in their previous order, then ascending UID (log entry 30). -/
def runRank (own : Option Curd) (tid : Nat) (es : List SurveyEntry) (u : BitVec 64) : Nat × Nat :=
  match prevCar own tid es u with
  | some c => (0, if prevAligned own tid es then c.number.toNat else 256 - c.number.toNat)
  | none => (1, u.toNat)

/-- One rank before another. -/
def rankLt (a b : Nat × Nat) : Bool := decide (a.1 < b.1) || (decide (a.1 = b.1) && decide (a.2 < b.2))

/-- The single arrangement of the cars of two lists, with the cars whose place the lists leave open; none where the lists contradict each other.
fuel is the number of entries. -/
def mergeLists (rank : BitVec 64 → Nat × Nat) : Nat → List (BitVec 64) → List (BitVec 64) → Option (List (BitVec 64) × List (BitVec 64))
  | 0, a, b => if a.isEmpty && b.isEmpty then some ([], []) else none
  | n + 1, a, b =>
    match a, b with
    | [], b => some (b, [])
    | a, [] => some (a, [])
    | x :: a, y :: b =>
      if x = y then (mergeLists rank n a b).map (fun r => (x :: r.1, r.2))
      else if b.contains x ∧ a.contains y then none
      else if b.contains x then (mergeLists rank n (x :: a) b).map (fun r => (y :: r.1, r.2))
      else if a.contains y then (mergeLists rank n a (y :: b)).map (fun r => (x :: r.1, r.2))
      else if rankLt (rank x) (rank y) then (mergeLists rank n a (y :: b)).map (fun r => (x :: r.1, x :: y :: r.2))
      else (mergeLists rank n (x :: a) b).map (fun r => (y :: r.1, x :: y :: r.2))

/-- The arrangement of the lists held in the direction of the first. -/
def arrange (own : Option Curd) (tid : Nat) (a b : List SurveyEntry) : Option (List (BitVec 64) × List (BitVec 64)) :=
  mergeLists (runRank own tid (a ++ b)) (a.length + b.length) (a.map (fun e => e.uid)) (b.map (fun e => e.uid))

/-- End 1 of a car faces the origin of the lists; a car of an open run keeps its previous orientation or has end 1 toward the reference end (R254). -/
def facingOf (own : Option Curd) (tid : Nat) (es : List SurveyEntry) (unsure : List (BitVec 64)) (u : BitVec 64) : Bool :=
  if unsure.contains u then
    match prevCar own tid es u with
    | some c => decide (c.orientation = 0) == prevAligned own tid es
    | none => true
  else match entryOf es u with | none => true | some e => e.facing

/-! ## LEAD_CMD and the reference end (R253, R255) -/

/-- The newer of two set-lead commands: the highest count, then the lower UID; one without a UID is none. -/
def newerLead (a b : LeadCmd) : LeadCmd :=
  if b.uid = 0 then a
  else if a.uid = 0 then b
  else if b.count.toNat > a.count.toNat ∨ (b.count = a.count ∧ b.uid.toNat < a.uid.toNat) then b
  else a

/-- The cars with LEAD asserted in any of their entries, lowest UID first. -/
def leadCar (es : List SurveyEntry) : Option (BitVec 64) :=
  es.foldl (fun a e => if e.lead then (match a with | none => some e.uid | some u => if e.uid.toNat < u.toNat then some e.uid else some u) else a) none

/-- More than one car has LEAD asserted. -/
def leadMany (es : List SurveyEntry) : Bool := es.any (fun e => e.lead && decide (some e.uid ≠ leadCar es))

/-- The lists turned so that the reference end is their origin, with the reference cause; none where they contradict each other (R253). -/
def toReference (own : Option Curd) (tid : Nat) (lead : LeadCmd) (a b : List SurveyEntry) : Option (List SurveyEntry × List SurveyEntry × Nat) :=
  let es := a ++ b
  let face (u : BitVec 64) : Bool := match entryOf es u with | none => true | some e => e.facing
  let put (first : Bool) (cause : Nat) := if first then (a, b, cause) else (turnList a, turnList b, cause)
  match leadCar es with
  | some u => some (put (face u) 1)
  | none =>
    if lead.uid ≠ 0 ∧ (entryOf es lead.uid).isSome then some (put (face lead.uid == decide (lead.carEnd = 1)) 2)
    else match arrange own tid a b with
    | none => none
    | some (order, _) => some (put (decide ((order.head?.getD 0).toNat ≤ (order.getLast?.getD 0).toNat)) 3)

/-! ## Car entries (R255, R256) -/

/-- A car's entries of both twins. -/
def twinEntry (es : List SurveyEntry) (u : BitVec 64) (t : Bool) : Option SurveyEntry := es.find? (fun e => decide (e.uid = u ∧ e.twinId = t))

/-- The entry that gives a car's previous train ID and handle: of two that differ, the one with the higher churn count (R255). -/
def bestEntry (es : List SurveyEntry) (u : BitVec 64) : Option SurveyEntry :=
  match twinEntry es u false, twinEntry es u true with
  | none, e => e
  | e, none => e
  | some a, some b => if a.churn.toNat < b.churn.toNat then some b else some a

/-- The states of both twins of a car. -/
def twinStates (es : List SurveyEntry) (u : BitVec 64) : BitVec 8 × BitVec 8 :=
  match twinEntry es u false, twinEntry es u true with
  | none, none => (0xFF, 0xFF)
  | some a, none => (a.ownState, a.partnerState)
  | none, some b => (b.partnerState, b.ownState)
  | some a, some b =>
    if a.gen.toNat < b.gen.toNat then (b.partnerState, b.ownState)
    else if b.gen.toNat < a.gen.toNat then (a.ownState, a.partnerState)
    else (a.ownState, b.ownState)

/-- Port p of the line-t node of a car is link up, as its own entry or its partner's reports. -/
def carPortUp (es : List SurveyEntry) (u : BitVec 64) (t : Bool) (p : Nat) : Bool :=
  (match twinEntry es u t with | none => false | some e => if p = 0 then e.b1Up else e.b2Up) ||
  (match twinEntry es u (!t) with | none => false | some e => if p = 0 then e.pb1Up else e.pb2Up)

/-- Line t of a car is healthy: the ports toward its neighbours are up. A node whose line is cut elsewhere has no entry in the lists of the far
side; its partner's entry stands for it, as the example of R272's chapter has it (log entry 31). -/
def lineHealth (es : List SurveyEntry) (u : BitVec 64) (t : Bool) (ports : List Nat) : Bool :=
  ((twinEntry es u t).isSome || !ports.isEmpty) && ports.all (carPortUp es u t)

/-- The ports toward the neighbours of position i of n, by orientation. -/
def neighbourPorts (i n : Nat) (facing : Bool) : List Nat :=
  (if 0 < i then [if facing then 0 else 1] else []) ++ (if i + 1 < n then [if facing then 1 else 0] else [])

/-- The handle after h: 0xFFFE is followed by 1 (R255). -/
def nextHandle (h : Nat) : Nat := if 0xFFFE ≤ h then 1 else h + 1

/-- The first handle from h on that is not taken; fuel bounds the search. -/
def freeHandle (taken : List Nat) : Nat → Nat → Nat
  | 0, h => h
  | n + 1, h => if taken.contains h then freeHandle taken n (nextHandle h) else h

/-- Groups of equal nonzero previous train ID in the order of their lowest car number, and each car's previous handle kept while it is not
taken (R255 items 1 to 3). -/
def keptHandles (cars : List (BitVec 64 × Nat × Nat)) : List (BitVec 64 × Nat) :=
  let ids := cars.foldl (fun a c => if c.2.1 = 0 ∨ a.contains c.2.1 then a else a ++ [c.2.1]) []
  ids.foldl (fun acc id =>
    (cars.filter (fun c => decide (c.2.1 = id))).foldl (fun acc c =>
      if c.2.2 = 0 ∨ acc.any (fun k => decide (k.2 = c.2.2)) then acc else acc ++ [(c.1, c.2.2)]) acc) []

/-- Every car's handle with NEW, and the value after the last handle issued (R255 items 4 and 5). -/
def issueHandles (kept : List (BitVec 64 × Nat)) (order : List (BitVec 64)) (prevNext : Nat) : List (BitVec 64 × Nat × Bool) × Nat :=
  let start := if prevNext = 0 then 1 else prevNext
  let r := order.foldl (fun (acc : List (BitVec 64 × Nat × Bool) × List Nat × Nat × Bool) u =>
      match kept.lookup u with
      | some h => (acc.1 ++ [(u, h, false)], acc.2.1, acc.2.2.1, acc.2.2.2)
      | none =>
        let h := freeHandle acc.2.1 65535 acc.2.2.1
        (acc.1 ++ [(u, h, true)], h :: acc.2.1, nextHandle h, true)) ([], kept.map (·.2), start, false)
  (r.1, if r.2.2.2 then r.2.2.1 else prevNext)

/-- The outcome of R253's computation: a curd, or the cause of a failure. -/
inductive CurdResult where
  | ok (c : Curd)
  | fails (cause : Nat)

/-- The curd of the line lists held (R253): a is the own list, b the partner's or empty. -/
def computeCurd (own : Option Curd) (tid : Nat) (lead : LeadCmd) (overflow : Bool) (a b : List SurveyEntry) : CurdResult :=
  let es0 := a ++ b
  let cars := es0.foldl (fun (l : List (BitVec 64)) e => if l.contains e.uid then l else l ++ [e.uid]) []
  if dupUid a ∨ dupUid b then .fails 0x14
  else if overflow ∨ 64 < cars.length then .fails 0x13
  else match toReference own tid lead a (alignList a b) with
  | none => .fails 0x12
  | some (a, b, cause) =>
    let es := a ++ b
    match arrange own tid a b with
    | none => .fails 0x12
    | some (order, unsure) =>
      let n := order.length
      let lc : LeadCmd := if lead.uid ≠ 0 ∧ order.contains lead.uid then lead else LeadCmd.none
      let face (u : BitVec 64) : Bool :=
        if n = 1 then !(decide (cause = 2) && decide (lc.carEnd = 2)) else facingOf own tid es unsure u
      let best := order.map (fun u => (u, match bestEntry es u with | none => (0, 0) | some e => (e.prevId.toNat, e.handle.toNat)))
      let prevNext := es.foldl (fun a e => max a e.nextHandle.toNat) 0
      let (handles, nh) := issueHandles (keptHandles best) order prevNext
      let count := es.foldl (fun a e => max a e.churn.toNat) 0 + 1
      let mk (i : Nat) (u : BitVec 64) : CarEntry :=
        let st := twinStates es u
        let mine := es.filter (fun e => decide (e.uid = u))
        let h := (handles.lookup u).getD (0, false)
        { uid := u, handle := BitVec.ofNat 16 h.1, number := BitVec.ofNat 8 (i + 1), orientation := if face u then 0 else 1,
          twin0 := st.1, twin1 := st.2,
          lineA := lineHealth es u false (neighbourPorts i n (face u)), lineB := lineHealth es u true (neighbourPorts i n (face u)),
          isNew := h.2, lead := mine.any (fun e => e.lead), relayOnly := mine.any (fun e => e.relayOnly),
          gen := BitVec.ofNat 32 (mine.foldl (fun a e => max a e.gen.toNat) 0) }
      .ok { count := BitVec.ofNat 32 count, direction := if (order.head?.map face).getD true then 1 else 2, refCause := BitVec.ofNat 8 cause,
            orderUnsure := !unsure.isEmpty, leadConflict := leadMany es, ttdp := false, lead := lc, nextHandle := BitVec.ofNat 16 nh,
            cars := (order.zipIdx).map (fun x => mk x.2 x.1) }

/-! ## Leader and manager (R260, R286, R288) -/

/-- A twin state that leads: active, shadow or solo. -/
def leads (st : BitVec 8) : Bool := decide (st = 0 ∨ st = 1 ∨ st = 2)

/-- The first node, line A before line B, car by car, that can lead among the cars that p admits: its car and twin. -/
def firstNode (cars : List CarEntry) (p : CarEntry → Bool) : Option (CarEntry × Bool) :=
  cars.findSome? (fun c =>
    if p c = false then none else if leads c.twin0 then some (c, false) else if leads c.twin1 then some (c, true) else none)

/-- The leader of a curd. -/
def leaderOf (c : Curd) : Option (CarEntry × Bool) := firstNode c.cars (fun _ => true)

/-- The manager by a curd: in TTDP mode only nodes of the eligible cars (R288). -/
def managerOf (c : Curd) (eligible : List (BitVec 64)) : Option (CarEntry × Bool) :=
  firstNode c.cars (fun k => !c.ttdp || eligible.contains k.uid)

/-! ## Address map and train entries (R259, R280, R283 to R285) -/

/-- A car lies beyond the node's B2: B2 faces away from the reference end where end 1 faces it. -/
def towardB2 (self c : CarEntry) : Bool :=
  if self.orientation = 0 then decide (self.number.toNat < c.number.toNat) else decide (c.number.toNat < self.number.toNat)

/-- The address map of a curd at a node of car uid. -/
def curdAmap (c : Curd) (uid : BitVec 64) : List AmapEntry :=
  let me := carIn (some c) uid
  c.cars.map (fun k => ⟨k.number.toNat, k.uid, k.handle.toNat, decide (k.uid = uid), (match me with | none => false | some m => towardB2 m k),
    k.twin0.toNat, k.twin1.toNat, k.gen.toNat⟩)

/-- A static train entry. -/
def trainEntry (mac vid mask : Nat) (own : Bool) : FdbEntry :=
  ⟨BitVec.ofNat 48 mac, BitVec.ofNat 12 vid, BitVec.ofNat 16 mask, 0xFF, false, true, false, true, own, 0⟩

/-- The unicast train entries of R285 at the node of line twin, for one car of the map. -/
def carEntries (twin vid : Nat) (e : AmapEntry) : List FdbEntry :=
  let toward := if e.towardB2 then 2 else 1
  let t := 0x4000
  if e.own then
    [trainEntry (trainMac twin e.handle) vid 0 true, trainEntry (trainMac (1 - twin) e.handle) vid t false, trainEntry (trainMac 2 e.handle) vid 0 true]
  else
    [trainEntry (trainMac twin e.handle) vid toward false, trainEntry (trainMac (1 - twin) e.handle) vid t false,
     trainEntry (trainMac 2 e.handle) vid toward false]

/-- The group entries of R283; workers are the consist ports that the image enables for enumeration. -/
def groupEntries (vid workers : Nat) (m : List AmapEntry) : List FdbEntry :=
  let base := 0x4003
  [trainEntry 0x01005E7F0001 vid base false, trainEntry 0x01005E7F0002 vid (base + workers) false] ++
  m.map (fun e => trainEntry (0x01005E7F0100 + e.car) vid base false) ++
  m.map (fun e => trainEntry (0x01005E7E0000 + e.handle) vid base false)

/-- A bank without its train entries. -/
def dropTrain (b : Bank) : Bank :=
  { b with uni := b.uni.filter (fun e => !e.train), multi := b.multi.filter (fun e => !e.train),
           vlan := b.vlan.filter (fun v => !b.vlanTrain.contains v.1), vlanTrain := [] }

/-- Consist ports with worker enumeration by the image in force (R280, R297). -/
def workerPorts (s : State) : Nat := match imageInUse s with | none => 0 | some i => i.workerPorts.toNat &&& 0x3FFC

/-- A bank with the train entries and the address map of a curd. -/
def trainBank (s : State) (c : Curd) (b : Bank) : Bank :=
  let m := curdAmap c (ownUid s)
  let vid := mgmtVid s
  let b := (m.flatMap (carEntries (twinNo s) vid) ++ groupEntries vid (workerPorts s) m).foldl fdbPut (dropTrain b)
  { b with vlan := putD b.vlan vid (0x4003 + workerPorts s) (vlanDefault vid), vlanTrain := [vid], amap := m }

/-- The train entries and the address map of bank 0 return to bank 1 (R266). -/
def restoreTrain (s : State) : State :=
  let src := s.fwd.bank0
  onBank1 (fun b =>
    let b := (src.uni.filter (fun e => e.train) ++ src.multi.filter (fun e => e.train)).foldl fdbPut (dropTrain b)
    { b with vlan := src.vlanTrain.foldl (fun v k => putD v k (vlanMask src k) (vlanDefault k)) b.vlan, vlanTrain := src.vlanTrain,
             amap := src.amap }) s

end Sys2Proof.Machine
end

