-- ==== Sys2Proof/Machine/Addressing.lean ====
section
/-! DEFINITION. Train addressing and the hierarchy below and above the node (10_train_addressing_and_hierarchy.md): ARP, the worker roster, the
train configuration, and the remote apertures' resolution (R116). -/

namespace Sys2Proof.Machine

/-! ## ARP (R281) -/

/-- ARP_REQUEST_RX: an address of the node's is answered; any other request is passed on under the forwarding rules. -/
def arpRequest (p ip askMac askIp : Nat) (s : State) : State :=
  if (arpOwner s ip).isSome then arpAnswer p ip askMac askIp s
  else
    let bytes := arpBytes s (2 ^ 48 - 1) 1 askMac askIp 0 ip
    enginePath p (parseFrame bytes (pvid s p) (rd s (PORT_VLAN_DEF_PCP p))) true s

/-- ARP_REQUEST_RX on a port that is link up. -/
def execArpRequestRx (p : Port) (ip : BitVec 32) (askMac : BitVec 48) (askIp : BitVec 32) (s : State) : Host.Outcome State Fault Refusal :=
  .next (whenRun s (onlyIf (linkUp s p.val) (arpRequest p.val ip.toNat askMac.toNat askIp.toNat)))

/-- The bindings of the node's own addresses to MAC addresses: both families of its twin, and of the car node while active or solo. -/
def ownBindings (s : State) : List (Nat × Nat) :=
  match ownEntry s with
  | none => []
  | some e =>
    let t := trainMac (twinNo s) e.handle
    [(numIp e.car (1 + twinNo s), t), (handleIp e.handle (1 + twinNo s), t)] ++
    if isActive s then [(numIp e.car 3, trainMac 2 e.handle), (handleIp e.handle 3, trainMac 2 e.handle)] else []

/-- One gratuitous ARP to the members of the management VID; its form is that of a request for the own address (PRESUMED, log entry 32). -/
def gratuitousArp (ip mac : Nat) (s : State) : State :=
  forEach (portsOf (vlanMask s.fwd.bank0 (mgmtVid s)) 15) (fun p s =>
    if linkUp s p then sendOwn p (pcpClass s 0) (arpBytes s (2 ^ 48 - 1) 1 mac ip 0 ip) s else s) s

/-- After a commit: one for each own address whose binding the commit changed. -/
def announceAddresses (old : List (Nat × Nat)) (s : State) : State :=
  forEach ((ownBindings s).filter (fun b => !old.contains b)) (fun b s => gratuitousArp b.1 b.2 s) s

/-! ## The worker roster (R293 to R298) -/

/-- Quota of the car node (R294); 16 without a train configuration (R289). -/
def rosterQuota (s : State) : Nat :=
  match s.tcfg.inForce with
  | none => 16
  | some c => (c.quotas.lookup (ownUid s)).getD c.defQuota

/-- Entries 0 to 63 in a state. -/
def entriesIn (s : State) (p : Nat → Bool) : List Nat := (List.range 64).filter (fun n => p (rd s (DEV_WRK_STATE n)))

/-- Entries in OFFERED or PRESENT. -/
def rosterUsed (s : State) : Nat := (entriesIn s (fun v => decide (v = 1 ∨ v = 2))).length

/-- DEV_ROSTER follows the roster. -/
def syncRoster (s : State) : State :=
  let s := wr (wr s DEV_ROSTER_PRESENT (entriesIn s (fun v => decide (v = 2))).length) DEV_ROSTER_LOST (entriesIn s (fun v => decide (v = 3))).length
  wrB (wr s DEV_ROSTER_QUOTA (rosterQuota s)) DEV_ROSTER_REACHED (decide (rosterQuota s ≤ rosterUsed s))

/-- The roster as the configuration store keeps it (R298): index, UID and links of every entry. -/
def storeRoster (s : State) : State :=
  let l := (entriesIn s (fun v => decide (v ≠ 0))).map (fun n => (n + 1, rd s (DEV_WRK_UID n), rd s (DEV_WRK_STATE_LINK1 n), rd s (DEV_WRK_STATE_LINK2 n)))
  syncRoster { s with store := { s.store with roster := l } }

/-- The entry that holds a worker's UID. -/
def entryByUid (s : State) (uid : Nat) : Option Nat :=
  (List.range 64).find? (fun n => decide (rd s (DEV_WRK_STATE n) ≠ 0 ∧ rd s (DEV_WRK_UID n) = uid))

/-- Last seen now. -/
def seenNow (n : Nat) (s : State) : State := { s with roster := { s.roster with seen := putD s.roster.seen n (nowNs s) 0 } }

/-- Sends of the ASSIGN that waits for its ACK. -/
def setSends (n v : Nat) (s : State) : State := { s with roster := { s.roster with sends := putD s.roster.sends n v 0 } }

/-- An entry becomes free. -/
def freeEntry (n : Nat) (s : State) : State :=
  let s := wr (wr (wr (wr s (DEV_WRK_STATE n) 0) (DEV_WRK_UID n) 0) (DEV_WRK_STATE_LINK1 n) 0xFF) (DEV_WRK_STATE_LINK2 n) 0xFF
  storeRoster { s with roster := { sends := eraseK s.roster.sends n, seen := eraseK s.roster.seen n, offer := eraseK s.roster.offer n,
                                   macs := eraseK s.roster.macs n } }

/-- An ASSIGN on a link: the node sends it only on its own link to the worker; on a channel only the active or solo twin transmits (R295, R297).
refuse is the flags byte of R295; a refused one has index 0. -/
def sendAssign (link mac uid index refuse : Nat) (s : State) : State :=
  let c := ownCar s
  let h := ownHandle s
  if 0x80 ≤ link then
    if isActive s ∧ (mbusSt s (link % 4)).enumUsed ∧ canDrive s (link % 4) then
      emit s (.can (link % 4) 0x7F1 1 (be 8 uid ++ be 1 (if refuse = 0 then index else 0) ++ be 1 c ++ be 2 h))
    else s
  else if link / 0x40 % 2 ≠ twinNo s then s
  else
    let ips := if refuse = 0 then be 4 (numIp c (0x100 + index)) ++ be 4 (handleIp h (3 + index)) else zeros 8
    let body := be 1 1 ++ be 1 0x11 ++ be 8 uid ++ be 1 (if refuse = 0 then index else 0) ++ be 1 refuse ++ be 1 c ++ be 1 (twinNo s) ++ be 2 h ++
      be 4 (rd s CHURN_COUNT) ++ be 4 (rd s TWIN_GEN) ++ ips
    sendOwn (link % 0x40) (pcpClass s 0) (padTo 60 (macBytes mac ++ macBytes nodeMac ++ be 2 0x88B6 ++ body ++ be 4 (crc32c body))) s

/-- An ASSIGN for an entry on a link. -/
def assignEntry (n link : Nat) (s : State) : State :=
  sendAssign link (lookupD s.roster.macs n 0) (rd s (DEV_WRK_UID n)) (n + 1) 0 s

/-- The quota is reached: refused, bit 0, and ROSTER_FULL. -/
def refuseFull (w : WorkerHello) (s : State) : State := raise (sendAssign w.link.toNat w.mac.toNat w.uid.toNat 0 1 s) 0x000 11

/-- The entry that a new worker takes (R296): its last index if free, else the lowest free one, else the LOST entry last seen longest ago. -/
def chooseEntry (s : State) (lastIndex : Nat) : Option Nat :=
  let free := entriesIn s (fun v => decide (v = 0))
  if 1 ≤ lastIndex ∧ free.contains (lastIndex - 1) then some (lastIndex - 1)
  else match free with
  | n :: _ => some n
  | [] =>
    (entriesIn s (fun v => decide (v = 3))).foldl (fun a n =>
      match a with
      | none => some n
      | some m => if lookupD s.roster.seen n 0 < lookupD s.roster.seen m 0 then some n else some m) none

/-- An entry is offered to a worker on a link. -/
def offerEntry (n : Nat) (w : WorkerHello) (s : State) : State :=
  let s := wr (wr (wr (wr s (DEV_WRK_STATE n) 1) (DEV_WRK_UID n) w.uid.toNat) (DEV_WRK_STATE_LINK1 n) 0xFF) (DEV_WRK_STATE_LINK2 n) 0xFF
  let s := { s with roster := { s.roster with offer := insertK s.roster.offer n w.link.toNat, macs := insertK s.roster.macs n w.mac.toNat } }
  storeRoster (assignEntry n w.link.toNat (setSends n 1 (seenNow n s)))

/-- A record of a roster entry: source ROSTER, object its index. -/
def rosterRecord (n : Nat) (s : State) : State := recordEvent s 0x000 10 0 (some (n + 1))

/-- A HELLO of a free worker. -/
def helloFree (w : WorkerHello) (s : State) : State :=
  if rosterUsed s < rosterQuota s then
    match chooseEntry s w.lastIndex with
    | none => s
    | some n => offerEntry n w (if rd s (DEV_WRK_STATE n) = 3 then freeEntry n (rosterRecord n s) else s)
  else refuseFull w s

/-- A link of the other twin than that of a recorded consist port. -/
def otherTwin (a b : Nat) : Bool := decide (a < 0x80 ∧ b < 0x80 ∧ a / 0x40 % 2 ≠ b / 0x40 % 2)

/-- A HELLO of a PRESENT worker: last seen, a second link of the other twin, or a duplicate. -/
def helloPresent (n : Nat) (w : WorkerHello) (s : State) : State :=
  let l1 := rd s (DEV_WRK_STATE_LINK1 n)
  let l2 := rd s (DEV_WRK_STATE_LINK2 n)
  if w.link.toNat = l1 ∨ w.link.toNat = l2 then seenNow n s
  else if l2 = 0xFF ∧ otherTwin l1 w.link.toNat then storeRoster (seenNow n (wr s (DEV_WRK_STATE_LINK2 n) w.link.toNat))
  else rosterRecord n (sendAssign w.link.toNat w.mac.toNat w.uid.toNat 0 2 s)

/-- A HELLO (R296). A HELLO of an OFFERED worker has no row there and changes nothing. -/
def rosterHello (w : WorkerHello) (s : State) : State :=
  match entryByUid s w.uid.toNat with
  | none => helloFree w s
  | some n =>
    let st := rd s (DEV_WRK_STATE n)
    if st = 2 then helloPresent n w s
    else if st = 3 then (if rosterUsed s < rosterQuota s then offerEntry n w s else refuseFull w s)
    else s

/-- An ACK (R296): an OFFERED worker becomes PRESENT; of a PRESENT one the ASSIGN of a commit is answered. -/
def rosterAck (w : WorkerAck) (s : State) : State :=
  match entryByUid s w.uid.toNat with
  | none => s
  | some n =>
    if w.index ≠ n + 1 ∨ w.churn.toNat ≠ rd s CHURN_COUNT then s
    else if rd s (DEV_WRK_STATE n) = 1 then
      raise (storeRoster (setSends n 0 (wr (wr s (DEV_WRK_STATE n) 2) (DEV_WRK_STATE_LINK1 n) w.link.toNat))) 0x000 10
    else if rd s (DEV_WRK_STATE n) = 2 then setSends n 0 s
    else s

/-- The link on which this node takes a worker frame: its own consist port, or a channel that enumerates workers. -/
def ownLink (s : State) (link : Nat) : Bool :=
  if 0x80 ≤ link then (mbusSt s (link % 4)).enumUsed else decide (link / 0x40 % 2 = twinNo s) && linkUp s (link % 0x40)

/-- WORKER_HELLO_RX: taken here and passed to the partner (R293). -/
def workerHello (w : WorkerHello) (s : State) : State :=
  if w.crcGood ∧ ownLink s w.link.toNat then journalOther (.hello w) (rosterHello w s) else s

/-- WORKER_HELLO_RX. -/
def execWorkerHelloRx (w : WorkerHello) (s : State) : Host.Outcome State Fault Refusal := .next (whenRun s (workerHello w))

/-- WORKER_ACK_RX: taken here and passed to the partner. -/
def workerAck (w : WorkerAck) (s : State) : State :=
  if w.crcGood ∧ ownLink s w.link.toNat then journalOther (.ack w) (rosterAck w s) else s

/-- WORKER_ACK_RX. -/
def execWorkerAckRx (w : WorkerAck) (s : State) : Host.Outcome State Fault Refusal := .next (whenRun s (workerAck w))

/-- A PRESENT worker is lost. -/
def workerLost (n : Nat) (s : State) : State := rosterRecord n (raise (syncRoster (setSends n 0 (wr s (DEV_WRK_STATE n) 3))) 0x000 10)

/-- The links of an entry on which an ASSIGN goes out. -/
def assignLinks (s : State) (n : Nat) : List Nat :=
  if rd s (DEV_WRK_STATE n) = 1 then [lookupD s.roster.offer n 0xFF]
  else [rd s (DEV_WRK_STATE_LINK1 n), rd s (DEV_WRK_STATE_LINK2 n)].filter (fun l => decide (l ≠ 0xFF))

/-- ASSIGN_RETRY: 100 ms without ACK: sent again, at most three times; then an offered worker is free and a PRESENT one lost. -/
def assignRetry (n : Nat) (s : State) : State :=
  let k := lookupD s.roster.sends n 0
  let st := rd s (DEV_WRK_STATE n)
  if k = 0 ∨ (st ≠ 1 ∧ st ≠ 2) then s
  else if k < 3 then forEach (assignLinks s n) (fun l s => assignEntry n l s) (setSends n (k + 1) s)
  else if st = 1 then freeEntry n s
  else workerLost n s

/-- ASSIGN_RETRY of an entry. -/
def execAssignRetry (w : Fin 64) (s : State) : Host.Outcome State Fault Refusal := .next (whenRun s (assignRetry w.val))

/-- ROSTER_BEAT_TIMEOUT: no HELLO on any link for 3 × ROSTER_BEAT. -/
def rosterBeat (n : Nat) (s : State) : State := if rd s (DEV_WRK_STATE n) = 2 then workerLost n s else s

/-- ROSTER_BEAT_TIMEOUT of an entry. -/
def execRosterBeatTimeout (w : Fin 64) (s : State) : Host.Outcome State Fault Refusal := .next (whenRun s (rosterBeat w.val))

/-- ROSTER_HOLD_EXPIRY: a LOST entry frees its index. -/
def rosterHold (n : Nat) (s : State) : State := if rd s (DEV_WRK_STATE n) = 3 then raise (freeEntry n s) 0x000 10 else s

/-- ROSTER_HOLD_EXPIRY of an entry. -/
def execRosterHoldExpiry (w : Fin 64) (s : State) : Host.Outcome State Fault Refusal := .next (whenRun s (rosterHold w.val))

/-- A commit sends ASSIGN to every PRESENT worker (R296). -/
def assignAll (s : State) : State :=
  forEach (entriesIn s (fun v => decide (v = 2))) (fun n s => forEach (assignLinks s n) (fun l s => assignEntry n l s) (setSends n 1 s)) s

/-- The roster that boot restores: every entry LOST, last seen now (R298). -/
def restoreRoster (s : State) : State :=
  syncRoster (forEach s.store.roster (fun e s =>
    let n := e.1 - 1
    seenNow n (wr (wr (wr (wr s (DEV_WRK_STATE n) 3) (DEV_WRK_UID n) e.2.1) (DEV_WRK_STATE_LINK1 n) e.2.2.1) (DEV_WRK_STATE_LINK2 n) e.2.2.2)) s)

/-! ## The train configuration (R289 to R292) -/

/-- A train configuration from its bytes (R289, R457), without the signature's verdict; none where a field is out of range. -/
def parseTcfg (d : List Byte) : Option TrainConfig :=
  let nq := leAt d 0x14 1
  let nm := leAt d 0x15 1
  let km := 0x70 + 16 * nq
  let quotas := (List.range nq).map (fun i => (BitVec.ofNat 64 (leAt d (0x70 + 16 * i) 8), leAt d (0x78 + 16 * i) 1))
  let c : TrainConfig :=
    { seq := BitVec.ofNat 32 (leAt d 4 4), vid := leAt d 0x0C 2, auth := decide (leAt d 0x0E 1 = 1), defQuota := leAt d 0x0F 1,
      beatMs := leAt d 0x10 2, holdS := leAt d 0x12 2, ttdp := slice d 0x18 24,
      mgrEligible := (List.range nm).map (fun i => BitVec.ofNat 64 (leAt d (0x30 + 8 * i) 8)), quotas := quotas,
      macsec := bit (leAt d (km + 2) 1) 0, conf := bit (leAt d (km + 2) 1) 1, churnSalt := slice d (km + 4) 16,
      maintAuth := slice d (km + 20) 64, maintMax := leAt d (km + 84) 2, bytes := d }
  if d.length ≤ 16384 ∧ leAt d 0 4 = 0x43545A46 ∧ leAt d 4 4 ≠ 0 ∧ leAt d 8 4 = d.length ∧ 1 ≤ c.vid ∧ c.vid ≤ 4094 ∧ leAt d 0x0E 1 ≤ 1 ∧
      c.defQuota ≤ 64 ∧ 100 ≤ c.beatMs ∧ c.beatMs ≤ 10000 ∧ 1 ≤ c.holdS ∧ nq ≤ 64 ∧ nm ≤ 8 ∧ leAt d 0x16 2 = 0 ∧
      quotas.all (fun q => decide (q.2 ≤ 64)) ∧ quotas.foldl (fun a q => a + q.2) 0 + c.defQuota * (64 - nq) ≤ 1024 ∧
      leAt d km 2 = 88 ∧ leAt d (km + 2) 1 ≤ 3 ∧ leAt d (km + 3) 1 = 0 ∧ 1 ≤ c.maintMax ∧ c.maintMax ≤ 1440 ∧ leAt d (km + 86) 2 = 0 then
    some c
  else none

/-- The newest train configuration that the node holds: pending, else in force. -/
def newestTcfg (s : State) : Option TrainConfig := s.tcfg.pend.orElse (fun _ => s.tcfg.inForce)

/-- Its sequence number; 0 for none. -/
def tcfgSeq (s : State) : Nat := match newestTcfg s with | none => 0 | some c => c.seq.toNat

/-- DEV_TCFG and DEV_TCFG_PEND follow the state. -/
def syncTcfg (s : State) : State :=
  wr (wr s DEV_TCFG (match s.tcfg.inForce with | none => 0 | some c => c.seq.toNat)) DEV_TCFG_PEND (match s.tcfg.pend with | none => 0 | some c => c.seq.toNat)

/-- A configuration of a higher sequence becomes pending: stored, TCFG raised, the churn of 20 ms later owed; a manager sends it (R291). -/
def adoptTcfg (c : TrainConfig) (s : State) : State :=
  let s := wrB (wrB s DEV_TCFG_STAT_INVALID false) DEV_TCFG_STAT_OLDER false
  let s := { s with tcfg := { s.tcfg with pend := some c, churnDue := true, sendDue := s.tcfg.sendDue || rdB s DEV_ROLE_SELF },
                    store := { s.store with tcfg := some c } }
  raise (syncTcfg s) 0x000 9

/-- A whole object that has been received: its signature's verdict and its fields (R289, R291). -/
def takeTcfg (d : List Byte) (sigGood : Bool) (seq : Nat) (s : State) : State :=
  let bad (s : State) : State := raiseRec (wrB s DEV_TCFG_STAT_INVALID true) 0x000 9 0 none
  if seq = tcfgSeq s then s
  else if seq < tcfgSeq s then raise (wrB s DEV_TCFG_STAT_OLDER true) 0x000 9
  else if sigGood = false then bad s
  else match parseTcfg d with
  | none => bad s
  | some c => if c.seq.toNat = seq then adoptTcfg c s else bad s

/-- The accepted sources of R291. -/
def tcfgSource (s : State) (g : TcfgSeg) : Bool := g.srcManager || (g.srcTrain && s.churn.tagFailed)

/-- TCFG_RX: a segment of an accepted source; a new sequence number starts a new collection, the last segment ends it. -/
def tcfgRx (g : TcfgSeg) (sigGood : Bool) (s : State) : State :=
  if g.crcGood = false then inc s (NODE_OVERLAP 0)
  else if tcfgSource s g = false ∨ g.count = 0 ∨ 16 < g.count ∨ g.count ≤ g.index ∨ g.data.isEmpty ∨ 1024 < g.data.length then s
  else
    let same := decide (s.tcfg.segSeq = g.seq.toNat ∧ s.tcfg.segCount = g.count ∧ s.tcfg.segTotal = g.total ∧ s.tcfg.segs ≠ [])
    let segs := insertK (if same then s.tcfg.segs else []) g.index g.data
    let s := { s with tcfg := { s.tcfg with segSeq := g.seq.toNat, segCount := g.count, segTotal := g.total, segs := segs } }
    if segs.length < g.count then s
    else
      let d := segs.flatMap (·.2)
      let s := { s with tcfg := { s.tcfg with segSeq := 0, segCount := 0, segTotal := 0, segs := [] } }
      takeTcfg d (sigGood && decide (d.length = g.total)) g.seq.toNat s

/-- TCFG_RX. -/
def execTcfgRx (g : TcfgSeg) (sigGood : Bool) (s : State) : Host.Outcome State Fault Refusal := .next (whenRun s (tcfgRx g sigGood))

/-- TCFG_SEGMENT_TIMEOUT: 100 ms after the first segment, what has arrived is discarded (R292). -/
def execTcfgSegmentTimeout (s : State) : Host.Outcome State Fault Refusal :=
  .next (whenRun s (fun s => { s with tcfg := { s.tcfg with segSeq := 0, segCount := 0, segTotal := 0, segs := [] } }))

/-- Segment idx of n of a train configuration (R290). -/
def tcfgFrame (s : State) (c : TrainConfig) (idx n : Nat) : List Byte :=
  let d := (c.bytes.drop (1024 * idx)).take 1024
  let body := be 1 1 ++ be 1 8 ++ be 8 (ownUid s).toNat ++ be 1 (twinNo s) ++ be 1 0 ++ be 2 idx ++ be 2 n ++ be 2 d.length ++ be 4 c.seq.toNat ++
    be 4 c.bytes.length ++ d
  macBytes 0x01EB1E0000B6 ++ macBytes (ownTrainMac s) ++ be 2 0x8100 ++ be 2 (6 * 8192 + mgmtVid s) ++ be 2 0x88B6 ++ body ++ be 4 (crc32c body)

/-- TCFG_SEND: the manager, whatever its twin role (R287), sends every segment in index order toward B1, B2 and T (R283, R291). -/
def tcfgSend (s : State) : State :=
  if s.tcfg.sendDue = false ∨ rdB s DEV_ROLE_SELF = false ∨ rdB s TWIN_STAT_LATE = true then s
  else
    let s := { s with tcfg := { s.tcfg with sendDue := false } }
    match newestTcfg s with
    | none => s
    | some c =>
      let n := (c.bytes.length + 1023) / 1024
      forEach (List.range n) (fun i s => forEach [0, 1, 14] (fun p s => if linkUp s p then sendOwn p (pcpClass s 6) (tcfgFrame s c i n) s else s) s) s

/-- TCFG_SEND. -/
def execTcfgSend (s : State) : Host.Outcome State Fault Refusal := .next (whenRun s tcfgSend)

/-- The management VID of the train configuration in force, 4,000 without one (R280), applies from the attempt that starts (R292). -/
def takeVid (s : State) : State := { s with tcfg := { s.tcfg with vid := match s.tcfg.inForce with | none => 4000 | some c => c.vid } }

/-- A pending train configuration comes into force at a commit (R292): AUTH, the churn key, the quotas. A new churn key while a port of the attempt
was a line end under R243 owes the churn of R292 item 2. -/
def tcfgInForce (s : State) : State :=
  match s.tcfg.pend with
  | none => s
  | some c =>
    let before := slotAt s 4
    let s := { s with tcfg := { s.tcfg with inForce := some c, pend := none } }
    let s := touch 0x028 (wrBoth s CHURN_CTL_AUTH (if c.auth then 1 else 0))
    let s := churnKey c (syncRoster (syncTcfg s))
    if (slotAt s 4).valid ∧ ¬ (before.valid ∧ (slotAt s 4).key = before.key) ∧ s.churn.tagEnd then { s with tcfg := { s.tcfg with keyChurnDue := true } } else s

/-! ## Remote apertures (R116) -/

/-- Aperture a resolves: its handle is in the committed curd and its target is not this node. -/
def apertureResolves (s : State) (a : Nat) : Bool :=
  match amapByHandle s (rd s (BRG_RWIN_TGT_HANDLE a)) with
  | none => false
  | some e => !(e.own && decide (rd s (BRG_RWIN_TGT_TWIN a) = twinNo s))

/-- RESOLVED of every aperture, at each commit and at each write of a target. -/
def resolveApertures (s : State) : State := forEach [0, 1, 2, 3] (fun a t => wrB t (BRG_RWIN_TGT_RESOLVED a) (apertureResolves t a)) s

end Sys2Proof.Machine
end

