-- ==== Sys2Proof/Machine/Churn.lean ====
section
/-! DEFINITION. Churn (09_churn.md): triggers, churn frames, attempts, lists, agreement, commit, failures and split, TTDP mode, and the commands
of the CHURN group. -/

namespace Sys2Proof.Machine

/-! ## Churn frames (R242 to R248) -/

/-- A churn frame: kind, originator, flags above LINE, entries of the segment, body, TAG and CRC. -/
def churnFrame (s : State) (kind : Nat) (uid : BitVec 64) (twin : Bool) (flags count : Nat) (body : List Byte) : List Byte :=
  let head := be 1 1 ++ be 1 kind ++ be 1 (rd s CHURN_STAT_ATTEMPT) ++ be 1 (twinNo s + flags) ++ be 8 uid.toNat ++ be 1 (if twin then 1 else 0) ++
    be 1 count ++ be 4 (rd s CHURN_COUNT) ++ body
  let tag := if s.churn.auth then (Config.kmac (slotAt s 4).key head 16 (be 4 0x465A4348)).take 16 else zeros 16
  macBytes 0x01EB1E0000B5 ++ macBytes nodeMac ++ be 2 0x88B5 ++ head ++ tag ++ be 4 (crc32c (head ++ tag))

/-- Sends a churn frame ahead of every queued frame (R244). -/
def sendChurn (p : Nat) (bytes : List Byte) (s : State) : State := if s.churn.dead.contains p then s else transmitUncontrolled p bytes s

/-- This node as an originator. -/
def selfTwin (s : State) : Bool := s.fuses.twinId

/-- A CALL with its cause (R245). -/
def sendCall (p cause : Nat) (s : State) : State := sendChurn p (churnFrame s 1 (ownUid s) (selfTwin s) 0 0 (be 1 cause ++ zeros 7)) s

/-- A survey entry's bytes (R246). -/
def entryBytes (e : SurveyEntry) : List Byte :=
  be 8 e.uid.toNat ++ be 2 e.handle.toNat ++ be 2 e.nextHandle.toNat ++ be 4 e.prevId.toNat ++ be 4 e.churn.toNat ++ be 4 e.gen.toNat ++
  be 1 ((if e.twinId then 1 else 0) + (if e.facing then 2 else 0) + (if e.lead then 4 else 0) + (if e.cpl1 then 8 else 0) + (if e.cpl2 then 16 else 0) +
        (if e.relayOnly then 32 else 0)) ++
  be 1 e.ownState.toNat ++ be 1 e.partnerState.toNat ++
  be 1 ((if e.b1Up then 1 else 0) + (if e.b2Up then 2 else 0) + (if e.pb1Up then 4 else 0) + (if e.pb2Up then 8 else 0)) ++ be 1 e.carNo.toNat ++ zeros 3

/-- The LEAD_CMD part of a SURVEY body. -/
def leadBytes (l : LeadCmd) : List Byte := be 8 l.uid.toNat ++ be 1 l.carEnd.toNat ++ zeros 3 ++ be 4 l.count.toNat

/-- A SURVEY in one segment, or in two where it has more than 32 entries (R251). -/
def sendSurvey (p : Nat) (uid : BitVec 64) (twin : Bool) (lead : LeadCmd) (overflow : Bool) (es : List SurveyEntry) (s : State) : State :=
  let ovf := if overflow then 8 else 0
  let seg (i : Nat) (part : List SurveyEntry) (s : State) : State :=
    sendChurn p (churnFrame s 2 uid twin (2 * i + (if 32 < es.length then 4 else 0) + ovf) part.length (leadBytes lead ++ part.flatMap entryBytes)) s
  if es.length ≤ 32 then seg 0 es s else seg 1 (es.drop 32) (seg 0 (es.take 32) s)

/-- An AGREE in one or two segments (R248). -/
def sendAgree (p : Nat) (uid : BitVec 64) (twin : Bool) (a : Agree) (s : State) : State :=
  let seg (i : Nat) (part : List CarEntry) (s : State) : State :=
    sendChurn p (churnFrame s 3 uid twin (2 * i + (if 32 < a.curd.cars.length then 4 else 0)) part.length
      (a.digest ++ be 1 ((if a.both then 1 else 0) + (if a.verified then 2 else 0)) ++ zeros 3 ++ curdHeader a.curd ++ part.flatMap carBytes)) s
  if a.curd.cars.length ≤ 32 then seg 0 a.curd.cars s else seg 1 (a.curd.cars.drop 32) (seg 0 (a.curd.cars.take 32) s)

/-- A COMMIT body (R248). -/
def commitBytes (c : Commit) : List Byte :=
  c.digest ++ be 4 c.commitIn ++ be 8 c.instant.toNat ++ be 8 c.gm.toNat ++ be 1 ((if c.synced then 1 else 0) + (if c.domain then 2 else 0)) ++ zeros 3

/-! ## The node's own entry (R246) -/

/-- A role as R249 codes a state. -/
def stateCode (role : Nat) : Nat := if role ≤ 2 then role else if role ≤ 4 then 3 else 0xFF

/-- The newest set-lead command that the node knows. -/
def knownLead (s : State) : LeadCmd := newerLead s.churn.leadCmd (match s.churn.curd with | none => LeadCmd.none | some c => c.lead)

/-- The node's survey entry, with LEAD and the couplers as they are now (R241). -/
def selfEntry (s : State) (facing : Bool) : SurveyEntry :=
  let car := carIn s.churn.curd (ownUid s)
  { uid := ownUid s, handle := (match car with | none => 0 | some c => c.handle),
    nextHandle := (match s.churn.curd with | none => 0 | some c => c.nextHandle),
    prevId := (match s.churn.curd with | none => 0 | some _ => BitVec.ofNat 32 (trainId s.churn.digest)),
    churn := BitVec.ofNat 32 (rd s CHURN_COUNT), gen := BitVec.ofNat 32 (rd s TWIN_GEN), twinId := s.fuses.twinId, facing := facing,
    lead := bit s.sleep.inputs.toNat 3, cpl1 := bit s.sleep.inputs.toNat 1, cpl2 := bit s.sleep.inputs.toNat 2, relayOnly := s.churn.relayOnly,
    ownState := BitVec.ofNat 8 (if s.churn.relayOnly then 3 else stateCode (role s)),
    partnerState := BitVec.ofNat 8 (stateCode (rd s TWIN_STAT_PARTNER_ROLE)), b1Up := linkUp s 0, b2Up := linkUp s 1,
    pb1Up := bit s.twin.partnerLinks.toNat 0, pb2Up := bit s.twin.partnerLinks.toNat 1,
    carNo := (match car with | none => 0 | some c => c.number) }

/-! ## Attempts (R250, R264 to R267) -/

/-- A churn counter (R274). -/
def churnCnt (k : Nat) (s : State) : State := inc s (CHURN_CNT k)

/-- Sets the phase: 0 IDLE, 1 CALLED, 2 LISTED, 3 AGREED, 4 PENDING, 5 SPLIT. -/
def setChurnPhase (n : Nat) (s : State) : State := wr s CHURN_STAT_PHASE n

/-- The phase. -/
def churnPhase (s : State) : Nat := rd s CHURN_STAT_PHASE

/-- Phases in which an attempt is in progress and not pending. -/
def attempting (s : State) : Bool := decide (1 ≤ churnPhase s ∧ churnPhase s ≤ 3)

/-- What an attempt discards and what it keeps; the committed settings take effect (R250, R273). -/
def freshAttempt (s : State) : State :=
  let s := takeVid s
  let c := s.churn
  { s with churn := { ChurnSt.init with curd := c.curd, digest := c.digest, leadCmd := c.leadCmd, firstTrigger := c.firstTrigger,
                                        tagFailed := c.tagFailed, lastCommit := c.lastCommit, relayOnly := c.relayOnly, ttdpPeer := c.ttdpPeer, dead := c.dead,
                                        auth := rdB s CHURN_CTL_AUTH, cplTrig := rdB s CHURN_CTL_CPL_TRIG, leadUs := rd s CHURN_LEAD,
                                        ttdp := rdB s CHURN_CTL_MODE },
           fwd := { s.fwd with after := s.fwd.after.filter (fun w => decide (w ≠ .accept)) } }

/-- A port is a line end for the attempt. -/
def lineEnd (p : Nat) (s : State) : State :=
  if s.churn.lineEnd.contains p then s else { s with churn := { s.churn with lineEnd := s.churn.lineEnd ++ [p] } }

/-- The node enters an attempt (R250). -/
def enterAttempt (att cause : Nat) (s : State) : State :=
  let s := freshAttempt s
  let s := wrB (wrB (wrB s CHURN_STAT_DEFERRED false) CHURN_STAT_SINGLE_LINE false) CHURN_STAT_LEADER false
  let s := churnCnt 6 (setChurnPhase 1 (wr (wr s CHURN_STAT_ATTEMPT att) CHURN_STAT_LAST_CAUSE cause))
  let s := raiseIf (decide (att = 1)) 0x028 0 s
  forEach [0, 1] (fun p s => if linkUp s p then sendCall p cause s else lineEnd p s) s

/-- A churn starts (R267, rows IDLE and SPLIT). -/
def startChurn (att cause : Nat) (s : State) : State :=
  enterAttempt att cause { wr s CHURN_STAT_FAILURES 0 with churn := { s.churn with firstTrigger := nowNs s } }

/-- Completes CHURN_START and CHURN_SET_LEAD (R148, R263, R266). -/
def completeChurn (status : Nat) (res : List Byte) (s : State) : State :=
  completeWhere (fun a => decide (a.opcode = 0x0500 ∨ a.opcode = 0x0501)) status res s

/-- A split (R266). -/
def splitChurn (s : State) : State :=
  let s := restoreTrain (freshAttempt s)
  let s := wrB (wrB (wrB s CHURN_STAT_DEFERRED false) CHURN_STAT_SINGLE_LINE false) CHURN_STAT_LEADER false
  completeChurn stTIMEOUT [] (raise (churnCnt 12 (setChurnPhase 5 s)) 0x028 6)

/-- A restart (R264) with the next attempt, or a CALL's; a pending commit is cancelled. -/
def restartChurn (att cause : Nat) (s : State) : State :=
  let s := raise (churnCnt 8 s) 0x028 4
  let s := if churnPhase s = 4 then churnCnt 9 s else s
  if 16 < att then splitChurn s else enterAttempt att cause s

/-- A failure (R265): counted, FAIL with its record, the next attempt; the third, or one of attempt 16, splits (R266). -/
def failChurn (cause : Nat) (s : State) : State :=
  let n := rd s CHURN_STAT_FAILURES + 1
  let s := raiseRec (churnCnt 7 (wr s CHURN_STAT_FAILURES n)) 0x028 5 cause none
  if 3 ≤ n ∨ 16 ≤ rd s CHURN_STAT_ATTEMPT then splitChurn s else enterAttempt (rd s CHURN_STAT_ATTEMPT + 1) cause s

/-! ## Lists and the curd (R251 to R254) -/

/-- Something is owed at the next beat of a port. -/
def owe (p : Nat) (o : Owed) (s : State) : State := { s with churn := { s.churn with owed := s.churn.owed ++ [(p, o)] } }

/-- A port is a line end. -/
def isEnd (s : State) (p : Nat) : Bool := s.churn.lineEnd.contains p

/-- A node with exactly one line end starts a survey out of its other port. -/
def startSurvey (s : State) : State :=
  if s.churn.started ∨ isEnd s 0 = isEnd s 1 then s
  else
    let q := if isEnd s 0 then 1 else 0
    owe q (.survey (ownUid s) (selfTwin s) (knownLead s) false [selfEntry s (decide (q = 1))]) { s with churn := { s.churn with started := true } }

/-- The line list from the surveys held, from the B1 side, FACING telling which end faces that side (R252). -/
def joinLists (s : State) : PartnerList :=
  let at_ (p : Nat) : List SurveyEntry := match s.churn.surveys.lookup p with | none => [] | some v => v.entries
  let lead := s.churn.surveys.foldl (fun l v => newerLead l v.2.lead) (knownLead s)
  ⟨lead, s.churn.surveys.any (fun v => v.2.overflow), at_ 0 ++ [selfEntry s true] ++ turnList (at_ 1)⟩

/-- The bytes in which a list passes over T: the manual gives it no layout; the model sends it as a SURVEY body (log entry 33). -/
def listBytes (l : PartnerList) : List Byte := leadBytes l.lead ++ be 1 (if l.overflow then 1 else 0) ++ l.entries.flatMap entryBytes

/-- The node's line list is complete: it is joined, and passed to the partner where T is link up (R252). -/
def completeList (s : State) : State :=
  if s.churn.ownList.isSome ∨ ¬ ([0, 1].all (fun p => isEnd s p || (s.churn.surveys.lookup p).isSome)) then s
  else
    let l := joinLists s
    let s := { s with churn := { s.churn with ownList := some l } }
    if tUp s then emit s (.overT 0x0252 (listBytes l)) else s

/-- A list of the partner's is to be waited for: T is up and the partner holds a role; a partner without a role sends none (log entry 34). -/
def awaitsPartner (s : State) : Bool := tUp s && decide (rd s TWIN_STAT_PARTNER_ROLE ≠ 0xF)

/-- The curd of the lists held; none while a list is missing. -/
def curdNow (s : State) : Option CurdResult :=
  match s.churn.ownList with
  | none => none
  | some l =>
    if s.churn.partner.isNone ∧ awaitsPartner s then none
    else
      let q := s.churn.partner.getD ⟨LeadCmd.none, false, []⟩
      some (computeCurd s.churn.curd (trainId s.churn.digest) (newerLead l.lead q.lead) (l.overflow || q.overflow) l.entries q.entries)

/-- LISTED: the curd is computed, ORDER_UNSURE and LEAD_CONFLICT raise, and an end owes its AGREE inward (R253, R254, R257). -/
def listed (c : Curd) (s : State) : State :=
  let both := s.churn.partner.isSome
  let s := setChurnPhase 2 { s with churn := { s.churn with computed := some c, bothLists := both } }
  let s := raiseIf c.leadConflict 0x028 9 (raiseIf c.orderUnsure 0x028 10 s)
  if isEnd s 0 ∨ isEnd s 1 then
    forEach ([0, 1].filter (fun p => !isEnd s p)) (fun p s => owe p (.agree (ownUid s) (selfTwin s) ⟨curdDigest c, both, true, c⟩) s) s
  else s

/-! ## Agreement (R257 to R260) -/

/-- What the AGREE frames held say about a curd. -/
inductive AgreeVerdict where
  | wait | disagree
  | accept (c : Curd) (single : Bool)

/-- Two of a list of digests differ. -/
def differ (l : List (List Byte)) : Bool := match l with | [] => false | d :: t => t.any (fun e => decide (e ≠ d))

/-- R258 for a node that holds both lists. An AGREE arrives at a node alone on its line only through its partner; where the partner is alone too, none
can arrive, and the own curd stands (R240, log entry 35). -/
def decideBoth (s : State) (c : Curd) : AgreeVerdict :=
  let d := curdDigest c
  let got := (s.churn.agrees.filter (fun a => a.2.both)).map (fun a => a.2.digest) ++ s.churn.partnerBoth
  if got.any (fun e => decide (e ≠ d)) then .disagree
  else if !got.isEmpty then .accept c false
  else if isEnd s 0 ∧ isEnd s 1 ∧ (s.churn.partner.map (fun l => l.entries.length)).getD 0 ≤ 1 then .accept c false
  else .wait

/-- R258 for a node that holds only its own list: the AGREE frames of both ends, its own among them where it is an end. -/
def decideOne (s : State) (c : Curd) : AgreeVerdict :=
  let open_ := [0, 1].filter (fun p => !isEnd s p)
  if open_.isEmpty then .accept c true
  else
    let got := open_.filterMap (fun p => (s.churn.agrees.lookup p))
    if got.length < open_.length then .wait
    else
      let got := if open_.length = 1 then got ++ [⟨curdDigest c, false, true, c⟩] else got
      let both := got.filter (fun a => a.both)
      let one := got.filter (fun a => !a.both)
      if differ (both.map (fun a => a.digest)) ∨ differ (one.map (fun a => a.digest)) then .disagree
      else match both with
      | a :: _ => .accept a.curd false
      | [] => match one with | a :: _ => .accept a.curd true | [] => .wait

/-- R258. -/
def decideAgree (s : State) : AgreeVerdict :=
  match s.churn.computed with
  | none => .wait
  | some c => if s.churn.bothLists then decideBoth s c else decideOne s c

/-- Bank 1 takes the train entries and the address map of the accepted curd, after a copy that runs (R209, R210, R259). -/
def writeTrain (s : State) : State :=
  match s.churn.accepted with
  | none => s
  | some c => onBank1 (trainBank s c) s

/-- The node accepts a curd: AGREED, LEADER, bank 1; a curd that fences it under a higher generation is STALE_CLAIM with its record (R259, R270). -/
def acceptCurd (c : Curd) (single : Bool) (s : State) : State :=
  let s := setChurnPhase 3 { s with churn := { s.churn with accepted := some c } }
  let lead := match leaderOf c with | none => false | some (k, t) => decide (k.uid = ownUid s ∧ t = selfTwin s)
  let s := raise (wrB (wrB s CHURN_STAT_SINGLE_LINE single) CHURN_STAT_LEADER lead) 0x028 1
  let s := if copying s then { s with fwd := { s.fwd with after := s.fwd.after ++ [.accept] } } else writeTrain s
  match carIn (some c) (ownUid s) with
  | none => s
  | some k =>
    if (if s.fuses.twinId then k.twin1 else k.twin0) = 3 ∧ rd s TWIN_GEN < k.gen.toNat then raiseRec (churnCnt 13 s) 0x028 8 0 none else s

/-- The AGREE from each end of the segment has arrived with VERIFIED (R260). -/
def sidesVerified (s : State) (d : List Byte) : Bool :=
  [0, 1].all (fun p => isEnd s p || s.churn.agrees.any (fun a => decide (a.1 = p ∧ a.2.digest = d) && a.2.verified))

/-- The pending commit instant is set (R267). -/
def setPending (instant : Nat) (s : State) : State :=
  raise (setChurnPhase 4 (wr { s with churn := { s.churn with instant := some instant, held := none } } CHURN_COMMIT instant)) 0x028 2

/-- CHURN_LEAD in force for n cars, µs (R262). -/
def commitLead (s : State) (n : Nat) : Nat := max s.churn.leadUs ((n - 1) * 4 + 200)

/-- A COMMIT leaves a port. -/
def sendCommit (uid : BitVec 64) (twin : Bool) (c : Commit) (p : Nat) (s : State) : State := sendChurn p (churnFrame s 4 uid twin 0 0 (commitBytes c)) s

/-- The leader sends COMMIT out of each port that is no line end, and through its partner (R260). -/
def leadCommit (c : Curd) (s : State) : State :=
  let now := nowNs s
  let instant := (now + commitLead s c.cars.length * 1000 + 999) / 1000 * 1000
  let m : Commit := ⟨curdDigest c, instant - now, BitVec.ofNat 64 instant, BitVec.ofNat 64 (rd s (TIME_GM (selDom s))), trainSync s, decide (selDom s = 1), 0⟩
  let s := forEach ([0, 1].filter (fun p => !isEnd s p)) (sendCommit (ownUid s) (selfTwin s) m) s
  let s := if tUp s then emit s (.overT 0x0261 (commitBytes m)) else s
  setPending instant s

/-- A COMMIT whose digest is accepted: sent on, and its instant is pending (R261). at_ is its time of arrival. -/
def takeCommit (src : Nat) (m : Commit) (instant at_ : Nat) (s : State) : State :=
  let left := m.commitIn - m.residence - (nowNs s - at_)
  let f := { m with commitIn := left }
  let uid := match s.churn.accepted.bind leaderOf with | none => ownUid s | some (k, _) => k.uid
  let twin := match s.churn.accepted.bind leaderOf with | none => selfTwin s | some (_, t) => t
  let s := forEach ([0, 1].filter (fun p => decide (p ≠ src) && !isEnd s p)) (sendCommit uid twin f) s
  let s := if src ≠ 2 ∧ tUp s then emit s (.overT 0x0261 (commitBytes f)) else s
  setPending instant s

/-- AGREED: the report to the partner, the leader's COMMIT, or a held COMMIT that is now accepted (R260, R261). -/
def agreedStep (c : Curd) (s : State) : State :=
  let d := curdDigest c
  let ok := sidesVerified s d
  let s := if ok ∧ tUp s ∧ s.churn.told = false then emit { s with churn := { s.churn with told := true } } (.overT 0x0260 d) else s
  if rdB s CHURN_STAT_LEADER then
    if ok ∧ (awaitsPartner s = false ∨ s.churn.partnerOk.contains d) then leadCommit c s else s
  else match s.churn.held with
  | none => s
  | some (src, m, instant, at_) => if m.digest = d then takeCommit src m instant at_ s else s

/-- Runs the machine of R267 as far as what the node holds takes it; fuel covers three failures and the phases of an attempt. -/
def progress : Nat → State → State
  | 0, s => s
  | n + 1, s =>
    if churnPhase s = 1 then
      let s := completeList (startSurvey s)
      match curdNow s with
      | none => s
      | some (.fails cause) => progress n (failChurn cause s)
      | some (.ok c) => progress n (listed c s)
    else if churnPhase s = 2 then
      match decideAgree s with
      | .wait => s
      | .disagree => progress n (failChurn 0x12 s)
      | .accept c single => progress n (acceptCurd c single s)
    else if churnPhase s = 3 then
      match s.churn.accepted with
      | none => s
      | some c =>
        if s.churn.bothLists ∧ decideAgree s matches .disagree then progress n (failChurn 0x12 s) else agreedStep c s
    else s

/-- The machine runs after anything changed that it depends on. -/
def runChurn (s : State) : State := progress 16 s

/-! ## Triggers (R238, R264, R267) -/

/-- The node churns natively: not retired, its keeper cores run, MODE 0. -/
def churnsNatively (s : State) : Bool := decide (s.fuses.lc ≠ 4) && !s.churn.relayOnly && !rdB s CHURN_CTL_MODE

/-- A trigger: att is the attempt of a trigger that came from the partner. A trigger within 300 µs of the pending instant is deferred. -/
def triggered (cause : Nat) (att : Option Nat) (s : State) : State :=
  if churnsNatively s = false then
    { s with churn := { s.churn with ttdp := rdB s CHURN_CTL_MODE } }
  else if churnPhase s = 0 ∨ churnPhase s = 5 then runChurn (startChurn (att.getD 1) cause s)
  else if churnPhase s = 4 ∧ cause ≠ 6 ∧ (s.churn.instant.getD 0) ≤ nowNs s + 300000 then
    churnCnt 10 (wrB { s with churn := { s.churn with deferred := some (s.churn.deferred.getD cause) } } CHURN_STAT_DEFERRED true)
  else match att with
  | none => runChurn (restartChurn (rd s CHURN_STAT_ATTEMPT + 1) cause s)
  | some a => if a ≤ rd s CHURN_STAT_ATTEMPT then s else runChurn (restartChurn a cause s)

/-- A trigger of this node, which its partner takes from the journal (R238). -/
def triggerChurn (cause : Nat) (s : State) : State :=
  let t := triggered cause none s
  if churnsNatively s then journalOther (.churn (BitVec.ofNat 8 cause) (Fin.ofNat 17 (rd t CHURN_STAT_ATTEMPT))) t else t

/-- A CALL or SURVEY that takes the node into the attempt of the frame (R250, R264). -/
def followCall (att : Nat) (s : State) : State :=
  let t := if churnPhase s = 0 then startChurn att 6 s else restartChurn att 6 s
  journalOther (.churn 6 (Fin.ofNat 17 att)) t

/-! ## Reception (R243, R250 to R252, R257 to R261) -/

/-- The TAG check in force: that of the attempt, or the committed setting before one runs. -/
def authOn (s : State) : Bool := if churnPhase s = 0 ∨ churnPhase s = 5 then rdB s CHURN_CTL_AUTH else s.churn.auth

/-- A TAG failure (R243): counted, AUTH_FAIL, the port is a line end for the rest of the attempt. -/
def tagFails (p : Nat) (s : State) : State :=
  let s := { s with churn := { s.churn with tagFailed := true, tagEnd := s.churn.tagEnd || decide (churnPhase s ≠ 0 ∧ churnPhase s ≠ 5) } }
  let s := raise (churnCnt 5 s) 0x028 7
  if attempting s then runChurn (lineEnd p s) else s

/-- The checks of a received churn frame, in order: version, kind and mode; CRC; its counter; TAG. f is what a good frame does. -/
def churnRx (p k : Nat) (h : ChurnHdr) (f : State → State) (s : State) : State :=
  if linkUp s p = false ∨ s.fuses.lc = 4 ∨ s.churn.dead.contains p then s
  else if h.known = false ∨ s.churn.ttdp then churnCnt 15 s
  else if h.checkGood = false then inc (churnCnt 4 s) (NODE_OVERLAP 0)
  else
    let s := churnCnt k s
    if authOn s ∧ h.tagGood = false then tagFails p s else f s

/-- A CALL of this attempt has arrived on a port. -/
def called (p : Nat) (s : State) : State :=
  if s.churn.calledRx.contains p then s else { s with churn := { s.churn with calledRx := s.churn.calledRx ++ [p] } }

/-- A good CALL (R250, R264, R266). -/
def takeCall (p att : Nat) (s : State) : State :=
  if churnPhase s = 5 then s
  else if churnPhase s = 0 ∨ rd s CHURN_STAT_ATTEMPT < att then
    let t := followCall att s
    runChurn (if rd t CHURN_STAT_ATTEMPT = att ∧ churnPhase t = 1 then called p t else t)
  else if rd s CHURN_STAT_ATTEMPT = att then called p s
  else if s.churn.answered.contains p then s
  else sendCall p (rd s CHURN_STAT_LAST_CAUSE) { s with churn := { s.churn with answered := s.churn.answered ++ [p] } }

/-- CALL_RX on a backbone port. -/
def execCallRx (p : Fin 2) (h : ChurnHdr) (_cause : BitVec 8) (s : State) : Host.Outcome State Fault Refusal :=
  .next (whenRun s (churnRx p.val 0 h (fun s => if s.churn.relayOnly then s else takeCall p.val h.attempt s)))

/-- NO_PEER_TIMEOUT: 50 µs after entering the attempt no CALL of it has come on the port (R250). -/
def noPeer (p : Nat) (s : State) : State :=
  if attempting s = false ∨ s.churn.calledRx.contains p ∨ isEnd s p then s
  else runChurn (raise (churnCnt 14 (lineEnd p s)) 0x028 11)

/-- NO_PEER_TIMEOUT on a backbone port. -/
def execNoPeerTimeout (p : Fin 2) (s : State) : Host.Outcome State Fault Refusal := .next (whenRun s (noPeer p.val))

/-- A SURVEY is sent on out of the other port with the node's own entry at its end, with OVERFLOW where it has 64 (R251). -/
def passSurvey (p : Nat) (h : ChurnHdr) (v : Survey) (s : State) : State :=
  let q := 1 - p
  let lead := newerLead v.lead (knownLead s)
  if isEnd s q then s
  else if 64 ≤ v.entries.length then owe q (.survey h.uid h.twin lead true v.entries) s
  else owe q (.survey h.uid h.twin lead v.overflow (v.entries ++ [selfEntry s (decide (p = 0))])) s

/-- A good SURVEY (R251): one received in IDLE enters its attempt; one of another attempt is dropped. -/
def takeSurvey (p : Nat) (h : ChurnHdr) (v : Survey) (s : State) : State :=
  let s := if churnPhase s = 0 then followCall h.attempt s else s
  if churnPhase s ≠ 1 ∨ rd s CHURN_STAT_ATTEMPT ≠ h.attempt ∨ isEnd s p ∨ (s.churn.surveys.lookup p).isSome then runChurn s
  else runChurn (passSurvey p h v { s with churn := { s.churn with surveys := s.churn.surveys ++ [(p, v)] } })

/-- SURVEY_RX on a backbone port. A RELAY_ONLY node's survey engine passes it with an entry of its own (R251). -/
def execSurveyRx (p : Fin 2) (h : ChurnHdr) (sv : Survey) (s : State) : Host.Outcome State Fault Refusal :=
  .next (whenRun s (churnRx p.val 1 h (fun s => if s.churn.relayOnly then passSurvey p.val h sv s else takeSurvey p.val h sv s)))

/-- PARTNER_LIST_RX: the partner's list of the attempt (R252). -/
def partnerList (l : PartnerList) (s : State) : State :=
  if churnPhase s = 1 ∧ tUp s then runChurn { s with churn := { s.churn with partner := some l } } else s

/-- PARTNER_LIST_RX. -/
def execPartnerListRx (l : PartnerList) (s : State) : Host.Outcome State Fault Refusal := .next (whenRun s (partnerList l))

/-- An AGREE of the partner's line as the partner reports it: its digest where it has BOTH, and whether its line is VERIFIED (R258, R260). -/
def partnerAgree (a : Agree) (s : State) : State :=
  if attempting s = false ∨ tUp s = false then s
  else
    let c := s.churn
    runChurn { s with churn := { c with partnerBoth := if a.both then c.partnerBoth ++ [a.digest] else c.partnerBoth,
                                        partnerOk := if a.verified then c.partnerOk ++ [a.digest] else c.partnerOk } }

/-- An AGREE on a backbone port: kept, reported to the partner where it has BOTH, and owed to the other port (R257, R258). -/
def takeAgree (p : Nat) (h : ChurnHdr) (a : Agree) (s : State) : State :=
  if attempting s = false ∨ rd s CHURN_STAT_ATTEMPT ≠ h.attempt ∨ (s.churn.agrees.lookup p).isSome then s
  else
    let s := if a.both ∧ tUp s then emit s (.overT 0x0258 a.digest) else s
    let s := { s with churn := { s.churn with agrees := s.churn.agrees ++ [(p, a)] } }
    runChurn (if isEnd s (1 - p) then s else owe (1 - p) (.agree h.uid h.twin a) s)

/-- AGREE_RX on a backbone port, or through the partner. -/
def execAgreeRx (src : Option (Fin 2)) (h : ChurnHdr) (ag : Agree) (s : State) : Host.Outcome State Fault Refusal :=
  .next (whenRun s (match src with
    | none => fun s => if s.churn.ttdp then s else partnerAgree ag (churnCnt 2 s)
    | some p => churnRx p.val 2 h (fun s => if s.churn.relayOnly then s else takeAgree p.val h ag s)))

/-- VERIFIED as an AGREE leaves: cleared where the node's own curd differs (R257). A node that holds only its own list does not judge an AGREE with
BOTH by it, since R258 has it accept that AGREE's digest (log entry 36). -/
def stillVerified (s : State) (a : Agree) : Bool :=
  a.verified && (match s.churn.computed with
    | none => true
    | some c => (a.both && !s.churn.bothLists) || decide (curdDigest c = a.digest))

/-- What a port's survey engine owes leaves at its beat (R244). -/
def churnBeat (p : Nat) (s : State) : State :=
  let mine := s.churn.owed.filter (fun o => decide (o.1 = p))
  let s := { s with churn := { s.churn with owed := s.churn.owed.filter (fun o => decide (o.1 ≠ p)) } }
  if isEnd s p then s
  else forEach mine (fun o s =>
    match o.2 with
    | .survey uid twin lead ovf es => sendSurvey p uid twin lead ovf es s
    | .agree uid twin a => sendAgree p uid twin { a with verified := stillVerified s a } s) s

/-- CHURN_BEAT of a survey engine. -/
def execChurnBeat (p : Fin 2) (s : State) : Host.Outcome State Fault Refusal := .next (whenRun s (churnBeat p.val))

/-- A COMMIT (R261): its instant is the ingress time plus COMMIT_IN, or offset 52 where both are synchronized on one domain and grandmaster; held
until the node accepts its digest. src 2 is the partner; one through the partner goes by its digest alone, since the lines count attempts apart
(log entry 37). -/
def takeCommitRx (src : Nat) (h : ChurnHdr) (m : Commit) (s : State) : State :=
  if attempting s = false ∨ (src ≠ 2 ∧ rd s CHURN_STAT_ATTEMPT ≠ h.attempt) then s
  else
    let same := trainSync s && m.synced && decide ((if m.domain then 1 else 0) = selDom s ∧ m.gm.toNat = rd s (TIME_GM (selDom s)))
    let instant := if same then m.instant.toNat else nowNs s + m.commitIn
    if s.churn.held.isSome then s
    else runChurn { s with churn := { s.churn with held := some (src, m, instant, nowNs s) } }

/-- COMMIT_RX on a backbone port, or through the partner. -/
def execCommitRx (src : Option (Fin 2)) (h : ChurnHdr) (cm : Commit) (s : State) : Host.Outcome State Fault Refusal :=
  .next (whenRun s (match src with
    | none => fun s => if s.churn.ttdp then s else takeCommitRx 2 h cm (churnCnt 3 s)
    | some p => churnRx p.val 3 h (fun s => if s.churn.relayOnly then s else takeCommitRx p.val h cm s)))

/-! ## Commit (R263, R210, R230, R25, R116) -/

/-- The manager role by the committed curd; each gain and each loss raises MANAGER (R286, R288). -/
def setManager (s : State) : State :=
  let eligible := match s.tcfg.inForce with | none => [] | some c => c.mgrEligible
  let m := s.churn.curd.bind (fun c => managerOf c eligible)
  let was := rdB s DEV_ROLE_SELF
  let self := match m with | none => false | some (k, t) => decide (k.uid = ownUid s ∧ t = selfTwin s)
  let s := wr s DEV_ROLE_HANDLE (match m with | none => 0 | some (k, _) => k.handle.toNat)
  let s := wrB (wrB s DEV_ROLE_TWIN (match m with | none => false | some (_, t) => t)) DEV_ROLE_SELF self
  raiseIf (self != was) 0x000 8 s

/-- The registers of the committed curd (R273). -/
def syncCurd (s : State) : State :=
  match s.churn.curd with
  | none => s
  | some c =>
    let s := wr s CHURN_COUNT c.count.toNat
    let s := forEach (List.range 4) (fun k s => wr s (CHURN_DIGEST k) (leAt s.churn.digest (4 * k) 4)) s
    let me := carIn (some c) (ownUid s)
    wr (wr (wr s CHURN_SELF_CARS c.cars.length) CHURN_SELF_CAR (match me with | none => 0 | some k => k.number.toNat))
      CHURN_SELF_HANDLE (match me with | none => 0 | some k => k.handle.toNat)

/-- The manager sends its train configuration after each commit (R291). -/
def oweTcfg (s : State) : State :=
  if rdB s DEV_ROLE_SELF ∧ (newestTcfg s).isSome then { s with tcfg := { s.tcfg with sendDue := true } } else s

/-- A curd becomes the committed one, in one step tick (R263). Boot Step 9 ends with the first commit (R86). -/
def commitCurd (c : Curd) (s : State) : State :=
  let old := ownBindings s
  let s := { s with tlg := { s.tlg with prevTopo := topoNow s } }
  let s := bankSwap s
  let s := syncCurd { s with churn := { s.churn with curd := some c, digest := curdDigest c, lastCommit := nowNs s, tagFailed := false } }
  let s := resolveApertures (setManager s)
  let s := commitKeys (tcfgInForce s)
  let s := raiseRec (churnCnt 11 s) 0x028 3 0 none
  let s := completeChurn stOK (le 4 (rd s CHURN_COUNT) ++ le 1 (rd s CHURN_STAT_ATTEMPT)) s
  let s := { s with store := { s.store with curd := some c, curdDigest := s.churn.digest } }
  let s := oweTcfg (announceAddresses old (assignAll (sleepOnCommit s)))
  if rd s DEV_BOOTSTAT_STEP = 8 then wr s DEV_BOOTSTAT_STEP 9 else s

/-- The commit instant is reached with a pending commit; a deferred trigger starts a churn at once (R264). -/
def commitNow (s : State) : State :=
  match s.churn.accepted with
  | none => s
  | some c =>
    let deferred := s.churn.deferred
    let first := s.churn.firstTrigger
    let s := wr (commitCurd c s) CHURN_LAST ((nowNs s - first) / 1000)
    let s := setChurnPhase 0 (wrB (wrB s CHURN_STAT_DEFERRED false) CHURN_STAT_LEADER false)
    let s := { s with churn := { s.churn with instant := none, deferred := none, accepted := none, computed := none, surveys := [], agrees := [],
                                              ownList := none, partner := none, owed := [], held := none, tagEnd := false } }
    match deferred with
    | none => s
    | some cause => runChurn (startChurn 1 cause s)

/-- COMMIT_INSTANT: commits; the instant of a held COMMIT that was never accepted is a failure with cause 0x15 (R261, R265). -/
def commitInstant (s : State) : State :=
  if s.churn.relayOnly then s
  else if churnPhase s = 4 then commitNow s
  else if attempting s ∧ s.churn.held.isSome then runChurn (failChurn 0x15 s)
  else s

/-- COMMIT_INSTANT. -/
def execCommitInstant (s : State) : Host.Outcome State Fault Refusal := .next (whenRun s commitInstant)

/-- ATTEMPT_TIMEOUT: the timer of R265 runs until PENDING. -/
def execAttemptTimeout (s : State) : Host.Outcome State Fault Refusal :=
  .next (whenRun s (onlyIf (attempting s) (fun s => runChurn (failChurn 0x11 s))))

/-- SPLIT_RETRY_EXPIRY: the node leaves the split; the manual names no cause for its CALL, which is a free value (R266). -/
def splitRetry (s : State) : State :=
  if churnPhase s = 5 ∧ rd s CHURN_CTL_SPLIT_RETRY ≠ 0 then nextFree (runChurn (startChurn 1 (Config.freeNat s.free % 256) s)) else s

/-- SPLIT_RETRY_EXPIRY. -/
def execSplitRetryExpiry (s : State) : Host.Outcome State Fault Refusal := .next (whenRun s splitRetry)

/-- BANK_COPY_DONE: bank 1 becomes a copy of bank 0; the writes that waited follow in order; COPY_DONE (R210). -/
def bankCopyDone (s : State) : State :=
  if copying s = false then s
  else
    let w := s.fwd.after
    let s := wrB { s with fwd := { s.fwd with bank1 := s.fwd.bank0, after := [] } } FWD_STAT_COPYING false
    raise (forEach w (fun x s => match x with | .accept => writeTrain s | _ => applyBankWrite x s) s) 0x020 4

/-- BANK_COPY_DONE. -/
def execBankCopyDone (s : State) : Host.Outcome State Fault Refusal := .next (whenRun s bankCopyDone)

/-! ## Owed triggers -/

/-- CPL_CHANGE: the contact is reported; with CPL_TRIG it triggers unless the facing port's link change is the trigger (R239). -/
def cplChange (e : Nat) (closed linkFollows : Bool) (s : State) : State :=
  let v := s.sleep.inputs.toNat
  let s := { s with sleep := { s.sleep with inputs := BitVec.ofNat 8 (if closed then setBit v (1 + e) else clrBit v (1 + e)) } }
  if decide (bit v (1 + e) ≠ closed) && s.churn.cplTrig && !linkFollows then triggerChurn 3 s else s

/-- CPL_CHANGE of a coupler. -/
def execCplChange (e : Fin 2) (closed : Bool) (linkFollows : Bool) (s : State) : Host.Outcome State Fault Refusal :=
  .next (whenRun s (cplChange e.val closed linkFollows))

/-- TCFG_CHURN_DELAY: 20 ms after a configuration became pending (R291). -/
def execTcfgChurnDelay (s : State) : Host.Outcome State Fault Refusal :=
  .next (whenRun s (onlyIf s.tcfg.churnDue (fun s => triggerChurn 4 { s with tcfg := { s.tcfg with churnDue := false } })))

/-- KEY_CHANGE_CHURN_DELAY: 20 ms after a commit that put a new churn key in force (R292). -/
def execKeyChangeChurnDelay (s : State) : Host.Outcome State Fault Refusal :=
  .next (whenRun s (onlyIf s.tcfg.keyChurnDue (fun s => triggerChurn 4 { s with tcfg := { s.tcfg with keyChurnDue := false } })))

/-- TKR_CHURN_DELAY: 20 ms after the last KEYDIST that left a root pending, on the manager (R461). -/
def execTkrChurnDelay (s : State) : Host.Outcome State Fault Refusal :=
  .next (whenRun s (onlyIf (s.keys.tkrChurn && rdB s DEV_ROLE_SELF) (fun s => triggerChurn 4 { s with keys := { s.keys with tkrChurn := false } })))

/-! ## TTDP mode (R271, R272) -/

/-- TTDP_HELLO_RX: a neighbour is there; the formats and the state machine are those of IEC 61375-2-5, which the manual does not restate. -/
def ttdpHello (p : Nat) (s : State) : State :=
  if s.churn.ttdp ∧ s.churn.ttdpPeer.contains p = false then { s with churn := { s.churn with ttdpPeer := s.churn.ttdpPeer ++ [p] } } else s

/-- TTDP_HELLO_RX on a backbone port. -/
def execTtdpHelloRx (p : Fin 2) (_fast : Bool) (s : State) : Host.Outcome State Fault Refusal :=
  .next (whenRun s (onlyIf (linkUp s p.val) (ttdpHello p.val)))

/-- TTDP_TOPOLOGY_RX on a backbone port: what it brings acts through TTDP_COMMIT; a node that sends TOPOLOGY is a neighbour too. -/
def execTtdpTopologyRx (p : Fin 2) (s : State) : Host.Outcome State Fault Refusal :=
  .next (whenRun s (onlyIf (linkUp s p.val) (ttdpHello p.val)))

/-- TTDP_TIMER_EXPIRY: HELLO and TOPOLOGY frames leave on both ports; a neighbour not heard is lost. -/
def ttdpTimer (t : TtdpTimer) (s : State) : State :=
  let both (k : Nat) (s : State) : State := forEach [0, 1] (fun p s => if linkUp s p then emit s (.ttdp p k) else s) s
  if s.churn.ttdp = false then s
  else match t with
  | .helloFast => both 0 s
  | .helloSlow => both 1 s
  | .topology => both 2 s
  | .neighbourLost p => { s with churn := { s.churn with ttdpPeer := s.churn.ttdpPeer.filter (· ≠ p.val) } }

/-- TTDP_TIMER_EXPIRY of a timer. -/
def execTtdpTimerExpiry (t : TtdpTimer) (s : State) : Host.Outcome State Fault Refusal := .next (whenRun s (ttdpTimer t))

/-- The curd of an accepted inauguration: the next churn count, handles by R255. The manual gives it no reference cause, which is a free value. -/
def ttdpCurd (s : State) (t : TtdpInaug) : Curd :=
  let order := t.cars.map (fun c => c.uid)
  let prev := order.map (fun u => match carIn s.churn.curd u with | none => (u, 0, 0) | some k => (u, trainId s.churn.digest, k.handle.toNat))
  let next := match s.churn.curd with | none => 0 | some c => c.nextHandle.toNat
  let (handles, nh) := issueHandles (keptHandles prev) order next
  let cars := (t.cars.zipIdx).map (fun x =>
    let h := (handles.lookup x.1.uid).getD (0, false)
    { x.1 with number := BitVec.ofNat 8 (x.2 + 1), handle := BitVec.ofNat 16 h.1, isNew := h.2 })
  let lead := knownLead s
  { count := BitVec.ofNat 32 (rd s CHURN_COUNT + 1), direction := t.direction, refCause := BitVec.ofNat 8 (Config.freeNat s.free), orderUnsure := false,
    leadConflict := decide (1 < (cars.filter (fun c => c.lead)).length), ttdp := true,
    lead := if order.contains lead.uid then lead else LeadCmd.none, nextHandle := BitVec.ofNat 16 nh, cars := cars }

/-- TTDP_COMMIT: the node commits the topology that its TTDP state machine accepts; not while the inauguration is inhibited. -/
def ttdpCommit (t : TtdpInaug) (s : State) : State :=
  if s.churn.ttdp = false ∨ rdB s CHURN_CTL_INHIBIT ∨ t.cars.isEmpty then s
  else
    let c := ttdpCurd s t
    let s := onBank1 (trainBank (takeVid s) c) (nextFree (takeVid s))
    commitCurd c (wr s CHURN_COMMIT (nowNs s))

/-- TTDP_COMMIT. -/
def execTtdpCommit (t : TtdpInaug) (s : State) : Host.Outcome State Fault Refusal := .next (whenRun s (ttdpCommit t))

/-! ## The CHURN group (R156) -/

/-- A command that triggered: it completes at the commit (R148), or at once where its own trigger ended in a split (R266). -/
def triggerReply (s : State) : Reply :=
  let t := triggered 4 none s
  if churnsNatively s && decide (churnPhase t = 5) then Reply.ends stTIMEOUT [] t else Reply.accepted t

/-- CHURN_START: a trigger with cause 0x04. -/
def churnStartRun (_ : Cmd) (s : State) : Reply := triggerReply s

/-- The row of CHURN_START. -/
def churnStartSpec : CmdSpec := { CmdSpec.sync 0x0500 .shared [] (fun _ _ => true) churnStartRun with async := true }

/-- CHURN_START (R156, R238). -/
def execChurnStart (t : Take) (s : State) : Host.Outcome State Fault Refusal := .next (takeState churnStartSpec t s)

/-- CHURN_SET_LEAD: the issuing node's LEAD_CMD with the committed count + 1, then a trigger (R255). -/
def churnSetLeadRun (c : Cmd) (s : State) : Reply :=
  match s.churn.curd.bind (fun k => k.cars.find? (fun e => decide (e.handle.toNat = c.u 0x08 2))) with
  | none => Reply.fail stWRONG_STATE s
  | some e =>
    let lead : LeadCmd := ⟨e.uid, BitVec.ofNat 8 (c.u 0x0A 1), BitVec.ofNat 32 (rd s CHURN_COUNT + 1)⟩
    triggerReply { s with churn := { s.churn with leadCmd := lead } }

/-- The row of CHURN_SET_LEAD. -/
def churnSetLeadSpec : CmdSpec :=
  { CmdSpec.sync 0x0501 .shared [(0x08, 3)] (fun _ c => decide (c.u 0x0A 1 = 1 ∨ c.u 0x0A 1 = 2)) churnSetLeadRun with async := true }

/-- CHURN_SET_LEAD (R156, R255). -/
def execChurnSetLead (t : Take) (s : State) : Host.Outcome State Fault Refusal := .next (takeState churnSetLeadSpec t s)

/-- CHURN_MODE: writes MODE and INHIBIT and commits MODE (R273). -/
def churnModeRun (c : Cmd) (s : State) : Reply :=
  if c.u 0x08 1 = 0 ∧ c.u 0x09 1 = 1 then Reply.fail stWRONG_STATE s
  else Reply.ok (touch 0x028 (wr (wrBoth s CHURN_CTL_MODE (c.u 0x08 1)) CHURN_CTL_INHIBIT (c.u 0x09 1)))

/-- The row of CHURN_MODE. -/
def churnModeSpec : CmdSpec :=
  { CmdSpec.sync 0x0502 .shared [(0x08, 2)] (fun _ c => decide (c.u 0x08 1 ≤ 1 ∧ c.u 0x09 1 ≤ 1)) churnModeRun with pages := fun _ _ => [0x028] }

/-- CHURN_MODE (R156, R271). -/
def execChurnMode (t : Take) (s : State) : Host.Outcome State Fault Refusal := .next (takeState churnModeSpec t s)

/-- A car entry as CURD_READ gives it. -/
def curdReadEntry (c : CarEntry) : List Byte :=
  le 8 c.uid.toNat ++ le 2 c.handle.toNat ++ le 1 c.number.toNat ++ le 1 c.orientation.toNat ++ le 1 c.twin0.toNat ++ le 1 c.twin1.toNat ++
  le 1 ((if c.lineA then 1 else 0) + (if c.lineB then 2 else 0)) ++ le 1 0

/-- The curd that CURD_READ names: committed, or in agreement. -/
def curdNamed (s : State) (kind : Nat) : Option Curd := if kind = 0 then s.churn.curd else s.churn.accepted

/-- CURD_READ. -/
def curdReadRun (c : Cmd) (s : State) : Reply :=
  match curdNamed s (c.u 0x08 1) with
  | none => Reply.fail stWRONG_STATE s
  | some k =>
    let e (n : Nat) : List Byte := match k.cars[n - 1]? with | none => zeros 16 | some x => curdReadEntry x
    Reply.okWith (le 4 k.count.toNat ++ le 1 k.cars.length ++ le 1 k.direction.toNat ++ zeros 2 ++ padTo 16 (curdDigest k) ++
      e (c.u 0x09 1) ++ e (c.u 0x09 1 + 1)) s

/-- The row of CURD_READ: car numbers are 1 to 64. -/
def curdReadSpec : CmdSpec :=
  CmdSpec.sync 0x0503 .rd [(0x08, 2)] (fun _ c => decide (c.u 0x08 1 ≤ 1 ∧ 1 ≤ c.u 0x09 1 ∧ c.u 0x09 1 ≤ 64)) curdReadRun

/-- CURD_READ (R156). -/
def execCurdRead (t : Take) (s : State) : Host.Outcome State Fault Refusal := .next (takeState curdReadSpec t s)

end Sys2Proof.Machine
end

