-- ==== Sys2Proof/Machine/RemoteOut.lean ====
section
/-! DEFINITION. The origin side of the remote window (R116 to R126): words taken through an aperture, frames, fault records. -/

namespace Sys2Proof.Machine

/-- An aperture carries accesses: VALID and RESOLVED (R116). -/
def apertureOpen (s : State) (a : Nat) : Bool := rdB s (BRG_RWIN_TGT_VALID a) && rdB s (BRG_RWIN_TGT_RESOLVED a)

/-- The car that an aperture targets. -/
def apTarget (s : State) (a : Nat) : Option AmapEntry := amapByHandle s (rd s (BRG_RWIN_TGT_HANDLE a))

/-- What a fault record says (R124): kind 1 write, 2 read, 3 command. -/
structure RemFault where
  kind : Nat
  status : Nat
  ap : Nat
  twin : Bool
  seq : Nat
  uid : BitVec 64
  page : Nat
  word : Nat
  data : Nat
  at_ : Nat
  churn : Nat
  gen : Nat

/-- The 64 bytes of a fault record with PHASE p. -/
def remFaultBytes (f : RemFault) (phase now : Nat) : List Byte :=
  let body := le 1 (phase * 128 + f.kind) ++ le 1 f.status ++ le 1 f.ap ++ le 1 (if f.twin then 1 else 0) ++ le 4 f.seq ++ le 8 f.uid.toNat ++
    le 2 f.page ++ le 2 f.word ++ le 4 f.data ++ le 8 f.at_ ++ le 8 now ++ le 4 f.churn ++ le 4 f.gen ++ zeros 12
  body ++ le 4 (crc32c body)

/-- Writes a fault record to the recorder and to the fault queue, or counts it where the queue is full; raises RWF (R124, R125). -/
def remFault (f : RemFault) (s : State) : State :=
  let b := remFaultBytes f (1 - rd s NODE_FQ_PASS) (nowNs s)
  let s := record s 24 0 ((List.range 8).map (fun i => BitVec.ofNat 32 (leAt b (4 * i) 4)))
  let s := { s with remote := { s.remote with faults := s.remote.faults + 1 } }
  let s := raise s 0x002 0
  if 1024 ≤ rd s NODE_FQ_USED then raise (incSat s BRG_FQOVF) 0x002 2
  else
    let t := rd s BRG_FQTAIL
    let s := bar2Write s (0x50000 + 64 * t) b
    let s := if t = 1023 then wr s NODE_FQ_PASS (1 - rd s NODE_FQ_PASS) else s
    inc (wr (wr s BRG_FQTAIL (t + 1)) BRG_FQTAIL_PHASE (1 - rd s NODE_FQ_PASS)) NODE_FQ_USED

/-- Numbers the next n accesses (R119). -/
def takeNumbers (n : Nat) (s : State) : State :=
  incBy { s with remote := { s.remote with next := s.remote.next + n } } BRG_RSEQ n

/-- A write word that ended with a status other than OK: its record, and what REMOTE_SYNC counts. -/
def wordFails (w : RemWord) (uid : BitVec 64) (twin : Bool) (status churn gen : Nat) (s : State) : State :=
  let s := { s with remote := { s.remote with failed := s.remote.failed ++ [(w.seq, status)] } }
  remFault ⟨1, status, w.ap, twin, w.seq % 2 ^ 32, uid, w.page, w.word, w.data.toNat, w.at_, churn, gen⟩ s

/-- A host word through an aperture: numbered and waiting, or a fault with WRONG_STATE where the aperture carries nothing (R116, R119). -/
def apWord (a page word v : Nat) (s : State) : State :=
  let w : RemWord := ⟨s.remote.next, a, page, word, BitVec.ofNat 32 v, nowNs s⟩
  let s := takeNumbers 1 s
  let s := { s with remote := { s.remote with lastWrite := s.remote.next } }
  if apertureOpen s a then { s with remote := { s.remote with waiting := s.remote.waiting ++ [w] } }
  else
    wordFails w (match apTarget s a with | none => 0 | some e => e.uid) (rdB s (BRG_RWIN_TGT_TWIN a)) stWRONG_STATE 0 (carriedGen s) s

/-- The words that one frame takes: consecutive ascending words of one page, each within 1 µs of the one before, at most 64 (R119). -/
def coalesce (n : Nat) (w : RemWord) (l : List RemWord) : List RemWord :=
  match n, l with
  | 0, _ => []
  | _, [] => []
  | n + 1, x :: t => if x.page = w.page ∧ x.word = w.word + 1 ∧ x.at_ ≤ w.at_ + 1000 ∧ x.seq = w.seq + 1 then x :: coalesce n x t else []

/-- The words of an aperture that have not left. -/
def apWaiting (s : State) (a : Nat) : List RemWord := s.remote.waiting.filter (fun w => decide (w.ap = a))

/-- The bytes of a frame in flight; RETRY is set from the second send on. -/
def flightBytes (s : State) (e : AmapEntry) (f : RemFlight) : List Byte :=
  let retry := if f.sends = 0 then 0 else 1
  let w := f.words.headD ⟨0, 0, 0, 0, 0, 0⟩
  if f.kind = 1 then remoteBytes s e f.twin 1 retry (f.seq % 2 ^ 32) f.words.length w.page w.word (f.words.flatMap (fun x => be 4 x.data.toNat))
  else if f.kind = 3 then remoteBytes s e f.twin 3 retry (f.seq % 2 ^ 32) f.words.length w.page w.word []
  else remoteBytes s e f.twin 5 retry (f.seq % 2 ^ 32) 16 0 0 f.block

/-- Sends a frame in flight once more, or for the first time; LATE holds remote commands back (R426). A target that the address map no longer
names is sent nothing, and the sends count. -/
def sendFlight (f : RemFlight) (s : State) : State :=
  let s := match amapByUid s f.uid with
    | none => s
    | some e => sendRemote e f.twin (flightBytes s e f) s
  { s with remote := { s.remote with flight := s.remote.flight.filter (fun g => decide (g.seq ≠ f.seq)) ++ [{ f with sends := f.sends + 1 }] } }

/-- The flight of an aperture's next access. -/
def newFlight (s : State) (a kind seq : Nat) (words : List RemWord) (block : List Byte) (at_ : Nat) : RemFlight :=
  ⟨kind, a, seq, (match apTarget s a with | none => 0 | some e => e.uid), rdB s (BRG_RWIN_TGT_TWIN a), carriedGen s, words, block, 0, at_⟩

/-- One frame of the words that wait on an aperture leaves. -/
def sendWords (a : Nat) (s : State) : State :=
  match apWaiting s a with
  | [] => s
  | w :: t =>
    let l := w :: coalesce 63 w t
    let s := { s with remote := { s.remote with waiting := s.remote.waiting.filter (fun x => !l.any (fun y => decide (y.seq = x.seq))) } }
    sendFlight (newFlight s a 1 w.seq l [] w.at_) s

/-- Every word that waits on an aperture leaves (R116, R121). -/
def flushAp (a : Nat) (s : State) : State := forEach (apWaiting s a) (fun _ t => sendWords a t) s

/-- Write words of an aperture without an answer (R123). -/
def apWords (s : State) (a : Nat) : Nat :=
  (apWaiting s a).length +
  (s.remote.flight.filter (fun f => decide (f.ap = a ∧ f.kind = 1))).foldl (fun n f => n + f.words.length) 0

/-- Reads of an aperture without an answer. -/
def apReads (s : State) (a : Nat) : Nat := (s.remote.flight.filter (fun f => decide (f.ap = a ∧ f.kind = 3))).length

end Sys2Proof.Machine
end

