-- ==== Sys2Proof/Machine/RegWrite.lean ====
section
/-! DEFINITION. Register writes: what a permitted write does (R7, R102 to R106, R108 to R111 and the registers with an effect of their own), what a
lock keeps, block reset (R104), semaphores (R128), and the way from an initiator to the page (R96, R98, R101). -/

namespace Sys2Proof.Machine

/-! ## Block reset (R104) -/

/-- The registers of a page that a block reset leaves: LOCK, and those that only show a machine or a table which no block reset reaches
(log entry 38). -/
def keptView (page off : Nat) : Bool :=
  decide (off = 0x020) ||
  (if page = 0x01E then decide (off = 0x044)
   else if page = 0x020 then decide (off = 0x050 ∨ off = 0x060 ∨ off = 0x064)
   else if page = 0x022 ∨ page = 0x024 then decide (off = 0x044)
   else if page = 0x023 then decide (0x100 ≤ off ∧ off % 0x20 < 0x0C)
   else if page = 0x028 then decide (0x048 ≤ off ∧ off < 0x080 ∧ off ≠ 0x070)
   else if page = 0x030 then decide (off = 0x044 ∨ (0x060 ≤ off ∧ off < 0x078) ∨ off = 0x098 ∨ (0x0E0 ≤ off ∧ off < 0x11C))
   else if page = 0x031 then decide (off = 0x048 ∨ 0x100 ≤ off)
   else if page = 0x048 then decide (off = 0x044 ∨ (0x050 ≤ off ∧ off < 0x060) ∨ (0x080 ≤ off ∧ 0x14 ≤ (off - 0x080) % 0x20))
   else if page = 0x050 then decide (0x044 ≤ off ∧ off ≤ 0x058)
   else if page = 0x051 then decide (0x100 ≤ off ∧ off % 0x20 = 0x0C)
   else if page = 0x058 then decide (off = 0x040 ∨ off = 0x044 ∨ (0x050 ≤ off ∧ off < 0x070))
   else if page = 0x060 ∨ page = 0x070 then decide (0x040 ≤ off ∧ off < 0x080)
   else if page = 0x061 then decide (0x040 ≤ off ∧ off < 0x04C)
   else if page = 0x068 then decide (0x044 ≤ off ∧ off < 0x054)
   else false)

/-- A load channel at a block reset of its page: its latch and its held request go, and it ends OFF, through STOPPING where it runs. -/
def lchReset (n : Nat) (s : State) : State :=
  if lchLead s n ≠ n then s
  else
    let st := rd s (LCH_STAT_STATE n)
    let s := setHeld n none (setEn n false s)
    let s := wr (wr (wrB s (LCH_STAT_LATCH n) false) (LCH_STAT_COUNT n) 0) (LCH_STAT_FAULT n) 0
    if st = 1 ∨ st = 2 then enterStopping n s else if st = 3 then s else toState n 0 s

/-- Block reset of a page. -/
def blockReset (page : Nat) (s : State) : State :=
  let s := if 0x010 ≤ page ∧ page ≤ 0x01D ∧ linkUp s (page - 0x010) = true then portDown (page - 0x010) s else s
  let s := if page = 0x051 then forEach (List.range 16) lchReset s else s
  let s := discardPage page { s with regs := s.regs.filter (fun c => decide (keyPage c.1 ≠ page) || keptView page (keyOff c.1)) }
  let p := pageSt s page
  let s := setPageSt s page { p with en := (match p.en with | .off => .off | _ => .stopping), held := none, unlockBy := none }
  let s := if 0x040 ≤ page ∧ page ≤ 0x043 then syncGate (page - 0x040) s
    else if page = 0x048 then forEach [0, 1, 2, 3] syncXcvr s
    else if page = 0x020 then forEach (List.range 32) (fun q t => wr (wr (wr t (NODE_HQ_PASS q) 0) (NODE_HQ_POS q) 0) (NODE_HQ_USED q) 0) s
    else if page = 0x030 then timeSettings s
    else s
  touch page (deliver false s)

/-! ## Drill schedule (R439) -/

/-- DRILL_HOURS in force: above 8,760 acts as 8,760. -/
def drillHours (s : State) : Nat := min (rd s TWIN_CTL_DRILL_HOURS) 8760

/-- TWIN_DRILL: the next periodic drill, counted from the last drill, rejoin or join of a joined pair; 0 when none is scheduled. -/
def syncDrill (s : State) : State :=
  wr s TWIN_DRILL (if joined s ∧ drillHours s ≠ 0 then s.twin.lastDrill + drillHours s * 3600000000000 else 0)

/-! ## Header writes -/

/-- A write of PAGE_CTL (R103, R104). BLK_RST is reserved on DEV, EVC, BRG and CMD. -/
def ctlWrite (page v : Nat) (info : PageInfo) (s : State) : State :=
  if bit v 1 ∧ 4 ≤ page then blockReset page s
  else if info.hasEn then enRequest page (bit v 0) s
  else s

/-- A commit or a discard of the shadows of a page; DISCARD wins (R102). Committed settings of the time unit act at once (R308). -/
def shadowWrite (page v : Nat) (info : PageInfo) (s : State) : State :=
  if info.hasShadow = false then s
  else if bit v 1 then discardPage page s
  else if bit v 0 then
    let t := commitPage page s
    if page = 0x030 then timeSettings t else t
  else s

/-- A write of a header register other than LOCK. A write of EV_EN, EV_PEND or EV_ROUTE sends the messages again (R111). -/
def headerWrite (page off v : Nat) (info : PageInfo) (s : State) : State :=
  if off = 0x008 then ctlWrite page v info s
  else if off = 0x014 then deliver true (wr s (H_EVEN page) v)
  else if off = 0x018 then deliver true (wr s (H_PEND page) (rd s (H_PEND page) &&& (2 ^ 16 - 1 - v % 2 ^ 16)))
  else if off = 0x01C then deliver true (wr s (H_ROUTE page) v)
  else if off = 0x028 then shadowWrite page v info s
  else s

/-! ## Registers with an effect of their own -/

/-- EVC registers (R110, R111). -/
def evcWrite (off v : Nat) (s : State) : State :=
  if off = 0x0C0 then
    deliver false (wr { s with events := s.events ||| (BitVec.ofNat 512 (v % 2 ^ 32) <<< 480) } EVC_SWPEND (rd s EVC_SWPEND ||| v % 2 ^ 32))
  else if (0x0C4 ≤ off ∧ off ≤ 0x0D0) ∨ 0x100 ≤ off then deliver true (writeParts 0x001 off v s)
  else writeParts 0x001 off v s

/-- Semaphores of a window (R128): 0 BAR0, 1 BAR2, 2 apertures. -/
def semsOf (w : Nat) : List Nat := (List.range 8).map (8 * w + ·)

/-- A held semaphore of a window guards a location. -/
def semGuards (s : State) (w loc : Nat) : Bool := (semsOf w).any (fun k => rdB s (BRG_SEM_HELD k) && decide (rd s (BRG_SEM_LOC k) = loc))

/-- An acquire: ignored where the semaphore is held, or another one of its window guards the location. -/
def semAcquire (k loc : Nat) (bridge : Bool) (s : State) : State :=
  if rdB s (BRG_SEM_HELD k) || semGuards s (k / 8) loc then s
  else wr (wrB (wrB s (BRG_SEM_HELD k) true) (BRG_SEM_BRIDGE k) bridge) (BRG_SEM_LOC k) loc

/-- The indices of a ring that a consumer passes: how far v lies ahead of the head, modulo its size. -/
def ringDist (size head v : Nat) : Nat := (v % size + size - head) % size

/-- Unconsumed entries after a head moved to v. -/
def usedAfter (size head tail used v : Nat) : Nat :=
  let d := ringDist size head v
  if d ≤ used then used - d else ringDist size v tail

/-- BRG registers (R116, R125, R131). A target takes effect once every earlier write through its aperture has been sent. The MSI-X table and PBA are reachable only from H. -/
def brgWrite (i : Initiator) (off v : Nat) (s : State) : State :=
  if off = 0x048 then
    wr (wr s NODE_FQ_USED (usedAfter 1024 (rd s BRG_FQHEAD) (rd s BRG_FQTAIL) (rd s NODE_FQ_USED) v)) BRG_FQHEAD v
  else if 0x060 ≤ off ∧ off < 0x070 then resolveApertures (writeParts 0x002 off v (flushAp ((off - 0x060) / 4) s))
  else if 0x0B0 ≤ off ∧ off < 0x0C0 then
    let a := (off - 0x0B0) / 4
    wr (wr s (NODE_RR_USED a) (usedAfter 64 (rd s (BRG_RRHEAD a)) (rd s (BRG_RRTAIL a)) (rd s (NODE_RR_USED a)) v)) (BRG_RRHEAD a) v
  else if 0x100 ≤ off ∧ off < 0x160 then
    let k := (off - 0x100) / 4
    if bits v 31 30 = 1 then semAcquire k (v % 2 ^ 26) false s
    else if bits v 31 30 = 2 then wrB (wrB s (BRG_SEM_HELD k) false) (BRG_SEM_BRIDGE k) false
    else s
  else if 0x800 ≤ off then
    if i ≠ .host then s
    else if off < 0x900 ∧ off % 16 = 12 then
      let n := (off - 0x800) / 16
      let t := writeParts 0x002 off v s
      if rdB s (BRG_MSIX_CTL_MASK n) && !rdB t (BRG_MSIX_CTL_MASK n) && bit (rd t BRG_MSIX_PBA) n then
        sendVector n (wrBit t BRG_MSIX_PBA n false)
      else t
    else writeParts 0x002 off v s
  else writeParts 0x002 off v s

/-- DB_ERR of a ring (R132). -/
def dbErr (n : Nat) (s : State) : State := raise (wrBit s CMD_STAT_DB_ERR n true) 0x003 9

/-- A doorbell of command ring n: one that moves the tail backwards over untaken entries is ignored (R132). -/
def sqTailWrite (n v : Nat) (s : State) : State :=
  let head := rd s (CMD_SQHEAD n)
  if ringDist 256 head (rd s (CMD_SQTAIL n)) ≤ ringDist 256 head v then
    let t := wr s (CMD_SQTAIL n) v
    if rd t (CMD_SQTAIL n) = rd s (CMD_SQTAIL n) then t
    else { t with remote := { t.remote with marks := t.remote.marks ++ [(n, rd t (CMD_SQTAIL n), s.remote.lastWrite)] } }
  else dbErr n s

/-- A head of response ring n: backwards or past the tail is ignored (R132). -/
def rqHeadWrite (n v : Nat) (s : State) : State :=
  let d := ringDist 256 (rd s (CMD_RQHEAD n)) v
  if d ≤ rd s (NODE_RQ_USED n) then syncCmdStat (wr (wr s (CMD_RQHEAD n) v) (NODE_RQ_USED n) (rd s (NODE_RQ_USED n) - d)) else dbErr n s

/-- The head of the completion ring (R132). -/
def crHeadWrite (v : Nat) (s : State) : State :=
  let d := ringDist 1024 (rd s CMD_CRHEAD) v
  if d ≤ rd s NODE_CR_USED then wr (wr s CMD_CRHEAD v) NODE_CR_USED (rd s NODE_CR_USED - d)
  else raise (wrB s CMD_STAT_CR_ERR true) 0x003 9

/-- CMD registers (R132). -/
def cmdWrite (off v : Nat) (s : State) : State :=
  if 0x040 ≤ off ∧ off < 0x060 then sqTailWrite ((off - 0x040) / 4) v s
  else if 0x0A0 ≤ off ∧ off < 0x0C0 then rqHeadWrite ((off - 0x0A0) / 4) v s
  else if off = 0x0C4 then crHeadWrite v s
  else writeParts 0x003 off v s

/-- PORT registers: an unavailable MODE raises MODE_FAULT (R172); a write of PREEMPT.EN from 0 to 1 starts verification, one that clears it ends it
(R190). -/
def portWrite (p off v : Nat) (s : State) : State :=
  let t := writeParts (portPage p) off v s
  if off = 0x040 ∧ p ≠ 14 ∧ modeOk p (rd t (PORT_MODE_MODE p)) = false then raise t (portPage p) 4
  else if off = 0x054 ∧ p ≠ 14 ∧ rdB s (PORT_PREEMPT_EN p) ≠ rdB t (PORT_PREEMPT_EN p) then verifyStart p t
  else t

/-- GATE registers: the credits of a port are settled before its shapers change (R224). -/
def gateWrite (off v : Nat) (s : State) : State :=
  if 0x100 ≤ off ∧ off < 0x2C0 then
    let p := (off - 0x100) / 0x20
    drainPort p (writeParts 0x023 off v (settleCredits p s))
  else writeParts 0x023 off v s

/-- FWD registers (R234, R236). -/
def fwdWrite (off v : Nat) (s : State) : State :=
  if 0x180 ≤ off ∧ off < 0x200 then hqHeadWrite ((off - 0x180) / 4) (v % 512) s
  else if 0x2C0 ≤ off ∧ off < 0x2E0 then htTailWrite ((off - 0x2C0) / 4) v s
  else writeParts 0x020 off v s

/-- MBUS registers of channel m (R357, R360, R364, R365, R369); TXDB takes its data before (R358). -/
def mbusWrite (m off v : Nat) (s : State) : State :=
  let page := mbusPage m
  let t := writeParts page off v s
  if off = 0x040 then mbusCtlTakes m t
  else if (MBUS_RECOVER m).key = (page * 0x1000 + off) * 32 then recoverWrite m v s
  else match [0, 1, 2, 3].find? (fun q => decide ((MBUS_QHEAD m q).key = (page * 0x1000 + off) * 32)) with
    | some q => qheadWrite m q v s
    | none => t

/-- SLEEP registers: a withdrawn consent is a wake request (R380, R384), as with SLEEP_CONSENT; a withdrawn HOST_OK aborts the bus ring (R391);
TL_PULSE drives WAKE_TL (R387). -/
def sleepWrite (off v : Nat) (s : State) : State :=
  let t := writeParts 0x048 off v s
  if off = 0x040 then (if rdB s SLEEP_CTL_CONSENT && !rdB t SLEEP_CTL_CONSENT then wakeRequest 3 8 t else t)
  else if off = 0x060 then (if bit v 31 then tlPulseWrite t else t)
  else if 0x080 ≤ off ∧ off < 0x100 ∧ (off - 0x080) % 0x20 = 0 then
    let m := (off - 0x080) / 0x20
    if rdB s (SLEEP_BUSCTL_HOST_OK m) && !rdB t (SLEEP_BUSCTL_HOST_OK m) then busAbort m 0 t else t
  else t

/-- LCH registers (R396, R399, R418): the configuration of a channel that is not OFF keeps its value. -/
def lchWrite (i : Initiator) (off v : Nat) (s : State) : State :=
  if off < 0x100 ∨ 0x300 ≤ off then s
  else
    let n := (off - 0x100) / 0x20
    let r := (off - 0x100) % 0x20
    if r = 0 then lchCtlWrite n v s
    else if r = 4 then
      if lchOff s n then mirrorPair (lchLead s n) (writeParts 0x051 off v s) else regFault s 1 i 0x051 off
    else writeParts 0x051 off v s

/-- A write of a word at or above offset 0x040, past the lock. twin is the node whose host made it. -/
def wordWrite (i : Initiator) (twin : Bool) (page off v : Nat) (s : State) : State :=
  if page = 0x001 then evcWrite off v s
  else if page = 0x002 then brgWrite i off v s
  else if page = 0x003 then cmdWrite off v s
  else if 0x010 ≤ page ∧ page ≤ 0x01E then portWrite (page - 0x010) off v s
  else if page = 0x020 then fwdWrite off v s
  else if page = 0x023 then gateWrite off v s
  else if page = 0x024 ∧ off = 0x040 then frerSelect v s
  else if page = 0x030 ∧ off = 0x120 then gmSecWrite v s
  else if page = 0x039 ∧ 0x800 ≤ off then claimSlot (512 * rd s TLGW_WBASE + (off - 0x800) / 4) (bit v 31) twin s
  else if 0x040 ≤ page ∧ page ≤ 0x043 then mbusWrite (page - 0x040) off v s
  else if page = 0x048 then sleepWrite off v s
  else if page = 0x051 then lchWrite i off v s
  else if page = 0x058 then syncDrill (writeParts page off v s)
  else writeParts page off v s

/-- The W1C part of a write under a lock (R105). -/
def w1cParts (page off v : Nat) (s : State) : State :=
  forEach ((partsAt page off).filter (fun q => match q.ty with | .w1c => true | _ => false)) (writePart v) s

/-- A permitted write is applied: the lock of R105, then the header or the word; PAGE_CHK follows and CHK_ERR clears (R106, R107). -/
def applyWrite (i : Initiator) (twin : Bool) (page off v : Nat) (s : State) : State :=
  match pageInfo page with
  | none => regFault s 1 i page off
  | some info =>
    if off = 0x020 then lockWrite i page v s
    else
      let s := cancelUnlock page s
      match lockVerdict s page off v with
      | .discard => regFault s 2 i page off
      | .w1cOnly raises => touch page (w1cParts page off v (if raises then regFault s 2 i page off else s))
      | .free => touch page (if off < 0x040 then headerWrite page off v info s else wordWrite i twin page off v s)

/-! ## Doorbells that take data (R333, R358) -/

/-- The register is TLG_PUBDB. -/
def isPubdb (page off : Nat) : Bool := decide (page = 0x038 ∧ TLG_PUBDB.key = (page * 0x1000 + off) * 32)

/-- The register is MBUS_TXDB of its channel. -/
def isTxdb (page off : Nat) : Bool := decide (0x040 ≤ page ∧ page ≤ 0x043 ∧ (MBUS_TXDB_OBJECT (page - 0x040)).key = (page * 0x1000 + off) * 32)

/-- A dataset that a doorbell took is applied, unless the page is locked. -/
def applyPubData (i : Initiator) (n : Nat) (d : List Byte) (s : State) : State :=
  let s := cancelUnlock 0x038 s
  if pageLocked s 0x038 then regFault s 2 i 0x038 (keyOff TLG_PUBDB.key) else touch 0x038 (takePubData n d s)

/-- Object data that a doorbell took is applied, unless the page is locked. own tells the node whose host rang. -/
def applyObjData (i : Initiator) (m v : Nat) (d : List Byte) (own : Bool) (s : State) : State :=
  let s := cancelUnlock (mbusPage m) s
  if pageLocked s (mbusPage m) then regFault s 2 i (mbusPage m) (keyOff (MBUS_TXDB_OBJECT m).key)
  else touch (mbusPage m) (txDoorbell m v d own s)

/-! ## From an initiator to the page -/

/-- The registers that R98 takes out of the journal. -/
def journaled (page off : Nat) : Bool :=
  !(decide (page = 0x001 ∨ page = 0x002 ∨ page = 0x003) || decide (off = 0x014 ∨ off = 0x018 ∨ off = 0x01C) ||
    (decide (page = 0x020) && decide ((0x180 ≤ off ∧ off < 0x200) ∨ (0x2C0 ≤ off ∧ off < 0x2E0))))

/-- Class of a register write in the journal (R421). -/
def writeClass : Initiator → Fin 6
  | .host => 4 | .manager => 2 | .partner => 3 | .firmware => 1 | .debug => 5

/-- An entry in the contribution of the running tick. -/
def addOwn (e : JEntry) (s : State) : State := { s with twin := { s.twin with own := s.twin.own ++ [e] } }

/-- What the journal carries of a write (R98, R333, R358, R452): its protection verdict, and the data of a doorbell. A doorbell whose data fails its
check takes nothing. -/
def journalWrite (good : Bool) (i : Initiator) (page off v : Nat) (permitted : Bool) (s : State) : State :=
  if permitted && isPubdb page off then
    if good then addOwn ⟨writeClass i, .pubData ⟨v % 2048, by omega⟩ (bar2Read s (pubArea (v % 2048))
      (match pubAt s (v % 2048) with | none => 0 | some p => pubHostLen p)), true⟩ s
    else pubCheckFails (v % 2048) s
  else if permitted && isTxdb page off then
    if good then addOwn ⟨writeClass i, .objData ⟨(page - 0x040) % 4, by omega⟩ (BitVec.ofNat 32 v) (txdbData s (page - 0x040) v), true⟩ s
    else txdbCheckFails (page - 0x040) v s
  else addOwn ⟨writeClass i, .write i ⟨page % 4096, by omega⟩ ⟨off % 4096, by omega⟩ (BitVec.ofNat 32 v) permitted, true⟩ s

/-- A write that enters the journal of a joined pair, or is applied by a node alone. -/
def submitWrite (good : Bool) (i : Initiator) (page off v : Nat) (permitted : Bool) (s : State) : State :=
  if joined s && journaled page off then journalWrite good i page off v permitted s
  else if permitted = false then regFault s 3 i page off
  else if isPubdb page off then
    if good then
      applyPubData i (v % 2048) (bar2Read s (pubArea (v % 2048)) (match pubAt s (v % 2048) with | none => 0 | some p => pubHostLen p)) s
    else pubCheckFails (v % 2048) s
  else if isTxdb page off then
    if good then applyObjData i (page - 0x040) v (txdbData s (page - 0x040) v) true s else txdbCheckFails (page - 0x040) v s
  else applyWrite i s.fuses.twinId page off v s

/-- Writes of this initiator wait for a semaphore of the location (R128). -/
def waits (i : Initiator) : Bool := match i with | .host => true | .manager => true | _ => false

/-- One word of a write that has the shape of R96: the page exists, the map permits, a semaphore holds it back, or it goes on. Nothing is written on
a node that serves no access, or on a page that a halted node does not serve (R85). -/
def writeWordOf (good : Bool) (i : Initiator) (page off v : Nat) (s : State) : State :=
  match pageInfo page with
  | none => if s.phase = .running then regFault s 1 i page off else s
  | some info =>
    if served s page = false then s
    else if waits i && semGuards s 0 (page * 1024 + off / 4) then
      { s with semWait := s.semWait ++ [⟨i, page, off, BitVec.ofNat 32 v⟩] }
    else submitWrite good i page off v (writePermitted s i page off info.cls) s

/-- The location of a semaphore for a word of an aperture (R128). -/
def apLoc (a page word : Nat) : Nat := a * 2 ^ 24 + page * 2 ^ 10 + word

/-- A held-back write goes on, unless another semaphore still guards its location. -/
def runWait (w : WaitWrite) (s : State) : State :=
  let keep : State := { s with semWait := s.semWait ++ [w] }
  if w.page < 0x1000 then
    if semGuards s 0 (w.page * 1024 + w.off / 4) then keep
    else match pageInfo w.page with
      | none => s
      | some info => submitWrite true w.init w.page w.off w.value.toNat (writePermitted s w.init w.page w.off info.cls) s
  else if w.page = 0x1000 then
    if semGuards s 1 (w.off / 4) then keep else bar2Write s w.off [BitVec.ofNat 8 w.value.toNat]
  else
    let a := (w.page - 0x2000) / 0x1000
    let page := w.page % 0x1000
    if semGuards s 2 (apLoc a page (w.off / 4)) then keep else apWord a page (w.off / 4) w.value.toNat s

/-- Every held-back write whose location is free goes on, in order (R128). -/
def runWaits (s : State) : State := forEach s.semWait runWait { s with semWait := [] }

/-- A register write as it reaches the node: 32 or 64 bits, aligned, every byte enabled (R96); a 64-bit write is one of the low word and one of the
high word. -/
def hostWrite (good : Bool) (w : WriteReq) (s : State) : State :=
  if s.phase ≠ .running ∧ s.phase ≠ .halted then s
  else if w.full = false ∨ (w.size ≠ 4 ∧ w.size ≠ 8) ∨ w.off.val % w.size ≠ 0 then regFault s 1 w.init w.page.val w.off.val
  else
    let s := writeWordOf good w.init w.page.val w.off.val (w.value % 2 ^ 32) s
    runWaits (if w.size = 8 then writeWordOf good w.init w.page.val (w.off.val + 4) (w.value / 2 ^ 32 % 2 ^ 32) s else s)

/-- A 32-bit write. -/
def write32 (good : Bool) (i : Initiator) (page off v : Nat) (s : State) : State :=
  if s.phase ≠ .running ∧ s.phase ≠ .halted then s else runWaits (writeWordOf good i page off v s)

end Sys2Proof.Machine
end

