-- ==== Sys2Proof/Machine/Pages.lean ====
section
/-! DEFINITION. The register rows of 04_register_pages.md and of the pages whose writes have rows of their own, the enable machine (R103), the page
scrub (R107). -/

namespace Sys2Proof.Machine

/-- REGISTER_WRITE (R96, R98). -/
def execRegisterWrite (w : WriteReq) (s : State) : Host.Outcome State Fault Refusal := .next (hostWrite true w s)

/-- A write of an initiator to a page waits in the journal: a read of the page by it returns only after that write is applied (R98). -/
def readHeld (s : State) (i : Initiator) (page : Nat) : Bool :=
  s.twin.own.any (fun e => match e.item with
    | .write j p _ _ _ => decide (i = j ∧ p.val = page)
    | .pubData _ _ => decide (page = 0x038)
    | .objData m _ _ => decide (page = 0x040 + m.val)
    | _ => false)

/-- A register read as it reaches the node: 32 or 64 bits, aligned to its width; a 64-bit read takes the low word and then the high word (R96, R97). Any
other read reads no register and raises ACCESS_FAULT. -/
def hostRead (r : ReadReq) (s : State) : State :=
  if s.phase ≠ .running ∧ s.phase ≠ .halted then s
  else if (r.size ≠ 1 ∧ r.size ≠ 2 ∧ r.size ≠ 4 ∧ r.size ≠ 8) ∨ r.off.val % r.size ≠ 0 then emit (regFault s 1 r.init r.page.val r.off.val) (.pcie 1 0)
  else if readHeld s r.init r.page.val then s
  else
    let off := r.off.val / 4 * 4
    let x := readChecked s r.init r.page.val off
    if r.size = 8 then
      let y := readChecked x.2 r.init r.page.val (off + 4)
      emit y.2 (.pcie 0 (x.1 + 2 ^ 32 * y.1))
    else emit x.2 (.pcie 0 x.1)

/-- REGISTER_READ_LATCH (R97). -/
def execRegisterReadLatch (r : ReadReq) (s : State) : Host.Outcome State Fault Refusal := .next (hostRead r s)

/-- Page and offset of counter k of port p (R198). -/
def counterAt (p k : Nat) : Nat × Nat := if p < 8 then (0x078, 0x100 + 8 * (32 * p + k)) else (0x079, 0x100 + 8 * (32 * (p - 8) + k))

/-- COUNTER_READ_CLEAR: a read of the low word of an RC counter returns it, latches its high word and clears it (R97, R198). -/
def counterRead (i : Initiator) (p k : Nat) (s : State) : State :=
  let a := counterAt p k
  let x := readChecked s i a.1 a.2
  emit x.2 (.pcie 0 x.1)

/-- COUNTER_READ_CLEAR of a counter of a port. -/
def execCounterReadClear (i : Initiator) (p : Port) (k : Fin 32) (s : State) : Host.Outcome State Fault Refusal :=
  .next (whenRun s (counterRead i p.val k.val))

/-- PAGE_EN_WRITE: a write of PAGE_CTL.EN (R103). -/
def execPageEnWrite (i : Initiator) (page : Fin 4096) (en : Bool) (s : State) : Host.Outcome State Fault Refusal :=
  .next (write32 true i page.val 0x008 (if en then 1 else 0) s)

/-- A start completes (R103, R174, R177, R354): a port takes its mode and writes its PHY, a port whose MODE it has not keeps from starting (R172); a CAN
channel takes MBUS_CTL. -/
def startDone (page : Nat) (s : State) : State :=
  if (pageSt s page).en ≠ .starting then s
  else if 0x010 ≤ page ∧ page ≤ 0x01D then
    let p := page - 0x010
    if modeOk p (rd s (PORT_MODE_MODE p)) then enStartDone page (phyStartWrites p (portStart p s)) else s
  else if 0x040 ≤ page ∧ page ≤ 0x043 then enStartDone page (mbusStart (page - 0x040) s)
  else enStartDone page s

/-- BLOCK_START_COMPLETE of a page. -/
def execBlockStartComplete (page : Fin 4096) (s : State) : Host.Outcome State Fault Refusal := .next (whenRun s (startDone page.val))

/-- A stop completes (R103, R177, R354): a port's lane is down, so its link is; a CAN channel discards its pending transmissions. -/
def stopDone (page : Nat) (s : State) : State :=
  if (pageSt s page).en ≠ .stopping then s
  else
    let s := if 0x010 ≤ page ∧ page ≤ 0x01D then
        let p := page - 0x010
        let s := if linkUp s p then portDown p s else s
        setPort s p { portSt s p with modeUsed := 0 }
      else if 0x040 ≤ page ∧ page ≤ 0x043 then mbusStop (page - 0x040) s
      else s
    enStopDone page s

/-- A backbone port that stopped has lost its link, which is a trigger (R238). -/
def stopTrigger (page : Nat) (old s : State) : State :=
  if (page = 0x010 ∨ page = 0x011) ∧ linkUp old (page - 0x010) = true ∧ linkUp s (page - 0x010) = false then triggerChurn 2 s else s

/-- BLOCK_STOP_COMPLETE of a page. -/
def execBlockStopComplete (page : Fin 4096) (s : State) : Host.Outcome State Fault Refusal :=
  .next (whenRun s (fun s => stopTrigger page.val s (stopDone page.val s)))

/-- BLK_RST: a write of PAGE_CTL that sets BLK_RST (R104). -/
def execBlkRst (i : Initiator) (page : Fin 4096) (s : State) : Host.Outcome State Fault Refusal := .next (write32 true i page.val 0x008 2 s)

/-- LOCK_WRITE (R105). -/
def execLockWrite (i : Initiator) (page : Fin 4096) (v : Word) (s : State) : Host.Outcome State Fault Refusal :=
  .next (write32 true i page.val 0x020 v.toNat s)

/-- SHADOW_COMMIT (R102). -/
def execShadowCommit (i : Initiator) (page : Fin 4096) (s : State) : Host.Outcome State Fault Refusal := .next (write32 true i page.val 0x028 1 s)

/-- SHADOW_DISCARD (R102). -/
def execShadowDiscard (i : Initiator) (page : Fin 4096) (s : State) : Host.Outcome State Fault Refusal := .next (write32 true i page.val 0x028 2 s)

/-- EV_PEND_CLEAR (R108, R111). -/
def execEvPendClear (i : Initiator) (page : Fin 4096) (v : Word) (s : State) : Host.Outcome State Fault Refusal :=
  .next (write32 true i page.val 0x018 v.toNat s)

/-- EV_EN_WRITE (R108, R111). -/
def execEvEnWrite (i : Initiator) (page : Fin 4096) (v : Word) (s : State) : Host.Outcome State Fault Refusal :=
  .next (write32 true i page.val 0x014 v.toNat s)

/-- EV_ROUTE_WRITE (R111). -/
def execEvRouteWrite (i : Initiator) (page : Fin 4096) (v : Word) (s : State) : Host.Outcome State Fault Refusal :=
  .next (write32 true i page.val 0x01C v.toNat s)

/-- EVC_SWSET (R110). -/
def execEvcSwset (i : Initiator) (v : Word) (s : State) : Host.Outcome State Fault Refusal := .next (write32 true i 0x001 0x0C0 v.toNat s)

/-- EVC_SWPEND_CLEAR (R110). -/
def execEvcSwpendClear (i : Initiator) (v : Word) (s : State) : Host.Outcome State Fault Refusal := .next (write32 true i 0x001 0x0C8 v.toNat s)

/-- Offsets of the software-event registers (R110). -/
def swOff : SwReg → Nat
  | .swen => 0x0C4 | .swrouteLo => 0x0CC | .swrouteHi => 0x0D0

/-- EVC_SWEN_WRITE (R111). -/
def execEvcSwenWrite (i : Initiator) (r : SwReg) (v : Word) (s : State) : Host.Outcome State Fault Refusal :=
  .next (write32 true i 0x001 (swOff r) v.toNat s)

/-- EVC_LMAP_WRITE (R111). -/
def execEvcLmapWrite (i : Initiator) (slot : Fin 44) (v : Word) (s : State) : Host.Outcome State Fault Refusal :=
  .next (write32 true i 0x001 (0x100 + 4 * slot.val) v.toNat s)

/-- EVC_FAULT_CLEAR: a write of 1 to VALID (R110). -/
def execEvcFaultClear (i : Initiator) (s : State) : Host.Outcome State Fault Refusal := .next (write32 true i 0x001 0x080 1 s)

/-- DEV_RSTCAUSE_CLEAR (R80). -/
def execDevRstcauseClear (i : Initiator) (v : Word) (s : State) : Host.Outcome State Fault Refusal := .next (write32 true i 0x000 0x044 v.toNat s)

/-- FAULT of the running contribution (R425). -/
def markFault (s : State) : State := { s with twin := { s.twin with fault := setBit s.twin.fault 0 } }

/-- The scrub finds a mismatch on a page (R107): CHK_ERR, CHK_MISMATCH and its record. -/
def scrubPage (page : Nat) (s : State) : State :=
  if (pageSt s page).chkOk && decide (rd s (H_CHK page) ≠ pageCheck s page) then
    markFault (fault (wrB s (H_CHK_ERR page) true) 4 .firmware 0 page 0x00B)
  else s

/-- PAGE_SCRUB: every page (R107). -/
def execPageScrub (s : State) : Host.Outcome State Fault Refusal := .next (whenRun s (forEach allPages scrubPage))

/-! ## Rows for single registers -/

/-- FWD_HQHEAD_WRITE (R234). -/
def execFwdHqheadWrite (i : Initiator) (q : Fin 32) (v : Word) (s : State) : Host.Outcome State Fault Refusal :=
  .next (write32 true i 0x020 (0x180 + 4 * q.val) v.toNat s)

/-- FWD_HTTAIL_DOORBELL (R236). -/
def execFwdHttailDoorbell (i : Initiator) (q : Fin 8) (v : Word) (s : State) : Host.Outcome State Fault Refusal :=
  .next (write32 true i 0x020 (0x2C0 + 4 * q.val) v.toNat s)

/-- FRER_SEL_WRITE (R237). -/
def execFrerSelWrite (i : Initiator) (v : Word) (s : State) : Host.Outcome State Fault Refusal := .next (write32 true i 0x024 0x040 v.toNat s)

/-- TIME_GM_SEC_WRITE: the write of the low word arms the load (R310). -/
def execTimeGmSecWrite (i : Initiator) (v : Word) (s : State) : Host.Outcome State Fault Refusal := .next (write32 true i 0x030 0x120 v.toNat s)

/-- TLG_PUBDB_WRITE (R333); checkGood is the check of the dataset as the doorbell takes it (R334). -/
def execTlgPubdbWrite (i : Initiator) (v : Word) (checkGood : Bool) (s : State) : Host.Outcome State Fault Refusal :=
  .next (write32 checkGood i 0x038 (keyOff TLG_PUBDB.key) v.toNat s)

/-- TLG_CLAIM_WRITE (R343, R350). -/
def execTlgClaimWrite (i : Initiator) (n : Fin 512) (claim : Bool) (s : State) : Host.Outcome State Fault Refusal :=
  .next (write32 true i 0x039 (0x800 + 4 * n.val) (if claim then 2 ^ 31 else 0) s)

/-- MBUS_TXDB_DOORBELL (R358); checkGood is the check of the data as the doorbell takes it. -/
def execMbusTxdbDoorbell (i : Initiator) (m : Fin 4) (v : Word) (checkGood : Bool) (s : State) : Host.Outcome State Fault Refusal :=
  .next (write32 checkGood i (mbusPage m.val) (keyOff (MBUS_TXDB_OBJECT m.val).key) v.toNat s)

/-- MBUS_TXID_WRITE (R364). -/
def execMbusTxidWrite (i : Initiator) (m : Fin 4) (v : Word) (s : State) : Host.Outcome State Fault Refusal :=
  .next (write32 true i (mbusPage m.val) (keyOff (MBUS_TXID_ID m.val).key) v.toNat s)

/-- MBUS_RECOVER_WRITE (R369). -/
def execMbusRecoverWrite (i : Initiator) (m : Fin 4) (v : Word) (s : State) : Host.Outcome State Fault Refusal :=
  .next (write32 true i (mbusPage m.val) (keyOff (MBUS_RECOVER m.val).key) v.toNat s)

/-- MBUS_QHEAD_WRITE (R360). -/
def execMbusQheadWrite (i : Initiator) (m : Fin 4) (q : Fin 4) (v : Word) (s : State) : Host.Outcome State Fault Refusal :=
  .next (write32 true i (mbusPage m.val) (keyOff (MBUS_QHEAD m.val q.val).key) v.toNat s)

/-- MBW_FLAG_CLEAR (R357). -/
def execMbwFlagClear (i : Initiator) (m : Fin 4) (k : Fin 256) (v : Word) (s : State) : Host.Outcome State Fault Refusal :=
  .next (write32 true i (0x044 + m.val) (0x040 + 4 * k.val) v.toNat s)

/-- TL_PULSE_WRITE: a write of SLEEP_WAKE that keeps its fields and sets TL_PULSE (R387). -/
def execTlPulseWrite (i : Initiator) (s : State) : Host.Outcome State Fault Refusal :=
  .next (write32 true i 0x048 0x060 (2 ^ 31 + rd s SLEEP_WAKE_TL_WIDTH * 65536 + rd s SLEEP_WAKE_TL_FWD * 256 + rd s SLEEP_WAKE_EN) s)

/-- LCH_CTL_EN_WRITE (R399). -/
def execLchCtlEnWrite (i : Initiator) (n : Fin 16) (v : Word) (s : State) : Host.Outcome State Fault Refusal :=
  .next (write32 true i 0x051 (0x100 + 0x20 * n.val) v.toNat s)

/-- BRG_SEM_ACQUIRE (R128). -/
def execBrgSemAcquire (i : Initiator) (sem : Fin 24) (loc : BitVec 26) (s : State) : Host.Outcome State Fault Refusal :=
  .next (write32 true i 0x002 (0x100 + 4 * sem.val) (2 ^ 30 + loc.toNat) s)

/-- BRG_SEM_RELEASE (R128). -/
def execBrgSemRelease (i : Initiator) (sem : Fin 24) (s : State) : Host.Outcome State Fault Refusal :=
  .next (write32 true i 0x002 (0x100 + 4 * sem.val) (2 ^ 31) s)

/-- BRG_RWIN_TGT_WRITE (R116). -/
def execBrgRwinTgtWrite (i : Initiator) (a : Fin 4) (v : Word) (s : State) : Host.Outcome State Fault Refusal :=
  .next (write32 true i 0x002 (0x060 + 4 * a.val) v.toNat s)

/-- BRG_FQHEAD_WRITE (R125). -/
def execBrgFqheadWrite (i : Initiator) (v : Word) (s : State) : Host.Outcome State Fault Refusal := .next (write32 true i 0x002 0x048 v.toNat s)

/-- BRG_RCDB_DOORBELL (R140): the entries up to the tail can be sent. -/
def execBrgRcdbDoorbell (i : Initiator) (a : Fin 4) (v : Word) (s : State) : Host.Outcome State Fault Refusal :=
  .next (write32 true i 0x002 (0x080 + 4 * a.val) v.toNat s)

/-- BRG_RRHEAD_WRITE (R131). -/
def execBrgRrheadWrite (i : Initiator) (a : Fin 4) (v : Word) (s : State) : Host.Outcome State Fault Refusal :=
  .next (write32 true i 0x002 (0x0B0 + 4 * a.val) v.toNat s)

/-- CMD_SQTAIL_DOORBELL (R132). -/
def execCmdSqtailDoorbell (i : Initiator) (n : Fin 8) (v : Word) (s : State) : Host.Outcome State Fault Refusal :=
  .next (write32 true i 0x003 (0x040 + 4 * n.val) v.toNat s)

/-- CMD_RQHEAD_WRITE (R132). -/
def execCmdRqheadWrite (i : Initiator) (n : Fin 8) (v : Word) (s : State) : Host.Outcome State Fault Refusal :=
  .next (write32 true i 0x003 (0x0A0 + 4 * n.val) v.toNat s)

/-- CMD_CRHEAD_WRITE (R132). -/
def execCmdCrheadWrite (i : Initiator) (v : Word) (s : State) : Host.Outcome State Fault Refusal := .next (write32 true i 0x003 0x0C4 v.toNat s)

/-! ## Links (R175 to R180, R196) -/

/-- A link change of a backbone port triggers a churn (R238). -/
def linkTrigger (p cause : Nat) (s : State) : State := if p < 2 then triggerChurn cause s else s

/-- The link states of B1, B2 and C0 to C11. -/
def linkMask (s : State) : Nat := (List.range 14).foldl (fun a p => if linkUp s p then setBit a p else a) 0

/-- A joined node's link states go into the journal (R207, R421). -/
def journalLinks (s : State) : State := journalOther (.links (BitVec.ofNat 16 (linkMask s))) s

/-- LINK_UP: the conditions of R175 have held together for LINK_HOLD on a port that runs; speed is what auto-negotiation gave. -/
def linkUpRow (p an : Nat) (s : State) : State := if portRuns s p && !linkUp s p then
    let s := portUp p an s
    let s := if p = 14 then wrB (wrB (wrB s TWIN_STAT_LANE0_UP true) TWIN_STAT_LANE1_UP true) (PORT_STATUS_LOCAL_FAULT 14) false else s
    linkTrigger p 1 (journalLinks s)
  else s

/-- A rejoin that runs on the solo node ends before tick J: the fence stays, TRANSFER_FAIL is raised, the command completes (R433). -/
def endRejoin (status : Nat) (s : State) : State :=
  if s.twin.rejoinFrom.isNone then s
  else
    let s := wrB { s with twin := { s.twin with rejoinFrom := none, matched := 0, misses := 0, partner := none } } TWIN_STAT_TRANSFER false
    raise (completeObj 0x0B02 .pair status [] s) 0x058 9

/-- T goes down: contributions end on both lanes, and so does a rejoin (R433, R442). -/
def tDown (s : State) : State := endRejoin stWRONG_STATE (wrB (wrB s TWIN_STAT_LANE0_UP false) TWIN_STAT_LANE1_UP false)

/-- LINK_DOWN: one of the conditions failed (R175, R176). -/
def linkDownRow (p : Nat) (why : LinkLoss) (s : State) : State :=
  let t := lossStatus p why s
  if linkUp s p then linkTrigger p 2 (journalLinks ((if p = 14 then tDown else id) (portDown p t))) else t

/-- LINK_UP of a port (R175). -/
def execLinkUp (p : Port) (speed : Fin 8) (s : State) : Host.Outcome State Fault Refusal := .next (whenRun s (linkUpRow p.val speed.val))

/-- LINK_DOWN of a port (R175, R176). -/
def execLinkDown (p : Port) (why : LinkLoss) (s : State) : Host.Outcome State Fault Refusal := .next (whenRun s (linkDownRow p.val why))

/-- PHY_POLL: what the poll read of the PHY's status (R180); a poll without a PHY link is a loss of the link (R175). -/
def phyPollRow (p data : Nat) (s : State) : State :=
  if pollsPhy s p = false then s
  else
    let t := emit (phyPollStatus p data s) (.mdio (mdioBus p) (rd s (PORT_PHY_PHY_ADDR p)) 1 none)
    if !rdB t (PORT_STATUS_PHY_LINK p) && linkUp t p then linkTrigger p 2 (journalLinks (portDown p t)) else t

/-- PHY_POLL of a port. -/
def execPhyPoll (p : Port) (data : BitVec 16) (s : State) : Host.Outcome State Fault Refusal := .next (whenRun s (phyPollRow p.val data.toNat))

/-- Up bit of a lane of T (R442). -/
def laneUp (lane : Nat) : Fld := if lane = 0 then TWIN_STAT_LANE0_UP else TWIN_STAT_LANE1_UP

/-- T_LANE_LOSS: T goes on over the other lane at 25 Gb/s, with LANE_DEGRADED, which LOCAL_FAULT and MODE_FAULT show (R196, R197); with both lanes lost it is link down. -/
def laneLoss (lane : Nat) (s : State) : State :=
  let s := wrB s (laneUp lane) false
  if tUp s = false then s
  else if rdB s (laneUp (1 - lane)) then raise (wr (wrB s (PORT_STATUS_LOCAL_FAULT 14) true) (PORT_STATUS_SPEED 14) 7) 0x01E 4
  else tDown (portDown 14 s)

/-- T_LANE_LOSS of a lane. -/
def execTLaneLoss (lane : Fin 2) (s : State) : Host.Outcome State Fault Refusal := .next (whenRun s (laneLoss lane.val))

end Sys2Proof.Machine
end

