-- ==== Sys2Proof/Machine/Remote.lean ====
section
/-! DEFINITION. The remote window and its target side (R116 to R126, R140, R141), atomics, semaphores and locked requests (R127 to R129), host writes to
device memory (R114, R115), the REMOTE group. -/

namespace Sys2Proof.Machine

/-! ## Origin side -/

/-- A host write of one word through an aperture: held by a semaphore of the location, or taken (R119, R128). At 256 words without an answer the bridge
gives no credits, so no such write reaches it (R123). -/
def apertureWrite (a page word v : Nat) (s : State) : State :=
  if 256 ≤ apWords s a then s
  else if semGuards s 2 (apLoc a page word) then
    { s with semWait := s.semWait ++ [⟨.host, 0x2000 + 0x1000 * a + page, 4 * word, BitVec.ofNat 32 v⟩] }
  else apWord a page word v s

/-- REMOTE_APERTURE_WRITE (R119). -/
def execRemoteApertureWrite (a : Fin 4) (page : Fin 4096) (word : Fin 1024) (v : Word) (s : State) : Host.Outcome State Fault Refusal :=
  .next (whenRun s (apertureWrite a.val page.val word.val v.toNat))

/-- A read through an aperture: after every earlier write through it has been sent (R121); an aperture that carries nothing answers all ones (R116);
eight reads at most are outstanding (R123). -/
def apertureRead (a page word : Nat) (s : State) : State :=
  if apertureOpen s a = false then raise (emit s (.pcie 0 0xFFFFFFFF)) 0x002 1
  else if 8 ≤ apReads s a then s
  else
    let s := flushAp a s
    let n := s.remote.next
    sendFlight (newFlight s a 3 n [⟨n, a, page, word, 0, nowNs s⟩] [] (nowNs s)) (takeNumbers 1 s)

/-- REMOTE_APERTURE_READ (R121). -/
def execRemoteApertureRead (a : Fin 4) (page : Fin 4096) (word : Fin 1024) (s : State) : Host.Outcome State Fault Refusal :=
  .next (whenRun s (apertureRead a.val page.val word.val))

/-- Base of remote command ring a and of its response ring (R114). -/
def rcBase (a : Nat) : Nat := 0x60000 + a * 0x1000
/-- Base of remote response ring a (R114). -/
def rrBase (a : Nat) : Nat := 0x64000 + a * 0x1000

/-- Commands of an aperture without a response. -/
def apCommands (s : State) (a : Nat) : Nat := (s.remote.flight.filter (fun f => decide (f.ap = a ∧ f.kind = 5))).length

/-- The next entry of remote command ring a leaves as a COMMAND frame, while the node releases control traffic and its response ring has room
(R140, R419). -/
def sendCommand (a : Nat) (s : State) : State :=
  if rd s (BRG_RCDB a) = rd s (BRG_RCHEAD a) ∨ apertureOpen s a = false ∨ sendsControl s = false ∨ 64 ≤ apCommands s a + rd s (NODE_RR_USED a) then s
  else
    let block := bar2Read s (rcBase a + 64 * rd s (BRG_RCHEAD a)) 64
    sendFlight (newFlight s a 5 s.remote.next [] block (nowNs s)) (takeNumbers 1 (inc s (BRG_RCHEAD a)))

/-- REMOTE_FRAME_SEND: the oldest words of the aperture, or its next command (R119, R140). -/
def execRemoteFrameSend (a : Fin 4) (s : State) : Host.Outcome State Fault Refusal :=
  .next (whenRun s (fun s => if (apWaiting s a.val).isEmpty then sendCommand a.val s else sendWords a.val s))

/-- The frame in flight with a number. -/
def flightOf (s : State) (seq : Nat) : Option RemFlight := s.remote.flight.find? (fun f => decide (f.seq % 2 ^ 32 = seq % 2 ^ 32))

/-- A frame is no longer in flight. -/
def dropFlight (f : RemFlight) (s : State) : State :=
  { s with remote := { s.remote with flight := s.remote.flight.filter (fun g => decide (g.seq ≠ f.seq)) } }

/-- REMOTE_RETRANSMIT: a frame that is not answered is sent again with RETRY, at most three times in all (R119). -/
def retransmit (seq : Nat) (s : State) : State :=
  match flightOf s seq with
  | none => s
  | some f => if f.sends < 3 then sendFlight f s else s

/-- REMOTE_RETRANSMIT of a sequence number. -/
def execRemoteRetransmit (seq : Nat) (s : State) : Host.Outcome State Fault Refusal := .next (whenRun s (retransmit seq))

/-- Writes a response into remote response ring a and raises RRESP (R140). -/
def postRemote (a : Nat) (block : List Byte) (s : State) : State :=
  let t := rd s (BRG_RRTAIL a)
  let b3 := (1 - rd s (NODE_RR_PASS a)) * 128 + leAt block 3 1 % 128
  let s := bar2Write s (rrBase a + 64 * t) (slice block 0 3 ++ le 1 b3 ++ slice block 4 60)
  let s := if t = 63 then wr s (NODE_RR_PASS a) (1 - rd s (NODE_RR_PASS a)) else s
  let s := wr (wr s (BRG_RRTAIL a) (t + 1)) (BRG_RRTAIL_PHASE a) (1 - rd s (NODE_RR_PASS a))
  raise (inc s (NODE_RR_USED a)) 0x002 4

/-- REMOTE_SEND_TIMEOUT: each word of a write ends with TIMEOUT; for a command the bridge writes the response itself (R119, R124, R141). -/
def sendTimeout (seq : Nat) (s : State) : State :=
  match flightOf s seq with
  | none => s
  | some f =>
    if f.sends < 3 ∨ f.kind = 3 then s
    else if f.kind = 1 then forEach f.words (fun w t => wordFails w f.uid f.twin stTIMEOUT 0 f.gen t) (dropFlight f s)
    else
      let s := remFault ⟨3, stTIMEOUT, f.ap, f.twin, f.seq % 2 ^ 32, f.uid, 0, 0, 0, f.at_, 0, f.gen⟩ (dropFlight f s)
      postRemote f.ap (slice f.block 0 2 ++ le 1 stTIMEOUT ++ le 1 (leAt f.block 3 1 % 16) ++ slice f.block 4 4 ++ zeros 56) s

/-- REMOTE_SEND_TIMEOUT of a sequence number. -/
def execRemoteSendTimeout (seq : Nat) (s : State) : Host.Outcome State Fault Refusal := .next (whenRun s (sendTimeout seq))

/-- REMOTE_READ_TIMEOUT: the read completes with all ones, RRD_TMO and a fault record (R122). -/
def readTimeout (seq : Nat) (s : State) : State :=
  match flightOf s seq with
  | none => s
  | some f =>
    if f.sends < 3 ∨ f.kind ≠ 3 then s
    else
      let w := f.words.headD ⟨0, 0, 0, 0, 0, 0⟩
      remFault ⟨2, stTIMEOUT, f.ap, f.twin, f.seq % 2 ^ 32, f.uid, w.page, w.word, 0, f.at_, 0, f.gen⟩
        (raise (emit (dropFlight f s) (.pcie 0 0xFFFFFFFF)) 0x002 1)

/-- REMOTE_READ_TIMEOUT of a sequence number. -/
def execRemoteReadTimeout (seq : Nat) (s : State) : Host.Outcome State Fault Refusal := .next (whenRun s (readTimeout seq))

/-- The frame in flight that an answer is for: its kind, number and target match. -/
def answered (s : State) (kind : Nat) (f : RemoteFrame) : Option RemFlight :=
  s.remote.flight.find? (fun g => decide (g.kind = kind ∧ g.seq % 2 ^ 32 = f.seq.toNat ∧ g.uid = f.originUid ∧ g.twin = f.originTwin))

/-- WRITE_ACK_RX: the words are done, or each ends with the status (R124). A frame that fails its CRC is none. -/
def writeAck (f : RemoteFrame) (s : State) : State :=
  if f.crcGood = false then s
  else match answered s 1 f with
  | none => s
  | some g =>
    if f.flags.toNat = stOK then dropFlight g s
    else forEach g.words (fun w t => wordFails w g.uid g.twin f.flags.toNat f.churn.toNat g.gen t) (dropFlight g s)

/-- WRITE_ACK_RX (R119, R124). -/
def execWriteAckRx (f : RemoteFrame) (s : State) : Host.Outcome State Fault Refusal := .next (whenRun s (writeAck f))

/-- READ_REPLY_RX: the read completes; a reply that fails its CRC is requested again, which counts as a send (R120, R122). -/
def readReply (f : RemoteFrame) (s : State) : State :=
  match answered s 3 f with
  | none => s
  | some g =>
    if f.crcGood then emit (dropFlight g s) (.pcie 0 (f.data.headD 0).toNat)
    else if g.sends < 3 then sendFlight g s
    else s

/-- READ_REPLY_RX (R120). -/
def execReadReplyRx (f : RemoteFrame) (s : State) : Host.Outcome State Fault Refusal := .next (whenRun s (readReply f))

/-- REMOTE_RESPONSE_RX: into the response ring of the aperture; a response to nothing is discarded and counted (R140, R141). -/
def remoteResponse (f : RemoteFrame) (s : State) : State :=
  if f.crcGood = false then s
  else match answered s 5 f with
  | none => { s with remote := { s.remote with late := s.remote.late + 1 } }
  | some g => postRemote g.ap (padTo 64 f.block) (dropFlight g s)

/-- REMOTE_RESPONSE_RX (R141). -/
def execRemoteResponseRx (f : RemoteFrame) (s : State) : Host.Outcome State Fault Refusal := .next (whenRun s (remoteResponse f))

/-- REMOTE_COMPLETION_RX: into this node's completion ring with QUEUE 8 + a; RRESP and COMPL (R131, R136, R140). -/
def remoteCompletion (f : RemoteFrame) (a : Nat) (s : State) : State :=
  if f.crcGood = false ∨ noCompletion s (.host 0) = true then s
  else
    let block := padTo 64 f.block
    let t := rd s CMD_CRTAIL
    let s := bar2Write s (0x40000 + 64 * t) (slice block 0 3 ++ le 1 ((1 - rd s NODE_CR_PASS) * 128 + 8 + a) ++ slice block 4 60)
    let s := if t = 1023 then wr s NODE_CR_PASS (1 - rd s NODE_CR_PASS) else s
    let s := wr (wr s CMD_CRTAIL (t + 1)) CMD_CRTAIL_PHASE (1 - rd s NODE_CR_PASS)
    raise (raise (inc s NODE_CR_USED) 0x002 4) 0x003 8

/-- REMOTE_COMPLETION_RX (R140). -/
def execRemoteCompletionRx (f : RemoteFrame) (a : Fin 4) (s : State) : Host.Outcome State Fault Refusal :=
  .next (whenRun s (remoteCompletion f a.val))

/-! ## Target side -/

/-- The frame is for this node. -/
def forUs (s : State) (f : RemoteFrame) : Bool := decide (f.targetUid = ownUid s ∧ f.targetTwin = s.fuses.twinId)

/-- The frame came over T from the own partner. -/
def fromPartner (s : State) (f : RemoteFrame) : Bool := decide (f.originUid = ownUid s ∧ f.originTwin ≠ s.fuses.twinId)

/-- The initiator as which the target applies a frame: partner, manager, or none (R117). -/
def remoteInit (s : State) (f : RemoteFrame) : Option Initiator :=
  if fromPartner s f then some .partner else if isManager s f.originUid f.originTwin then some .manager else none

/-- The answer kept for a repeated number (R119). -/
def keptAnswer (s : State) (f : RemoteFrame) : Option RemAnswer :=
  s.remote.answers.find? (fun a => decide (a.uid = f.originUid ∧ a.twin = f.originTwin ∧ a.seq = f.seq.toNat))

/-- Sends a kept answer. -/
def sendKept (a : RemAnswer) (s : State) : State :=
  sendAnswer a.uid a.twin a.kind a.status a.seq (if a.kind = 2 then 0 else if a.kind = 4 then a.data.length else 16) 0 0
    (if a.kind = 4 then a.data.flatMap (fun w => be 4 w.toNat) else a.block) s

/-- Answers a write frame, and keeps the answer. -/
def ackWrite (f : RemoteFrame) (keep : Bool) (status : Nat) (s : State) : State :=
  let s := if keep then keepAnswer ⟨f.originUid, f.originTwin, f.seq.toNat, 2, status, [], []⟩ s else s
  sendAnswer f.originUid f.originTwin 2 status f.seq.toNat 0 f.page.val f.word.val [] s

/-- The words of a frame with their offsets. -/
def frameWords (f : RemoteFrame) : List (Nat × Nat) := (List.range f.data.length).map (fun k => (4 * (f.word.val + k), ((f.data[k]?).getD 0).toNat))

/-- A lock keeps a word from being applied whole (R105, R119). -/
def lockRefuses (s : State) (page off v : Nat) : Bool :=
  match lockVerdict s page off v with | .free => false | .discard => off ≠ 0x020 | .w1cOnly raises => raises

/-- A write frame that is new: protection and lock are checked for every word before any is applied (R119). -/
def applyRemote (i : Initiator) (f : RemoteFrame) (s : State) : State :=
  let page := f.page.val
  let ws := (frameWords f).filter (fun w => decide (w.1 < 4096))
  match pageInfo page with
  | none => ackWrite f true stBAD_ARG (regFault s 1 i page (4 * f.word.val))
  | some info =>
    if mayWrite s i info.cls = false then ackWrite f true stDENIED (regFault s 3 i page (4 * f.word.val))
    else if ws.any (fun w => lockRefuses s page w.1 w.2) then
      ackWrite f true stWRONG_STATE (forEach (ws.filter (fun w => lockRefuses s page w.1 w.2)) (fun w t => regFault t 2 i page w.1) s)
    else ackWrite f true stOK (forEach ws (fun w t => writeWordOf true i page w.1 w.2 t) s)

/-- REMOTE_WRITE_RX: a bad CRC is INTEGRITY and applies nothing (R29, R120); a repeat is answered and not applied again; only the manager's and the
partner's frames are applied (R117). -/
def remoteWrite (f : RemoteFrame) (s : State) : State :=
  if forUs s f = false then s
  else if f.crcGood = false then ackWrite f false stINTEGRITY (inc s (NODE_OVERLAP 6))
  else match keptAnswer s f with
  | some a => sendKept a s
  | none =>
    match remoteInit s f with
    | none => ackWrite f true stDENIED s
    | some i => runWaits (applyRemote i f s)

/-- REMOTE_WRITE_RX (R117, R119). -/
def execRemoteWriteRx (f : RemoteFrame) (s : State) : Host.Outcome State Fault Refusal := .next (whenRun s (remoteWrite f))

/-- Answers a read frame, and keeps the answer. -/
def replyRead (f : RemoteFrame) (keep : Bool) (status : Nat) (d : List Word) (s : State) : State :=
  let s := if keep then keepAnswer ⟨f.originUid, f.originTwin, f.seq.toNat, 4, status, d, []⟩ s else s
  sendAnswer f.originUid f.originTwin 4 status f.seq.toNat d.length f.page.val f.word.val (d.flatMap (fun w => be 4 w.toNat)) s

/-- A write of an initiator waits in the journal (R98, R121). -/
def journalHolds (s : State) (i : Initiator) : Bool :=
  s.twin.own.any (fun e => match e.item with | .write j _ _ _ _ => decide (i = j) | .pubData _ _ => true | .objData _ _ _ => true | _ => false)

/-- Reads words in ascending order. -/
def readWords (i : Initiator) (page : Nat) (offs : List Nat) (s : State) : List Word × State :=
  offs.foldl (fun (a : List Word × State) o => let x := readChecked a.2 i page o; (a.1 ++ [BitVec.ofNat 32 x.1], x.2)) ([], s)

/-- REMOTE_READ_RX: served once, and only after earlier writes are applied (R119, R121). -/
def remoteRead (f : RemoteFrame) (s : State) : State :=
  if forUs s f = false then s
  else if f.crcGood = false then replyRead f false stINTEGRITY (List.replicate f.words 0) (inc s (NODE_OVERLAP 6))
  else match keptAnswer s f with
  | some a => sendKept a s
  | none =>
    match remoteInit s f with
    | none => replyRead f true stDENIED (List.replicate f.words 0) s
    | some i =>
      if journalHolds s i then s
      else
        let r := readWords i f.page.val ((List.range (min f.words 64)).map (fun k => 4 * (f.word.val + k)) |>.filter (fun o => decide (o < 4096))) s
        replyRead f true stOK r.1 r.2

/-- REMOTE_READ_RX (R119, R121). -/
def execRemoteReadRx (f : RemoteFrame) (s : State) : Host.Outcome State Fault Refusal := .next (whenRun s (remoteRead f))

/-- Refuses a remote command with a response of its own. -/
def refuseCommand (f : RemoteFrame) (keep : Bool) (status : Nat) (s : State) : State :=
  let d := padTo 64 f.block
  let b := slice d 0 2 ++ le 1 status ++ le 1 (leAt d 3 1 % 16) ++ slice d 4 4 ++ zeros 56
  let s := if keep then keepAnswer ⟨f.originUid, f.originTwin, f.seq.toNat, 6, status, [], b⟩ s else s
  sendAnswer f.originUid f.originTwin 6 status f.seq.toNat 16 0 0 b s

/-- The command waits already. -/
def inInbox (s : State) (f : RemoteFrame) : Bool :=
  s.remote.inbox.any (fun e => decide (e.2.1 = f.originUid ∧ e.2.2.1 = f.originTwin ∧ e.2.2.2.2 = f.seq.toNat))

/-- REMOTE_COMMAND_RX: a repeat is answered or waits; the manager role and the pair generation are checked (R25, R119, R141); a command of the
partner goes to the partner path (R117, R140). -/
def remoteCommand (f : RemoteFrame) (ring : Nat) (s : State) : State :=
  if forUs s f = false then s
  else if f.crcGood = false then refuseCommand f false stINTEGRITY (inc s (NODE_OVERLAP 6))
  else match keptAnswer s f with
  | some a => sendKept a s
  | none =>
    if inInbox s f then s
    else match remoteInit s f with
    | none => refuseCommand f true stDENIED s
    | some i =>
      if some f.gen.toNat ≠ curdGen s f.originUid then refuseCommand f true stSTALE_GENERATION s
      else if i = .partner then
        if s.remote.partnerIn.length < 16 then { s with remote := { s.remote with partnerIn := s.remote.partnerIn ++ [padTo 64 f.block] } } else s
      else if (s.remote.inbox.filter (fun e => decide (e.1 = ring))).length < 64 then
        { s with remote := { s.remote with inbox := s.remote.inbox ++ [(ring, f.originUid, f.originTwin, padTo 64 f.block, f.seq.toNat)] } }
      else s

/-- REMOTE_COMMAND_RX (R140, R141). -/
def execRemoteCommandRx (f : RemoteFrame) (ring : Fin 4) (s : State) : Host.Outcome State Fault Refusal :=
  .next (whenRun s (remoteCommand f ring.val))

/-! ## Semaphores, atomics, locked requests -/

/-- SEM_HOLD_TIMEOUT: 100 µs after its acquire the bridge releases a semaphore (R128). -/
def semTimeout (k : Nat) (s : State) : State :=
  if rdB s (BRG_SEM_HELD k) then runWaits (raise (wrB (wrB s (BRG_SEM_HELD k) false) (BRG_SEM_BRIDGE k) false) 0x002 3) else s

/-- SEM_HOLD_TIMEOUT of a semaphore. -/
def execSemHoldTimeout (sem : Fin 24) (s : State) : Host.Outcome State Fault Refusal := .next (whenRun s (semTimeout sem.val))

/-- A byte of BAR2 lies in a reserved range (R114). -/
def bar2Reserved (a : Nat) : Bool :=
  decide ((0x68000 ≤ a ∧ a < 0x1000000) ∨ (0x3700000 ≤ a ∧ a < 0x3800000) ∨ 0x3C00000 ≤ a)

/-- A register with an RW field: a register of the page, or PAGE_CTL, EV_EN and EV_ROUTE of the header (R127). -/
def hasRw (page off : Nat) : Bool :=
  if off < 0x040 then (pageInfo page).isSome && decide (off = 0x008 ∨ off = 0x014 ∨ off = 0x01C)
  else (partsAt page off).any (fun q => match q.ty with | .rw => true | .sem => true | _ => false)

/-- The words of a page, of this node or of an aperture's target, take no AtomicOp (R127). -/
def pageUnsupported (a : AtomicReq) (page word : Nat) : Bool :=
  (match pageInfo page with | none => true | some i => i.sens) || decide (4 * word % a.size ≠ 0) || !hasRw page (4 * word) ||
  (decide (a.size = 8) && !hasRw page (4 * word + 4))

/-- The node completes the AtomicOp with Unsupported Request whatever its semaphores (R127). -/
def atomicUnsupported (a : AtomicReq) : Bool :=
  (decide (a.size ≠ 4 ∧ a.size ≠ 8)) ||
  match a.loc with
  | .bar0 page word => pageUnsupported a page.val word.val
  | .bar2 addr => decide (addr.val % a.size ≠ 0) || bar2Reserved addr.val
  | .aperture _ page word => pageUnsupported a page.val word.val

/-- Window of a location: 0 BAR0, 1 BAR2, 2 apertures. -/
def atomicWindow : AtomicLoc → Nat
  | .bar0 _ _ => 0 | .bar2 _ => 1 | .aperture _ _ _ => 2

/-- LOC of a location (R128). -/
def atomicLoc : AtomicLoc → Nat
  | .bar0 page word => page.val * 1024 + word.val
  | .bar2 addr => addr.val / 4
  | .aperture a page word => apLoc a.val page.val word.val

/-- The semaphore that the bridge acquires: the lowest free one of the window, while no other guards the location (R127, R128). -/
def atomicSem (s : State) (l : AtomicLoc) : Option Nat :=
  if semGuards s (atomicWindow l) (atomicLoc l) then none else (semsOf (atomicWindow l)).find? (fun k => !rdB s (BRG_SEM_HELD k))

/-- The value that an AtomicOp writes over old. -/
def atomicNew (a : AtomicReq) (old : Nat) : Nat :=
  match a.op with
  | .fetchAdd => (old + a.arg) % 2 ^ (8 * a.size)
  | .swap => a.arg % 2 ^ (8 * a.size)
  | .cas => if old = a.cmp % 2 ^ (8 * a.size) then a.arg % 2 ^ (8 * a.size) else old

/-- The AtomicOp on BAR0: the words are read and written as the host's (R127). -/
def atomicBar0 (a : AtomicReq) (page off : Nat) (s : State) : State :=
  let x := readChecked s .host page off
  let y := if a.size = 8 then readChecked x.2 .host page (off + 4) else (0, x.2)
  let old := x.1 + 2 ^ 32 * y.1
  let new := atomicNew a old
  match pageInfo page with
  | none => s
  | some i =>
    let ok := writePermitted s .host page off i.cls
    let s := submitWrite true .host page off (new % 2 ^ 32) ok y.2
    let s := if a.size = 8 then submitWrite true .host page (off + 4) (new / 2 ^ 32) ok s else s
    emit s (.pcie 0 old)

/-- The AtomicOp on BAR2: one access to device memory. -/
def atomicBar2 (a : AtomicReq) (addr : Nat) (s : State) : State :=
  let old := leAt (bar2Read s addr a.size) 0 a.size
  emit (bar2Write s addr (le a.size (atomicNew a old))) (.pcie 0 old)

/-- The AtomicOp through an aperture: a READ and a WRITE frame; remoteOld is what the READ brought back, remoteStatus the status of the WRITE_ACK. A
failed write is a Completer Abort with a fault record for each word (R127). -/
def atomicRemote (a : AtomicReq) (ap page word : Nat) (s : State) : State :=
  if apertureOpen s ap = false then emit s (.pcie 4 0)
  else
    let s := flushAp ap s
    let n := a.size / 4
    let old := a.remoteOld % 2 ^ (8 * a.size)
    let new := atomicNew a old
    let k := s.remote.next
    let rw : List RemWord := (List.range n).map (fun j => ⟨k + j, ap, page, word + j, 0, nowNs s⟩)
    let ww : List RemWord := (List.range n).map (fun j => ⟨k + n + j, ap, page, word + j, BitVec.ofNat 32 (new / 2 ^ (32 * j)), nowNs s⟩)
    let r := newFlight s ap 3 k rw [] (nowNs s)
    let w := newFlight s ap 1 (k + n) ww [] (nowNs s)
    let s := dropFlight r (sendFlight r (takeNumbers n s))
    let s := takeNumbers n s
    let s := dropFlight w (sendFlight w { s with remote := { s.remote with lastWrite := s.remote.next } })
    if a.remoteStatus.toNat = stOK then emit s (.pcie 0 old)
    else forEach ww (fun x t => wordFails x w.uid w.twin a.remoteStatus.toNat 0 w.gen t) (emit s (.pcie 4 0))

/-- A write that waits in the journal holds an AtomicOp of the same initiator back (R98). -/
def atomicWaits (s : State) (l : AtomicLoc) : Bool := match l with | .bar0 _ _ => journalHolds s .host | _ => false

/-- ATOMIC_OP: under a semaphore of the window, which shows the location afterwards (R127, R128). -/
def atomicOp (a : AtomicReq) (s : State) : State :=
  if atomicUnsupported a then emit s (.pcie 1 0)
  else match atomicSem s a.loc with
  | none => s
  | some k =>
    if atomicWaits s a.loc then s
    else
      let s := semAcquire k (atomicLoc a.loc) true s
      let s := match a.loc with
        | .bar0 page word => atomicBar0 a page.val (4 * word.val) s
        | .bar2 addr => atomicBar2 a addr.val s
        | .aperture ap page word => atomicRemote a ap.val page.val word.val s
      wrB (wrB s (BRG_SEM_HELD k) false) (BRG_SEM_BRIDGE k) false

/-- The command, response and completion rings of BAR2 (R114), all of device memory that a halted node gives access to (R85). -/
def ringByte (a : Nat) : Bool := decide (a < 0x50000)

/-- The node gives the host access to an atomic location: a halted one only to its three pages and the rings (R85). -/
def atomicGiven (s : State) (l : AtomicLoc) : Bool :=
  decide (s.phase = .running) || (decide (s.phase = .halted) && (match l with | .bar0 p _ => haltedPage p.val | .bar2 a => ringByte a.val | .aperture .. => false))

/-- ATOMIC_OP (R127); on a page that a halted node does not give, the read returns 0 and the write is discarded (R85). -/
def execAtomicOp (a : AtomicReq) (s : State) : Host.Outcome State Fault Refusal :=
  .next (if atomicGiven s a.loc then atomicOp a s
    else match s.phase, a.loc with
    | .halted, .bar0 _ _ => emit s (.pcie 0 0)
    | _, _ => s)

/-- ATOMIC_SEM_TIMEOUT: no free semaphore for 100 µs is an Unsupported Request (R127). -/
def execAtomicSemTimeout (a : AtomicReq) (s : State) : Host.Outcome State Fault Refusal :=
  .next (if atomicGiven s a.loc && (atomicSem s a.loc).isNone then emit s (.pcie 1 0) else s)

/-- LOCKED_READ: Unsupported Request (R129). -/
def execLockedRead (s : State) : Host.Outcome State Fault Refusal :=
  .next (if s.phase = .running ∨ s.phase = .halted then emit s (.pcie 1 0) else s)

/-! ## Device memory -/

/-- One byte of a host write: discarded in a reserved range or beyond BAR2, held by a semaphore of its word, or written (R114, R128). -/
def bar2Byte (a : Nat) (b : Byte) (s : State) : State :=
  if bar2Reserved a then s
  else if semGuards s 1 (a / 4) then { s with semWait := s.semWait ++ [⟨.host, 0x1000, a, b.setWidth 32⟩] }
  else bar2Write s a [b]

/-- BAR2_WRITE: any length and alignment (R115); a byte in a reserved range raises ACCESS_FAULT with the first byte's address (R114). -/
def bar2WriteRow (addr : Nat) (data : List Byte) (s : State) : State :=
  let l := (List.range data.length).map (fun k => addr + k)
  let s := if l.any bar2Reserved then bar2Fault s .host addr else s
  forEach (List.zip l data) (fun x t => bar2Byte x.1 x.2 t) s

/-- What a halted node writes of a host write: the bytes that lie in the rings (R85). -/
def bar2WriteHalted (addr : Nat) (data : List Byte) (s : State) : State :=
  forEach (List.zip ((List.range data.length).map (fun k => addr + k)) data) (fun x t => if ringByte x.1 then bar2Byte x.1 x.2 t else t) s

/-- BAR2_WRITE (R114, R115). -/
def execBar2Write (addr : Fin 67108864) (data : List Byte) (s : State) : Host.Outcome State Fault Refusal :=
  .next (match s.phase with
    | .running => bar2WriteRow addr.val data s
    | .halted => bar2WriteHalted addr.val data s
    | _ => s)

/-! ## REMOTE group (R126, R166) -/

/-- REMOTE_SYNC: covers the remote writes taken before its doorbell. -/
def remoteSyncRun (c : Cmd) (s : State) : Reply := Reply.accepted { s with remote := { s.remote with syncs := s.remote.syncs ++ [(c.tag, c.mark)] } }

/-- The row of REMOTE_SYNC. -/
def remoteSyncSpec : CmdSpec := { CmdSpec.sync 0x1000 .only [] (fun _ _ => true) remoteSyncRun with async := true, hostOnly := true }

/-- REMOTE_SYNC (R126, R166). -/
def execRemoteSync (t : Take) (s : State) : Host.Outcome State Fault Refusal := .next (takeState remoteSyncSpec t s)

/-- A covered write has no answer yet. -/
def syncOpen (s : State) (hi : Nat) : Bool :=
  s.remote.waiting.any (fun w => decide (w.seq < hi)) || s.remote.flight.any (fun f => decide (f.kind = 1) && f.words.any (fun w => decide (w.seq < hi)))

/-- The failed write with the lowest number. -/
def lowestFailed (l : List (Nat × Nat)) : Option (Nat × Nat) :=
  l.foldl (fun o x => match o with | none => some x | some y => if x.1 < y.1 then some x else some y) none

/-- REMOTE_SYNC_DONE: every covered write has an answer or a fault (R126). -/
def remoteSyncDone (tag : Nat) (s : State) : State :=
  match s.remote.syncs.find? (fun x => decide (x.1 = tag)) with
  | none => s
  | some (_, hi) =>
    if syncOpen s hi then s
    else match s.accepted.find? (fun a => decide (a.opcode = 0x1000 ∧ a.tag = tag)) with
    | none => s
    | some a =>
      let l := s.remote.failed.filter (fun x => decide (x.1 < hi))
      let low := lowestFailed l
      let s := { s with remote := { s.remote with syncs := removeFirst (fun x => decide (x = (tag, hi))) s.remote.syncs } }
      complete a (match low with | none => stOK | some x => x.2)
        (le 4 l.length ++ le 4 (match low with | none => 0 | some x => x.1 % 2 ^ 32) ++ le 4 ((hi - 1) % 2 ^ 32)) s

/-- REMOTE_SYNC_DONE of a tag. -/
def execRemoteSyncDone (tag : Nat) (s : State) : Host.Outcome State Fault Refusal := .next (whenRun s (remoteSyncDone tag))

/-- REMOTE_STATUS. -/
def remoteStatusRun (c : Cmd) (s : State) : Reply :=
  Reply.okWith (le 2 (apWords s (c.u 0x08 1)) ++ le 1 (apReads s (c.u 0x08 1)) ++ zeros 1 ++ le 4 s.remote.faults) s

/-- The row of REMOTE_STATUS. -/
def remoteStatusSpec : CmdSpec := CmdSpec.sync 0x1001 .rd [(0x08, 1)] (fun _ c => decide (c.u 0x08 1 ≤ 3)) remoteStatusRun

/-- REMOTE_STATUS (R166). -/
def execRemoteStatus (t : Take) (s : State) : Host.Outcome State Fault Refusal := .next (takeState remoteStatusSpec t s)

end Sys2Proof.Machine
end

