-- ==== Sys2Proof/Machine/Device.lean ====
section
/-! DEFINITION. The DEVICE and CONFIG groups (R150 to R152) and the configuration image (R84). -/

namespace Sys2Proof.Machine

/-! ## DEVICE, 0x01 (R150) -/

/-- NOP: the nanosecond counter at the step tick of taking. -/
def nopRun (_ : Cmd) (s : State) : Reply := Reply.okWith (le 8 (nowNs s)) s

/-- The row of NOP. -/
def nopSpec : CmdSpec := CmdSpec.sync 0x0100 .rd [] (fun _ _ => true) nopRun

/-- NOP (R150). -/
def execNop (t : Take) (s : State) : Host.Outcome State Fault Refusal := .next (takeState nopSpec t s)

/-- DEV_INFO. -/
def devInfoRun (_ : Cmd) (s : State) : Reply :=
  Reply.okWith (le 8 Config.nodeDie.toNat ++ le 8 Config.lineDie.toNat ++ le 8 Config.recordDie.toNat ++ le 4 0x8800 ++ le 1 s.fuses.romIssue ++
    le 1 s.fuses.lc ++ le 1 (twinNo s) ++ le 1 s.fuses.grade) s

/-- The row of DEV_INFO. -/
def devInfoSpec : CmdSpec := CmdSpec.sync 0x0101 .rd [] (fun _ _ => true) devInfoRun

/-- DEV_INFO (R150). -/
def execDevInfo (t : Take) (s : State) : Host.Outcome State Fault Refusal := .next (takeState devInfoSpec t s)

/-- DEV_STATUS. The temperatures are what the dies measure: free values. -/
def devStatusRun (_ : Cmd) (s : State) : Reply :=
  Reply.okWith (le 1 (role s) ++ le 1 (rd s DEV_ROLE_SELF) ++ zeros 2 ++ le 4 (regWord s .host 0x000 0x048) ++ le 4 (regWord s .host 0x000 0x044) ++
    le 4 (regWord s .host 0x000 0x040) ++ le 2 (Config.freeNat s.free) ++ le 2 (Config.freeNat (s.free + 1)) ++
    (List.range 4).flatMap (fun g => le 2 (rd s (LOAD_VHV g)))) (nextFree (nextFree s))

/-- The row of DEV_STATUS. -/
def devStatusSpec : CmdSpec := CmdSpec.sync 0x0102 .rd [] (fun _ _ => true) devStatusRun

/-- DEV_STATUS (R150). -/
def execDevStatus (t : Take) (s : State) : Host.Outcome State Fault Refusal := .next (takeState devStatusSpec t s)

/-- DEV_RESET: the node reset comes 1 ms after the response (R75). -/
def devResetRun (_ : Cmd) (s : State) : Reply := Reply.ok { s with clk := { s.clk with resetDue := true } }

/-- The row of DEV_RESET: any other CONFIRM gives BAD_ARG. -/
def devResetSpec : CmdSpec := CmdSpec.sync 0x0103 .only [(0x08, 4)] (fun _ c => decide (c.u 0x08 4 = 0x5E7A)) devResetRun

/-- DEV_RESET (R75, R150). -/
def execDevReset (t : Take) (s : State) : Host.Outcome State Fault Refusal := .next (takeState devResetSpec t s)

/-! ## The configuration image (R84, R152) -/

/-- The image in a slot. -/
def slotImage (s : State) (n : Nat) : Option Image := if n = 0 then s.store.slot0 else s.store.slot1

/-- The image in a slot verifies. -/
def slotOk (s : State) (n : Nat) : Bool := if n = 0 then s.store.ok0 else s.store.ok1

/-- Sets a slot and its verdict. -/
def putSlot (n : Nat) (i : Option Image) (ok : Bool) (s : State) : State :=
  if n = 0 then { s with store := { s.store with slot0 := i, ok0 := ok } } else { s with store := { s.store with slot1 := i, ok1 := ok } }

/-- Some load channel is PAIRED_SHARED or SOLO. -/
def anyShared (s : State) : Bool := (List.range 16).any (fun n => decide (rd s (LCH_CFG_WIRING n) = 1 ∨ rd s (LCH_CFG_WIRING n) = 2))

/-- Drive-enable as the role gives it (R413, R419); FAIL_N, Park, EXTEST and a node without an image keep it off (R27, R85, R90, R465). -/
def wantsDrive (s : State) : Bool :=
  (isActive s || (decide (role s = 1) && rdB s TWIN_STAT_IN_STEP && anyShared s)) && !s.twin.failN && !s.keys.extest &&
    decide (rd s SLEEP_STAT_PHASE ≠ 2) && !rdB s DEV_BOOTSTAT_UNCONFIGURED

/-- Drive-enable follows the role. -/
def syncDrive (s : State) : State := wrB s TWIN_STAT_DRIVE_EN (wantsDrive s)

/-- The content checks of R84: fields in range, claims of valid resources and uses that do not conflict. -/
def imageOk (i : Image) : Bool := i.inRange && claimsOk i.claims

/-- The pages that an image writes. -/
def imagePages (i : Image) : List Nat := (i.writes.map (fun w => w.1)).eraseDups

/-- A page commits its shadows; committed settings of the time unit act at once (R102, R308). -/
def commitAll (page : Nat) (s : State) : State :=
  let s := touch page (commitPage page s)
  if page = 0x030 then timeSettings s else s

/-- An image locks a page (R105). -/
def imageLock (page : Nat) (s : State) : State :=
  match pageInfo page with
  | none => s
  | some i => if i.lockable then wrB s (H_LOCKED page) true else s

/-- An image is written to the pages: its register writes in order, the shadows of the pages it writes committed, its claims, its locks. -/
def writeImage (i : Image) (s : State) : State :=
  let s := forEach i.writes (fun w s => applyWrite .firmware s.fuses.twinId w.1 w.2.1 w.2.2.toNat s) s
  let s := forEach (imagePages i) (fun p s => if shadowDirty s p then commitAll p s else s) s
  forEach i.locks imageLock (imageClaims i.claims s)

/-- The slot that is not in use. -/
def spareSlot (s : State) : Nat := if s.store.inUse = some 0 then 1 else 0

/-- The slot that CFG_IMAGE_LOAD names: 0xFF for the one not in use. -/
def loadSlot (s : State) (c : Cmd) : Nat := if c.u 0x09 1 = 0xFF then spareSlot s else c.u 0x09 1

/-- CFG_IMAGE_LOAD: the staged data is read; its checks run. -/
def cfgImageLoadRun (c : Cmd) (s : State) : Reply :=
  if s.store.inUse = some (loadSlot s c) then Reply.fail stWRONG_STATE s else Reply.accepted s

/-- The row of CFG_IMAGE_LOAD. -/
def cfgImageLoadSpec : CmdSpec :=
  { CmdSpec.sync 0x0200 .shared [(0x08, 2), (0x0C, 8)]
      (fun _ c => decide (c.u 0x08 1 ≤ 31) && decide (c.u 0x09 1 ≤ 1 ∨ c.u 0x09 1 = 0xFF) &&
        decide (1024 ≤ c.u 0x0C 4 ∧ c.u 0x0C 4 ≤ 524288 ∧ c.u 0x0C 4 % 64 = 0)) cfgImageLoadRun with
    async := true, hostOnly := true, obj := fun s c => .slot (loadSlot s c), bulk := fun c => some (c.u 0x08 1),
    input := fun c => some (c.u 0x0C 4, c.u 0x10 4) }

/-- CFG_IMAGE_LOAD (R149, R151, R509). -/
def execCfgImageLoad (t : Take) (s : State) : Host.Outcome State Fault Refusal := .next (takeState cfgImageLoadSpec t s)

/-- CFG_IMAGE_LOAD_DONE: the verdicts, in the order of R509; a good image is written to the slot. -/
def cfgImageLoadDone (slot : Nat) (v : ImageVerdict) (s : State) : State :=
  match findAccepted s 0x0200 (.slot slot) with
  | none => s
  | some a =>
    if v.sigGood = false then complete a stINTEGRITY [] s
    else if v.signerValid = false then complete a stKEY_INVALID [] s
    else if imageOk v.image = false then complete a stBAD_ARG [] s
    else complete a stOK (le 1 slot ++ zeros 3 ++ le 4 v.image.seq.toNat) (putSlot slot (some v.image) true s)

/-- CFG_IMAGE_LOAD_DONE of a slot. -/
def execCfgImageLoadDone (slot : Fin 2) (v : ImageVerdict) (s : State) : Host.Outcome State Fault Refusal :=
  .next (whenRun s (cfgImageLoadDone slot.val v))

/-- The other slot verifies with a higher sequence number. -/
def olderInUse (s : State) (n : Nat) : Bool :=
  match slotImage s n, slotImage s (1 - n) with
  | some a, some b => slotOk s (1 - n) && decide (a.seq.toNat < b.seq.toNat)
  | _, _ => false

/-- The image of a slot takes force: pages, claims, its train configuration, and the activation record (R152, R469). -/
def activateSlot (n : Nat) (i : Image) (s : State) : State :=
  let s := writeImage i { s with store := { s.store with inUse := some n } }
  let s := if rdB s DEV_BOOTSTAT_UNCONFIGURED then { s with line := { s.line with bypOn := true } } else s
  let s := syncDrive (wrB (wrB s DEV_BOOTSTAT_UNCONFIGURED false) DEV_BOOTSTAT_IMAGE_FALLBACK (olderInUse s n))
  let s := match i.tcfg with
    | none => s
    | some t => if tcfgSeq s < t.seq.toNat then adoptTcfg t s else s
  record s 0x0200 3 [BitVec.ofNat 32 i.seq.toNat]

/-- The image that an activation names: its slot holds it, verified, with the expected sequence number. -/
def expectedImage (s : State) (c : Cmd) : Option Image :=
  match slotImage s (c.u 0x08 1) with
  | none => none
  | some i => if slotOk s (c.u 0x08 1) ∧ i.seq.toNat = c.u 0x0C 4 then some i else none

/-- CFG_IMAGE_ACTIVATE: all or none in one step tick. -/
def cfgImageActivateRun (c : Cmd) (s : State) : Reply :=
  match expectedImage s c with
  | none => Reply.fail stWRONG_STATE s
  | some i =>
    match imageConflict s i.claims with
    | some k => Reply.ends stCONFLICT (holderBlock k) s
    | none => Reply.ends stOK (le 4 i.seq.toNat) (activateSlot (c.u 0x08 1) i s)

/-- The row of CFG_IMAGE_ACTIVATE: the pages that the image writes must not be locked. -/
def cfgImageActivateSpec : CmdSpec :=
  { CmdSpec.sync 0x0201 .shared [(0x08, 1), (0x0C, 4)] (fun _ c => decide (c.u 0x08 1 ≤ 1)) cfgImageActivateRun with
    async := true, obj := fun _ c => .slot (c.u 0x08 1),
    pages := fun s c => match expectedImage s c with | none => [] | some i => imagePages i }

/-- CFG_IMAGE_ACTIVATE (R152). -/
def execCfgImageActivate (t : Take) (s : State) : Host.Outcome State Fault Refusal := .next (takeState cfgImageActivateSpec t s)

/-- The pages that CFG_COMMIT names. -/
def commitList (c : Cmd) : List Nat := (List.range (c.u 0x08 1)).map (fun k => c.u (0x0A + 2 * k) 2)

/-- A page with shadows. -/
def hasShadowPage (page : Nat) : Bool := match pageInfo page with | none => false | some i => i.hasShadow

/-- CFG_COMMIT: the pages commit in one step tick. -/
def cfgCommitRun (c : Cmd) (s : State) : Reply := Reply.okWith (le 1 (c.u 0x08 1)) (forEach (commitList c) commitAll s)

/-- The row of CFG_COMMIT: a page without shadows gives BAD_ARG, a locked one WRONG_STATE. -/
def cfgCommitSpec : CmdSpec :=
  { CmdSpec.sync 0x0202 .shared [] (fun _ c => decide (1 ≤ c.u 0x08 1 ∧ c.u 0x08 1 ≤ 27) && (commitList c).all hasShadowPage) cfgCommitRun with
    used := fun c => [(0x08, 1), (0x0A, 2 * c.u 0x08 1)], pages := fun _ c => commitList c }

/-- CFG_COMMIT (R102, R152). -/
def execCfgCommit (t : Take) (s : State) : Host.Outcome State Fault Refusal := .next (takeState cfgCommitSpec t s)

/-- CFG_INFO: an empty slot has sequence 0; without an image in force the slot in use is 0xFF and the digest 0. -/
def cfgInfoRun (_ : Cmd) (s : State) : Reply :=
  let seqOf (n : Nat) : Nat := match slotImage s n with | none => 0 | some i => i.seq.toNat
  Reply.okWith (le 4 (seqOf 0) ++ le 4 (seqOf 1) ++ le 1 (s.store.inUse.getD 0xFF) ++
    le 1 ((if s.store.ok0 then 1 else 0) + (if s.store.ok1 then 2 else 0)) ++ zeros 6 ++
    padTo 32 (match imageInUse s with | none => [] | some i => i.digest)) s

/-- The row of CFG_INFO. -/
def cfgInfoSpec : CmdSpec := CmdSpec.sync 0x0203 .rd [] (fun _ _ => true) cfgInfoRun

/-- CFG_INFO (R151). -/
def execCfgInfo (t : Take) (s : State) : Host.Outcome State Fault Refusal := .next (takeState cfgInfoSpec t s)

end Sys2Proof.Machine
end

