-- ==== Sys2Proof/Machine/Twin.lean ====
section
/-! DEFINITION. The twin pair (16_twin_pair.md): roles, the journal and its blocks, divergence, fencing, drills and rejoin, and the TWIN commands
(R164). The fence arbitration itself stands in Boot.lean, because a boot can wait for it. -/

namespace Sys2Proof.Machine

/-! ## Roles (R419, R440) -/

/-- Takes a role: FAIL_N, drive-enable, what the CAN channels may drive and the drill schedule follow; every change raises ROLE. -/
def takeRole (r : Nat) (s : State) : State :=
  let s := wr { s with twin := { s.twin with failN := decide (r = 3 ∨ r = 4) } } TWIN_STAT_ROLE r
  let s := forEach [0, 1, 2, 3] (fun m s => syncXcvr m (syncGate m s)) (syncDrive s)
  raise (syncDrill s) 0x058 0

/-- The pair generation advances, and the configuration store takes it (R430). -/
def bumpGen (s : State) : State :=
  let g := min (rd s TWIN_GEN + 1) (2 ^ 32 - 1)
  wr { s with store := { s.store with gen := g } } TWIN_GEN g

/-- The node that drives after an increment starts a churn (R431). -/
def genChurn (s : State) : State := if isActive s then triggerChurn 4 s else s

/-- A drill that has a tick fixed is cancelled (R437). -/
def cancelDrill (s : State) : State :=
  if s.twin.drillAt.isNone then s
  else
    let s := wrB { s with twin := { s.twin with drillAt := none } } TWIN_STAT_DRILL_PEND false
    completeObj 0x0B01 .pair stWRONG_STATE [] s

/-- The node leaves step. -/
def outOfStep (s : State) : State := syncDrive (cancelDrill (wrB s TWIN_STAT_IN_STEP false))

/-- The node is fenced: no drive, FAIL_N asserted, nothing more of the journal is applied (R432, R440). -/
def beFenced (s : State) : State :=
  if role s ≠ 0 ∧ role s ≠ 1 ∧ role s ≠ 2 then s
  else
    let s := outOfStep (endRejoin stWRONG_STATE s)
    let s := takeRole 3 { s with twin := { s.twin with own := [], partner := none, fencing := false } }
    raise (inc s (TWIN_CNT 5)) 0x058 4

/-- The node asserts FAIL_N of its own accord (R17, R27, R440): drive-enable goes, and a node with a role is fenced. -/
def assertFailN (s : State) : State :=
  beFenced (wrB { s with twin := { s.twin with failN := true } } TWIN_STAT_DRIVE_EN false)

/-- FENCE_IN_N is sampled: asserted, the node does not fence and is fenced itself; otherwise it asserts FENCE_OUT_N and arbitrates (R427). -/
def fenceDecide (s : State) : State :=
  if rdB s TWIN_STAT_FENCE_IN then beFenced s
  else wrB { s with twin := { s.twin with fencing := true } } TWIN_STAT_FENCE_OUT true

/-- The partner is lost (R426). -/
def lostPartner (s : State) : State := if s.twin.fencing then s else fenceDecide (raise (outOfStep s) 0x058 2)

/-! ## The journal (R421 to R423) -/

/-- The commands of kind C that a joined node journals, by opcode; those of the TWIN group but DRILL_PERIOD act on the taking node only. The
transmissions of MB_OBJ_SET and MB_CANCEL are those of the node that drives. -/
def sharedSpecs : List CmdSpec :=
  [cfgImageLoadSpec, cfgImageActivateSpec, cfgCommitSpec, portSetSpec, fdbSetSpec, sepRuleSetSpec, streamSetSpec, gclLoadSpec, fwdBankCopySpec,
   churnStartSpec, churnSetLeadSpec, churnModeSpec, timeSelectSpec, cmpArmSpec, cmpDisarmSpec, pubSetSpec, subSetSpec, tlgEnableSpec, routeSetSpec,
   mbTimingSpec, mbObjSetSpec false, mbSchedLoadSpec, mbCancelSpec false, mbClashRearmSpec, sleepConsentSpec, sleepOrderSpec, sleepParkSpec,
   sleepTimesSpec, xcvrSetSpec, lchSetSpec, lchConfigSpec, lchProfileSpec, lchClearSpec, lchFwTestSpec, isnsSelectSpec, keyDeriveSpec,
   keyInvalidateSpec, resClaimSpec, resReleaseSpec]

/-- DRILL_PERIOD writes DRILL_HOURS (R439). -/
def drillPeriodRun (c : Cmd) (s : State) : Reply := Reply.ok (touch 0x058 (syncDrill (wr s TWIN_CTL_DRILL_HOURS (c.u 0x08 4))))

/-- The row of DRILL_PERIOD. -/
def drillPeriodSpec : CmdSpec :=
  { CmdSpec.sync 0x0B04 .shared [(0x08, 4)] (fun _ c => decide (c.u 0x08 4 ≤ 8760)) drillPeriodRun with pages := fun _ _ => [0x058] }

/-- The path that a journaled command came by on the partner. -/
def queuePath (q : Nat) : CmdPath := if q < 8 then .host (Fin.ofNat 8 q) else .manager (Fin.ofNat 4 (q - 8))

/-- A command that the partner took: its effect, without a response; where it is ACCEPTED this node runs it too, and posts no completion (R140). -/
def partnerCommand (d : List Byte) (s : State) : State :=
  let q := leAt d 3 1
  if q = 12 then (if s.remote.partnerIn.length < 16 then { s with remote := { s.remote with partnerIn := s.remote.partnerIn ++ [padTo 64 d] } } else s)
  else
    let c : Cmd := ⟨queuePath q, padTo 64 d, 0, !s.fuses.twinId, 0, 0⟩
    match (drillPeriodSpec :: sharedSpecs).find? (fun k => decide (k.opcode = c.opcode)) with
    | none => s
    | some k =>
      let r := k.run c (answersFalseWake k c s)
      if r.status = some stACCEPTED ∧ r.done.isNone then addAccepted { acceptedOf k c r.st with discard := true } r.st else r.st

/-- What a received telegram, frame, capture, trip or other input of the partner does here (R413, R421). -/
def partnerInput (i : JItem) (s : State) : State :=
  match i with
  | .command d => partnerCommand d.bytes s
  | .links up => { s with twin := { s.twin with partnerLinks := up } }
  | .telegram e t => decideTelegram e.val t s
  | .can m f => decideCan m.val f (if role s = 1 then journaledCan m.val f s else s)
  | .canEnd m r => match txEntry s m.val r.obj.val with | none => s | some o => txOutcome m.val r.obj.val o r s
  | .capture n e => recordCapture n.val e (if role s = 1 then journaledStamp n.val e s else s)
  | .trip n thermal => if thermal then thermalActs n.val s else tripActs n.val s
  | .sample a => olSamplesOf a (fun t n => decide (rd t (LCH_CFG_WIRING n) ≠ 2)) s
  | .shed n => shedActs n.val s
  | .hello w => rosterHello w s
  | .ack w => rosterAck w s
  | .learned m v p => learnAt p.val m v s
  | .drillAsk => { s with rsv := { s.rsv with drillAsked := true } }
  | .churn cause att => triggered cause.toNat (some att.val) s
  | _ => s

/-- One entry of a block: a register write and the data of a doorbell act now, on both twins; other entries acted on the twin that took them when it took
them (log entry 45). A failed inner check sets FAULT (R425). -/
def applyEntry (mine : Bool) (e : JEntry) (s : State) : State :=
  if e.crcGood = false then markFault s
  else
    let twin := if mine then s.fuses.twinId else !s.fuses.twinId
    match e.item with
    | .write i p off v ok => if ok then applyWrite i twin p.val off.val v.toNat s else regFault s 3 i p.val off.val
    | .pubData p d => applyPubData .host p.val d s
    | .objData m v d => applyObjData .host m.val v.toNat d mine s
    | i => if mine then s else partnerInput i s

/-- Place of an entry in its block (R421): by class; manager commands in ring order and then its writes; the active's host before the shadow's. -/
def entryRank (active : Bool) (e : JEntry) : Nat :=
  let ring := match e.item with | .command d => leAt d.bytes 3 1 % 16 | _ => 16
  e.cls.val * 64 + (if e.cls.val = 4 ∧ active = false then 32 else 0) + (if e.cls.val = 5 then 0 else ring)

/-- Inserts a ranked entry behind the entries of its rank. -/
def insertRanked {α : Type} (x : Nat × α) (l : List (Nat × α)) : List (Nat × α) :=
  match l with
  | [] => [x]
  | h :: t => if x.1 < h.1 then x :: h :: t else h :: insertRanked x t

/-- The entries of a block in order, each with whether it is this node's. -/
def blockEntries (s : State) (theirs : List JEntry) : List (Bool × JEntry) :=
  let tag (mine : Bool) (l : List JEntry) : List (Nat × (Bool × JEntry)) := l.map (fun e => (entryRank (mine == decide (role s = 0)) e, (mine, e)))
  let l := if role s = 0 then tag true s.twin.own ++ tag false theirs else tag false theirs ++ tag true s.twin.own
  (l.foldl (fun a x => insertRanked x a) []).map (fun x => x.2)

/-- Applies the entries of the running tick and empties both contributions. -/
def applyEntries (s : State) : State :=
  let l := blockEntries s (match s.twin.partner with | none => [] | some b => b.entries)
  let s := { s with twin := { s.twin with own := [], partner := none } }
  incBy (forEach l (fun x s => applyEntry x.1 x.2 s) s) TWIN_SEQ l.length

/-- The header of the own contribution leaves over T (R422); the state digest in it is a free value. -/
def sendContribution (s : State) : State :=
  let first := rd s TWIN_SEQ + (if role s = 0 then 0 else match s.twin.partner with | none => 0 | some b => b.entries.length)
  let flags := (if rdB s TWIN_STAT_LATE then 1 else 0) + (if bit s.twin.fault 0 then 2 else 0) + (if rdB s TWIN_STAT_DRILL_PEND then 4 else 0)
  nextFree (emit s (.overT 0x0422 (be 8 s.twin.tick ++ be 8 first ++ be 4 (rd s TWIN_GEN) ++ be 1 (role s) ++ be 1 flags ++
    be 2 s.twin.own.length ++ be 8 (Config.freeNat s.free) ++ be 8 (s.twin.drillAt.getD 0))))

/-- A twin fixes the earliest tick of a drill: the tick of the instant, at least 2 ticks away (R437). DRILL_TICK is the first safe point from then on. -/
def fixDrill (instant : Nat) (s : State) : State :=
  let d := s.twin.tick + max 2 ((instant - nowNs s + 999) / 1000)
  wrB { s with twin := { s.twin with drillAt := some d }, rsv := { s.rsv with drillAsked := false } } TWIN_STAT_DRILL_PEND true

/-- A divergence (R425): counted, DIVERGE with its record; the faulty twin asserts FAIL_N. -/
def diverge (k : Nat) (s : State) : State :=
  let s := outOfStep (wr (raiseRec (inc s (TWIN_CNT 2)) 0x058 3 0 none) TWIN_DIVG k)
  let mine := decide (s.twin.fault / 2 ≠ 0)
  let theirs := decide (s.twin.pfault ≠ 0)
  if (if mine = theirs then decide (role s = 1) else mine) then assertFailN s else s

/-- The tick's own contribution has left; its FAULT joins those of the last four. -/
def nextTick (s : State) : State :=
  { s with twin := { s.twin with tick := s.twin.tick + 1, fault := s.twin.fault * 2 % 32 } }

/-- The digests of a joined pair for the block of tick k are compared (R424, R425). -/
def compareDigests (k : Nat) (equal : Bool) (s : State) : State :=
  if equal then syncDrive (wrB s TWIN_STAT_IN_STEP true) else diverge k s

/-- BLOCK_APPLY (R423): a joined twin applies the block once it holds both contributions; a solo twin only counts the tick, and, while a rejoin runs, the
matching digests (R433). -/
def blockApply (equal : Bool) (s : State) : State :=
  let k := s.twin.tick
  if role s = 2 then
    let s := wr (nextTick s) TWIN_TICK k
    if s.twin.rejoinFrom.isSome then { s with twin := { s.twin with matched := if equal then s.twin.matched + 1 else 0 } } else s
  else if joined s = false ∨ s.twin.partner.isNone then s
  else
    let s := wr (applyEntries (nextTick (sendContribution s))) TWIN_TICK k
    let s := forEach [0, 1, 2, 3] (fun m s => expireFrames m (nowNs s / 1000) s) (expireStamps (nowNs s / 1000) s)
    let s := compareDigests k equal s
    if role s = 0 ∧ rdB s TWIN_STAT_IN_STEP ∧ s.rsv.drillAsked ∧ s.twin.drillAt.isNone ∧ s.twin.drillPhase = 0 then fixDrill (nowNs s) s else s

/-- BLOCK_APPLY. -/
def execBlockApply (digestsEqual : Bool) (s : State) : Host.Outcome State Fault Refusal := .next (whenRun s (blockApply digestsEqual))

/-- A valid contribution of the running tick: kept for its block. A drill that it announces is fixed here too (R437). -/
def takeContribution (b : JBlock) (s : State) : State :=
  let s := { s with twin := { s.twin with partner := some b, misses := 0, pfault := (s.twin.pfault * 2 + (if b.fault then 1 else 0)) % 16 } }
  match b.drill with
  | none => s
  | some d => if role s = 1 then wrB { s with twin := { s.twin with drillAt := some d.toNat } } TWIN_STAT_DRILL_PEND true else s

/-- A contribution clears LATE, and then goes by its generation (R426, R430). -/
def contribution (b : JBlock) (s : State) : State :=
  let s := wrB s TWIN_STAT_LATE false
  if b.gen.toNat < rd s TWIN_GEN then inc s (TWIN_CNT 6)
  else if rd s TWIN_GEN < b.gen.toNat then beFenced s
  else takeContribution b s

/-- The link states in a contribution. -/
def blockLinks (b : JBlock) (s : State) : State :=
  forEach b.entries (fun e s => match e.item with | .links up => { s with twin := { s.twin with partnerLinks := up } } | _ => s) s

/-- JOURNAL_BLOCK_RX (R422): a copy on a lane that is up and that fails its check counts; without a good one nothing has arrived. A fenced node takes only link states (R432). The
report of a fenced partner is no contribution: it gives its role, and while a rejoin runs that the joiner still contributes (R433). -/
def journalBlockRx (b : JBlock) (s : State) : State :=
  let up0 := rdB s TWIN_STAT_LANE0_UP
  let up1 := rdB s TWIN_STAT_LANE1_UP
  let s := if up0 && !b.lane0Good then inc s (TWIN_CNT 1) else s
  let s := if up1 && !b.lane1Good then inc s (TWIN_CNT 1) else s
  if (up0 && b.lane0Good) = false ∧ (up1 && b.lane1Good) = false then s
  else if tUp s = false then s
  else
    let s := wr s TWIN_STAT_PARTNER_ROLE b.role.val
    if isFenced s then blockLinks b s
    else if b.role.val = 3 ∨ b.role.val = 4 then { blockLinks b s with twin := { (blockLinks b s).twin with misses := 0 } }
    else if joined s then contribution b s
    else if role s = 2 then
      if rd s TWIN_GEN < b.gen.toNat then beFenced s
      else endRejoin stWRONG_STATE (if b.gen.toNat < rd s TWIN_GEN then inc s (TWIN_CNT 6) else s)
    else s

/-- JOURNAL_BLOCK_RX. -/
def execJournalBlockRx (b : JBlock) (s : State) : Host.Outcome State Fault Refusal := .next (whenRun s (journalBlockRx b))

/-! ## Losing the partner (R426) -/

/-- Misses in a row after which the partner is lost: 2 on the active, 3 on the shadow. -/
def missLimit (s : State) : Nat := if role s = 0 then 2 else 3

/-- PARTNER_MISS: a tick boundary without a valid contribution. While a rejoin runs, three in a row end it (R433). -/
def partnerMiss (s : State) : State :=
  if joined s = false ∧ s.twin.rejoinFrom.isNone then s
  else
    let s := inc { s with twin := { s.twin with misses := s.twin.misses + 1 } } (TWIN_CNT 0)
    if joined s then (if missLimit s ≤ s.twin.misses then lostPartner s else s)
    else if 3 ≤ s.twin.misses then endRejoin stWRONG_STATE s else s

/-- PARTNER_MISS. -/
def execPartnerMiss (s : State) : Host.Outcome State Fault Refusal := .next (whenRun s partnerMiss)

/-- PFAIL_N_ASSERT: seen at a tick boundary; a joined twin has lost its partner. -/
def pfailAssert (s : State) : State := let s := wrB s TWIN_STAT_PFAIL_IN true; if joined s then lostPartner s else s

/-- PFAIL_N_ASSERT. -/
def execPfailNAssert (s : State) : Host.Outcome State Fault Refusal := .next (whenRun s pfailAssert)

/-- CONTRIBUTION_LATE: the node has missed a contribution deadline of its own; it releases no control traffic (R426). -/
def contributionLate (s : State) : State := if joined s then wrB s TWIN_STAT_LATE true else s

/-- CONTRIBUTION_LATE. -/
def execContributionLate (s : State) : Host.Outcome State Fault Refusal := .next (whenRun s contributionLate)

/-- FENCE_IN_ASSERT: FENCE_IN_N has been asserted for 2.5 µs; the line die holds its outputs, and the node is fenced (R428, R440). -/
def fenceInAssert (s : State) : State := beFenced (wrB (wrB s TWIN_STAT_FENCE_IN true) TWIN_STAT_FENCE_EFF true)

/-- FENCE_IN_ASSERT. -/
def execFenceInAssert (s : State) : Host.Outcome State Fault Refusal := .next (whenRun s fenceInAssert)

/-- FENCE_IN_RELEASE: at once (R428). -/
def execFenceInRelease (s : State) : Host.Outcome State Fault Refusal :=
  .next (whenRun s (fun s => wrB (wrB s TWIN_STAT_FENCE_IN false) TWIN_STAT_FENCE_EFF false))

/-! ## The swap drill (R436 to R439) -/

/-- A tick boundary at which a drill can run (R436). -/
def drillPoint (s : State) : Bool :=
  joined s && rdB s TWIN_STAT_IN_STEP && !rdB s TWIN_STAT_TRANSFER && decide (churnPhase s ≠ 3 ∧ churnPhase s ≠ 4) &&
    decide (rd s SLEEP_STAT_PHASE = 0) && (List.range 16).all (fun n => !rdB s (LCH_STAT_BUSY n) && !rdB s (LCH_STAT_INRUSH n))

/-- The channels that a drill verifies (R438): PAIRED_STANDBY, ON, with a current in the sample of the node that drives. -/
def drillChannels (s : State) : Nat :=
  (List.range 16).foldl (fun a n =>
    if decide ((rd s (LCH_CFG_WIRING n) = 0 ∨ rd s (LCH_CFG_WIRING n) = 3) ∧ rd s (LCH_STAT_STATE n) = 2) && (decide (role s = 1) || decide (olThreshold s n ≤ rd s (LCH_CUR_MA n)))
    then setBit a n else a) 0

/-- One swap of the roles: the new active's channels wait for bus idle, the old active keeps its drive-enable until the block of the next tick, the
generation advances, and the node that drives churns (R431, R437). -/
def swapRoles (s : State) : State :=
  let s := if role s = 1 then
      takeRole 0 (forEach [0, 1, 2, 3] (fun m s => setMbus m { mbusSt s m with gated := true } s) s)
    else
      let t := takeRole 1 (forEach [0, 1, 2, 3] (fun m s => setMbus m { mbusSt s m with gated := false } s) s)
      wr t TWIN_STAT_DRIVE_EN (rd s TWIN_STAT_DRIVE_EN)
  let s := wr s TWIN_STAT_PARTNER_ROLE (1 - role s)
  genChurn (inc (bumpGen { s with twin := { s.twin with swapTick := s.twin.tick } }) (TWIN_CNT 7))

/-- DRILL_TICK: tick D of a drill that is still fixed, at a safe point. -/
def drillTick (s : State) : State :=
  if s.twin.drillAt.isNone ∨ drillPoint s = false then s
  else
    let chk := BitVec.ofNat 16 (drillChannels s)
    swapRoles (wrB { s with twin := { s.twin with drillAt := none, drillPhase := 1, drillChk := chk } } TWIN_STAT_DRILL_PEND false)

/-- DRILL_TICK. -/
def execDrillTick (s : State) : Host.Outcome State Fault Refusal := .next (whenRun s drillTick)

/-- A repair that a drill allows is pending here. -/
def wantsDrill (s : State) : Bool := s.rsv.pend.any (fun r => decide (r.kind = 0 ∨ r.kind = 4 ∨ r.kind = 5))

/-- DRILL_VERIFY: the channels that failed swap the pair back, with DRILL_FAIL and a record of each; without any, DRILL_DONE. SWAP_DRILL completes with
the tick of the last swap and the generation in force (R438). A node that is shadow now and still holds a repair asks for the second drill (R485). -/
def drillVerify (failed : BitVec 16) (s : State) : State :=
  if s.twin.drillPhase = 0 then s
  else
    let bad := portsOf (failed &&& s.twin.drillChk).toNat 16
    let s := { s with twin := { s.twin with drillPhase := 0, lastDrill := nowNs s } }
    let s := if bad = [] then raise s 0x058 6
      else
        let s := if joined s then swapRoles s else s
        forEach bad (fun n s => recordEvent s 0x058 7 0 (some n)) (raise (inc s (TWIN_CNT 8)) 0x058 7)
    let s := completeObj 0x0B01 .pair stOK (le 8 s.twin.swapTick ++ le 4 (rd s TWIN_GEN)) (syncDrill s)
    if role s = 1 ∧ wantsDrill s then askDrill s else s

/-- DRILL_VERIFY of the channels that failed. -/
def execDrillVerify (failed : BitVec 16) (s : State) : Host.Outcome State Fault Refusal := .next (whenRun s (drillVerify failed))

/-- DRILL_DUE: the active starts the periodic drill at the first safe point (R439). -/
def drillDue (s : State) : State :=
  if role s = 0 ∧ rdB s TWIN_STAT_IN_STEP ∧ drillHours s ≠ 0 ∧ s.twin.drillAt.isNone then fixDrill (nowNs s) s else s

/-- DRILL_DUE. -/
def execDrillDue (s : State) : Host.Outcome State Fault Refusal := .next (whenRun s drillDue)

/-! ## State transfer (R433, R434) -/

/-- The key is that of a committed RW field of a journaled register. -/
def journaledField (page off k : Nat) : Bool := journaled page off && (partsAt page off).any (fun q => chkPart q && decide (q.fld.key = k))

/-- Registers of the machines that both twins run (R424): addressing and roster, churn, sleep, load channel states, comparators, gate lists, the
doorbell, queue and schedule registers of the CAN channels and their object flags. -/
def sharedMachine (page off : Nat) : Bool :=
  (decide (page = 0x000) && decide (0x080 ≤ off)) || (decide (page = 0x023) && decide (0x100 ≤ off ∧ off % 0x20 < 0x0C)) ||
  (decide (page = 0x028) && decide (0x048 ≤ off ∧ off < 0x080)) || (decide (page = 0x031) && decide (0x100 ≤ off ∧ off < 0x300)) ||
  (decide (page = 0x038) && decide (off = 0x040 ∨ off = 0x044)) || (decide (0x040 ≤ page ∧ page ≤ 0x043) && decide (0x06C ≤ off ∧ off < 0x100)) ||
  decide (0x044 ≤ page ∧ page ≤ 0x048) || (decide (page = 0x051) && decide (0x100 ≤ off ∧ (off % 0x20 = 0x0C ∨ off % 0x20 = 0x18)))

/-- Header fields that both twins hold: the enable request, LOCK and PAGE_CHK. -/
def sharedHeader (off : Nat) : Bool := decide (off = 0x008 ∨ off = 0x020 ∨ off = 0x02C)

/-- A register of the snapshot. -/
def sharedKey (k : Nat) : Bool :=
  let page := keyPage k
  let off := keyOff k
  !decide (page = 0x001 ∨ page = 0x002 ∨ page = 0x003 ∨ 0x1000 ≤ page) && (journaledField page off k || sharedMachine page off || sharedHeader off)

/-- Device memory of the snapshot: subscription slots, publication data, message object areas (R114). -/
def sharedAddr (a : Nat) : Bool := decide ((0x2000000 ≤ a ∧ a < 0x3500000) ∨ (0x3800000 ≤ a ∧ a < 0x3C00000))

/-- Cells of a table that a predicate on keys takes from theirs, and the rest from mine; keys rise. -/
def mergeCells {α : Type} (p : Nat → Bool) (mine theirs : List (Nat × α)) : List (Nat × α) :=
  (theirs.filter (fun c => p c.1)).foldl (fun m c => insertK m c.1 c.2) (mine.filter (fun c => !p c.1))

/-- The pages whose block a twin runs like its partner: all but the ports and those that the journal leaves out. -/
def sharedPage (p : Nat) : Bool := !decide (p = 0x001 ∨ p = 0x002 ∨ p = 0x003 ∨ (0x010 ≤ p ∧ p ≤ 0x01E))

/-- The snapshot of a state. -/
def takeSnapshot (s : State) : Snapshot :=
  { regs := s.regs.filter (fun (c : Nat × Nat) => sharedKey c.1), shadow := s.shadow, pages := s.pages.filter (fun (c : Nat × PageSt) => sharedPage c.1),
    mem := s.bar2.filter (fun (c : Host.Cell) => sharedAddr c.1), bank0 := s.fwd.bank0, bank1 := s.fwd.bank1, run := s.fwd.run, gates := s.fwd.gates,
    gateWait := s.fwd.gateWait, after := s.fwd.after, prevAmap := s.fwd.prevAmap, churn := s.churn, roster := s.roster, tcfg := s.tcfg, tlg := s.tlg,
    mbus := s.mbus, sleep := s.sleep, ch := s.load.ch, profiles := s.load.profiles, claims := s.claims, accepted := s.accepted,
    image := imageInUse s, storeTcfg := s.store.tcfg, curd := s.store.curd, curdDigest := s.store.curdDigest, slots := s.keys.slots,
    gen := rd s TWIN_GEN, seq := rd s TWIN_SEQ, tick := s.twin.tick }

/-- The joiner derives again the slots of a level that the snapshot lists as derived from a slot of its own (R434, R454). -/
def rederive (x : List (Nat × Slot)) (level : Nat) (s : State) : State :=
  forEach x (fun e s =>
    let v := e.2
    if v.valid ∧ v.level = level ∧ (e.1 = 4 ∨ e.1 = 5 ∨ 16 ≤ e.1) ∧ v.parent < 64 ∧ v.label ≠ [] ∧ (slotAt s v.parent).valid then
      setSlot e.1 { v with key := deriveKey (slotAt s v.parent).key v.usage v.level v.label } (invalidate e.1 s)
    else s) s

/-- The image of the snapshot in the joiner's own store, where its own differs or is missing. -/
def loadImage (x : Snapshot) (s : State) : State :=
  match x.image with
  | none => s
  | some i =>
    if imageInUse s = some i then s
    else
      let n := spareSlot s
      let s := putSlot n (some i) true s
      { s with store := { s.store with inUse := some n } }

/-- The forwarding state of the snapshot with the train entries of this node's own line (R207). -/
def loadForward (x : Snapshot) (s : State) : State :=
  let f := { s.fwd with bank0 := x.bank0, bank1 := x.bank1, run := x.run, gates := x.gates, gateWait := x.gateWait, after := x.after,
                        prevAmap := x.prevAmap }
  let s := { s with fwd := f }
  let s := match x.churn.curd with | none => s | some c => onBank1 (trainBank s c) (onBank0 (trainBank s c) s)
  syncStreams (syncUse s)

/-- What of the churn engine belongs to the node's own line stays. -/
def loadChurn (x : Snapshot) (s : State) : State :=
  { s with churn := { x.churn with surveys := s.churn.surveys, started := s.churn.started, lineEnd := s.churn.lineEnd, calledRx := s.churn.calledRx,
                                   answered := s.churn.answered, agrees := s.churn.agrees, owed := s.churn.owed, ttdpPeer := s.churn.ttdpPeer,
                                   relayOnly := s.churn.relayOnly } }

/-- The joiner loads the snapshot (R433, R434). Its own inputs, counters, ports and device keys stay. -/
def loadSnapshot (x : Snapshot) (s : State) : State :=
  let s := { s with regs := mergeCells sharedKey s.regs x.regs, shadow := x.shadow, pages := mergeCells sharedPage s.pages x.pages,
                    bar2 := x.mem.foldl (fun (m : List Host.Cell) (c : Host.Cell) => memWrite m c.1 c.2) (s.bar2.filter (fun (c : Host.Cell) => !sharedAddr c.1)) }
  let s := loadChurn x { s with
    roster := x.roster, tcfg := x.tcfg, tlg := x.tlg, claims := x.claims,
    mbus := x.mbus.map (fun (e : Nat × MbusSt) => (e.1, { e.2 with gated := false, rxMine := [], rxTheirs := [], cancels := [] })),
    sleep := { x.sleep with inputs := s.sleep.inputs, partnerInputs := x.sleep.inputs },
    load := { s.load with ch := x.ch, profiles := x.profiles },
    accepted := s.accepted ++ x.accepted.map (fun (a : Accepted) => { a with discard := true }),
    store := { s.store with tcfg := x.storeTcfg, curd := x.curd, curdDigest := x.curdDigest } }
  let s := forEach [1, 2, 3, 4] (rederive x.slots) (loadForward x (loadImage x s))
  syncCmdStat (wr (wr { s with twin := { s.twin with tick := x.tick } } TWIN_GEN x.gen) TWIN_SEQ x.seq)

/-- Tick J on the solo node: it becomes active, the fence ends, TWIN_REJOIN completes with the generation and the transfer time. -/
def rejoinSolo (from_ : Nat) (s : State) : State :=
  let s := wrB { s with twin := { s.twin with rejoinFrom := none, matched := 0, misses := 0, pfault := 0, lastDrill := nowNs s } } TWIN_STAT_TRANSFER false
  let s := wrB (wrB (wrB (bumpGen s) TWIN_STAT_FENCE_OUT false) TWIN_STAT_PFAIL_IN false) TWIN_STAT_IN_STEP true
  let s := genChurn (takeRole 0 (wr s TWIN_STAT_PARTNER_ROLE 1))
  let s := raise (inc s (TWIN_CNT 9)) 0x058 8
  completeObj 0x0B02 .pair stOK (le 4 (rd s TWIN_GEN) ++ le 4 ((nowNs s - from_) / 1000)) s

/-- Tick J on the joiner: it has loaded the snapshot and becomes shadow. -/
def rejoinJoiner (x : Snapshot) (s : State) : State :=
  let s := bumpGen (loadSnapshot x s)
  let s := { s with twin := { s.twin with own := [], partner := none, misses := 0, fault := 0, pfault := 0, lastDrill := nowNs s } }
  let s := wrB (wr (wrB s TWIN_STAT_IN_STEP true) TWIN_STAT_PARTNER_ROLE 0) TWIN_STAT_PFAIL_IN false
  raise (inc (takeRole 1 (wrB s DEV_BOOTSTAT_JOIN_WAIT false)) (TWIN_CNT 9)) 0x058 8

/-- REJOIN_TICK_J: the digests of 16 blocks in a row have matched (R433). -/
def rejoinTick (snap : Option Snapshot) (s : State) : State :=
  if role s = 2 then
    match s.twin.rejoinFrom with
    | none => s
    | some t => if 16 ≤ s.twin.matched then rejoinSolo t s else s
  else if isFenced s then (match snap with | none => s | some x => rejoinJoiner x s)
  else s

/-- REJOIN_TICK_J. -/
def execRejoinTickJ (snap : Option Snapshot) (s : State) : Host.Outcome State Fault Refusal := .next (whenRun s (rejoinTick snap))

/-- REJOIN_TIMEOUT: 50 ms after Step 1. -/
def rejoinTimeout (s : State) : State := if s.twin.rejoinFrom.isNone then s else endRejoin stTIMEOUT (inc s (TWIN_CNT 10))

/-- REJOIN_TIMEOUT. -/
def execRejoinTimeout (s : State) : Host.Outcome State Fault Refusal := .next (whenRun s rejoinTimeout)

/-! ## The TWIN commands, 0x0B (R164) -/

/-- TWIN_STATUS. -/
def twinStatusRun (_ : Cmd) (s : State) : Reply :=
  Reply.okWith (le 1 (role s) ++ le 1 (rd s TWIN_STAT_PARTNER_ROLE) ++ zeros 2 ++ le 4 (rd s TWIN_GEN) ++ le 8 (rd s TWIN_SEQ) ++ le 8 (rd s TWIN_DIVG)) s

/-- The row of TWIN_STATUS. -/
def twinStatusSpec : CmdSpec := CmdSpec.sync 0x0B00 .rd [] (fun _ _ => true) twinStatusRun

/-- TWIN_STATUS (R164). -/
def execTwinStatus (t : Take) (s : State) : Host.Outcome State Fault Refusal := .next (takeState twinStatusSpec t s)

/-- SWAP_DRILL: a pair joined in step fixes the tick. -/
def swapDrillRun (c : Cmd) (s : State) : Reply :=
  if role s = 0 ∧ rdB s TWIN_STAT_IN_STEP then Reply.accepted (fixDrill (c.u 0x10 8) s) else Reply.fail stWRONG_STATE s

/-- The row of SWAP_DRILL. -/
def swapDrillSpec : CmdSpec :=
  { CmdSpec.sync 0x0B01 .shared [(0x10, 8)] (fun _ _ => true) swapDrillRun with async := true, obj := fun _ _ => .pair }

/-- SWAP_DRILL (R437). -/
def execSwapDrill (t : Take) (s : State) : Host.Outcome State Fault Refusal := .next (takeState swapDrillSpec t s)

/-- TWIN_REJOIN on the solo node with a partner fenced or waiting and T up; fenceOk is the outcome of the fence-line test of Step 2. -/
def twinRejoinRun (fenceOk : Bool) (_ : Cmd) (s : State) : Reply :=
  if role s ≠ 2 ∨ (rd s TWIN_STAT_PARTNER_ROLE ≠ 3 ∧ rd s TWIN_STAT_PARTNER_ROLE ≠ 4) ∨ tUp s = false then Reply.fail stWRONG_STATE s
  else if fenceOk = false then
    Reply.ends stWRONG_STATE [] (raise (inc (wrB s TWIN_STAT_FENCE_LINE true) (TWIN_CNT 10)) 0x058 10)
  else
    let s := wrB (wrB s TWIN_STAT_FENCE_LINE false) TWIN_STAT_TRANSFER true
    let s := { s with twin := { s.twin with rejoinFrom := some (nowNs s), matched := 0, misses := 0 } }
    Reply.accepted (emit s (.snapshot (takeSnapshot s)))

/-- The row of TWIN_REJOIN. -/
def twinRejoinSpec (fenceOk : Bool) : CmdSpec :=
  { CmdSpec.sync 0x0B02 .shared [] (fun _ _ => true) (twinRejoinRun fenceOk) with async := true, obj := fun _ _ => .pair }

/-- TWIN_REJOIN (R433). -/
def execTwinRejoin (t : Take) (fenceOk : Bool) (s : State) : Host.Outcome State Fault Refusal := .next (takeState (twinRejoinSpec fenceOk) t s)

/-- TWIN_FENCE: the active fences its partner; a solo node has nothing to assert. -/
def twinFenceRun (_ : Cmd) (s : State) : Reply := Reply.ok (if role s = 0 ∧ s.twin.fencing = false then fenceDecide (outOfStep s) else s)

/-- The row of TWIN_FENCE. -/
def twinFenceSpec : CmdSpec := CmdSpec.sync 0x0B03 .shared [(0x08, 4)] (fun _ c => decide (c.u 0x08 4 = 0xFE7C)) twinFenceRun

/-- TWIN_FENCE (R440). -/
def execTwinFence (t : Take) (s : State) : Host.Outcome State Fault Refusal := .next (takeState twinFenceSpec t s)

/-- DRILL_PERIOD (R439). -/
def execDrillPeriod (t : Take) (s : State) : Host.Outcome State Fault Refusal := .next (takeState drillPeriodSpec t s)

end Sys2Proof.Machine
end

