-- ==== Sys2Proof/Machine/Boot.lean ====
section
/-! DEFINITION. Resets (R75 to R80), references (R67 to R73), boot (R81 to R86), the fence arbitration (R427), Park (R93), the internal link and the line die
(R17 to R19), lockstep, temperature, engine self-checks (R26 to R28, R498) and the PCIe endpoint's own resets (R79, R112). -/

namespace Sys2Proof.Machine

/-! ## Resets (R75, R76, R80) -/

/-- The cells of DEV_RSTCAUSE, which the park domain holds. -/
def causeCells (s : State) : Cells := s.regs.filter (fun c => decide (keyPage c.1 = 0x000 ∧ keyOff c.1 = 0x044))

/-- Sequence and position of the next record as the record die holds them: a new record that was not written is lost (R471, R476). -/
def nextRecord (s : State) : Nat × Nat :=
  if rd s DEV_BOOTSTAT_STEP < 5 then (s.store.recSeq, s.store.recPos)
  else match s.rcd.buffer.find? (fun e => !isUpdate s e.1 e.2) with
    | some (p, r) => (r.seq.toNat, p)
    | none => (rd s REC_SEQ, rd s REC_WPOS)

/-- A node reset: what R76 keeps, and everything else as after reset; the supplies of the load channels are where they were. MAINT ends (R448). -/
def nodeReset (s : State) : State :=
  let n := nextRecord s
  let wrapped := if rd s DEV_BOOTSTAT_STEP < 5 then s.store.recWrapped else s.rcd.wrapped
  { State.reset with
    pending := s.pending, out := s.out, free := s.free, regs := causeCells s, park := s.park,
    clk := { State.reset.clk with presentA := s.clk.presentA, presentB := s.clk.presentB },
    fuses := { s.fuses with lc := if s.fuses.lc = 3 then 2 else s.fuses.lc },
    store := { s.store with recSeq := n.1, recPos := n.2, recWrapped := wrapped },
    load := { State.reset.load with usable := s.load.usable, pgnd := s.load.pgnd },
    rcd := { State.reset.rcd with bank0 := s.rcd.bank0, bank1 := s.rcd.bank1, bad0 := s.rcd.bad0, bad1 := s.rcd.bad1, wrapped := wrapped } }

/-- A node reset with its cause: LINEFAIL where R18 or R19 was in force, REFHALT where R72 had stopped the clocks. -/
def resetBy (cause : Fld) (s : State) : State :=
  let s := wrB s cause true
  let s := if s.line.r18 ∨ s.line.r19 then wrB s DEV_RSTCAUSE_LINEFAIL true else s
  let s := if s.park.refHalt then wrB { s with park := { s.park with refHalt := false } } DEV_RSTCAUSE_REFHALT true else s
  nodeReset s

/-- The node die has power. -/
def powered (s : State) : Bool := decide (s.phase ≠ .off ∧ s.phase ≠ .park)

/-- POWER_ON: VPARK rises into range; the whole module is reset, and DEV_RSTCAUSE shows POR alone (R75, R80). -/
def execPowerOn (s : State) : Host.Outcome State Fault Refusal :=
  .next (if s.phase = .off then { nodeReset s with regs := [], park := State.reset.park } else s)

/-- VPARK_FALL: the park domain is cleared, and the node is off until the next power-on (R494). -/
def execVparkFall (s : State) : Host.Outcome State Fault Refusal :=
  .next { nodeReset s with regs := [], park := { State.reset.park with railEn := false }, phase := .off }

/-- RAIL_OUT_OF_RANGE: a rail reset while RAIL_EN is asserted (R494). -/
def execRailOutOfRange (s : State) : Host.Outcome State Fault Refusal :=
  .next (if powered s ∧ s.park.railEn then resetBy DEV_RSTCAUSE_RAIL s else s)

/-- RST_N_ASSERT: a node reset by the pin. -/
def execRstNAssert (s : State) : Host.Outcome State Fault Refusal := .next (if powered s then resetBy DEV_RSTCAUSE_PIN s else s)

/-- NODE_RESET_CMD_DELAY: 1 ms after the response of DEV_RESET (R75). -/
def execNodeResetCmdDelay (s : State) : Host.Outcome State Fault Refusal := .next (if s.clk.resetDue then resetBy DEV_RSTCAUSE_CMD s else s)

/-- TRST_N_ASSERT: the test logic only; EXTEST no longer drives the balls (R75, R465). -/
def execTrstNAssert (s : State) : Host.Outcome State Fault Refusal := .next { s with keys := { s.keys with extest := false } }

/-- EXTEST: drive-enable off and FAIL_N asserted while it drives the balls, where JTAG is open (R465). -/
def extest (s : State) : State := if jtagOpen s then assertFailN { s with keys := { s.keys with extest := true } } else s

/-- EXTEST. -/
def execExtest (s : State) : Host.Outcome State Fault Refusal := .next (whenRun s extest)

/-! ## The PCIe endpoint (R75, R79, R81, R112, R131) -/

/-- A path of the host. -/
def hostPath : CmdPath → Bool
  | .host _ => true
  | _ => false

/-- The endpoint and the bridge are reset: commands not yet taken are dropped, the responses and completion records of those taken are discarded, and the
MSI-X table returns to its reset values (log entry 46). -/
def pcieReset (s : State) : State :=
  let s := forEach (List.range 8) (fun n s => wr s (CMD_SQHEAD n) (rd s (CMD_SQTAIL n))) s
  let s := { s with accepted := s.accepted.map (fun a => if hostPath a.path then { a with discard := true } else a),
                    remote := { s.remote with marks := [] },
                    mbus := s.mbus.map (fun e => (e.1, { e.2 with cancels := e.2.cancels.filter (fun c => !hostPath c.2.path) })) }
  let s := forEach (List.range 16) (fun v s => wr (wr (wr (wrB s (BRG_MSIX_CTL_MASK v) true) (BRG_MSIX_ADDR v) 0) (BRG_MSIX_ADDRH v) 0) (BRG_MSIX_DATA v) 0) s
  raise (syncCmdStat (inc (wr s BRG_MSIX_PBA 0) BRG_LINK_RESETS)) 0x002 5

/-- The node serves the host at all. -/
def serving (s : State) : Bool := decide (s.phase = .running ∨ s.phase = .halted)

/-- The PCIe link goes to a state; going down is a reset of the endpoint (R75). -/
def pcieLink (up : Bool) (width rate : Nat) (s : State) : State :=
  let was := rdB s BRG_LINK_UP
  let s := wr (wr (wrB s BRG_LINK_UP up) BRG_LINK_WIDTH width) BRG_LINK_RATE rate
  let s := raise s 0x002 6
  if was && !up then pcieReset s else s

/-- PERST_N_ASSERT: also a hot reset; the link is down. -/
def perst (s : State) : State := raise (pcieReset (wr (wr (wrB s BRG_LINK_UP false) BRG_LINK_WIDTH 0) BRG_LINK_RATE 0)) 0x002 6

/-- PERST_N_ASSERT (R79). -/
def execPerstNAssert (s : State) : Host.Outcome State Fault Refusal := .next (onlyIf (serving s) perst s)

/-- FUNCTION_LEVEL_RESET: the scope of the PCIe row of R75; the link stays (R112). -/
def execFunctionLevelReset (s : State) : Host.Outcome State Fault Refusal := .next (onlyIf (serving s) pcieReset s)

/-- PCIE_LINK_CHANGE (R131). -/
def execPcieLinkChange (up : Bool) (width rate : Fin 16) (s : State) : Host.Outcome State Fault Refusal :=
  .next (onlyIf (serving s) (pcieLink up width.val rate.val) s)

/-- CONFIGURATION_REQUEST: completed once Step 5 has begun; before that, retry status. A boot is one command here, so a node still in reset answers as in
Steps 3 and 4 (log entry 47). -/
def configurationRequest (s : State) : State :=
  if serving s then emit s (.pcie 0 0) else if s.phase = .reset then emit s (.pcie 2 0) else s

/-- CONFIGURATION_REQUEST (R81). -/
def execConfigurationRequest (s : State) : Host.Outcome State Fault Refusal := .next (configurationRequest s)

/-! ## References (R67 to R73) -/

/-- REFA_OK or REFB_OK. -/
def refOk : RefClk → Fld
  | .a => DEV_CLKSTAT_REFA_OK
  | .b => DEV_CLKSTAT_REFB_OK

/-- A reference is present or not. -/
def setPresent (r : RefClk) (v : Bool) (s : State) : State :=
  match r with
  | .a => { s with clk := { s.clk with presentA := v } }
  | .b => { s with clk := { s.clk with presentB := v } }

/-- REF_DISAGREE, where both are present; its setting raises the event. -/
def setDisagree (v : Bool) (s : State) : State :=
  let new := v && s.clk.presentA && s.clk.presentB
  raiseIf (new && !rdB s DEV_CLKSTAT_REF_DISAGREE) 0x000 2 (wrB s DEV_CLKSTAT_REF_DISAGREE new)

/-- The clock monitor runs: from reset on, until the clocks stop. -/
def monitored (s : State) : Bool := decide (s.phase = .reset) || serving s

/-- The reference that drives the root PLL. -/
def refInUse (s : State) : RefClk := if rdB s DEV_CLKSTAT_REF_SEL then .b else .a

/-- The other reference. -/
def otherRef : RefClk → RefClk
  | .a => .b
  | .b => .a

/-- The PLL follows the lost reference again, since that one qualified before the other did: no failover (log entry 49). -/
def relock (s : State) : State := wrB { s with clk := { s.clk with lost := false } } DEV_CLKSTAT_HOLDOVER false

/-- The other reference can take over: qualified, and not a REFCLK_A that the ledger has retired (R68, R71). -/
def otherReady (s : State) : Bool :=
  let r := otherRef (refInUse s)
  rdB s (refOk r) && !(decide (r = .a) && decide (0 < ledgerCount s (fun e => decide (e.kind = 6))))

/-- A reference is qualified; disagree is the comparison with the other one. -/
def refQualify (r : RefClk) (disagree : Bool) (s : State) : State :=
  let s := setDisagree disagree (wrB (setPresent r true s) (refOk r) true)
  if serving s && s.clk.lost && decide (r = refInUse s) && !otherReady s then relock s else s

/-- REF_QUALIFY of a reference (R67). -/
def execRefQualify (r : RefClk) (disagree : Bool) (s : State) : Host.Outcome State Fault Refusal :=
  .next (onlyIf (monitored s) (refQualify r disagree) s)

/-- REF_SELECT_TIMEOUT: 200 µs of Step 1 without REFCLK_A qualified (R68). -/
def execRefSelectTimeout (s : State) : Host.Outcome State Fault Refusal :=
  .next (if s.phase = .reset ∧ rdB s DEV_CLKSTAT_REFA_OK = false then { s with clk := { s.clk with selB := true } } else s)

/-- REF_LOSS: the reference in use is lost; holdover at once (R71). -/
def refLoss (s : State) : State :=
  let r := refInUse s
  let s := wrB (setPresent r false s) (refOk r) false
  raise (wrB { setDisagree false s with clk := { s.clk with lost := true } } DEV_CLKSTAT_HOLDOVER true) 0x000 0

/-- REF_LOSS. -/
def execRefLoss (s : State) : Host.Outcome State Fault Refusal := .next (onlyIf (serving s && !s.clk.lost) refLoss s)

/-- REF_FAILOVER_DONE: the PLL runs on the other, qualified reference; counted and recorded (R71, R73). -/
def refFailover (s : State) : State :=
  let r := otherRef (refInUse s)
  let s := wrB (wrB s DEV_CLKSTAT_REF_SEL (decide (r = .b))) DEV_CLKSTAT_HOLDOVER false
  let bad := decide (r = .b) && (s.clk.aBad || !rdB s DEV_CLKSTAT_REFA_OK)
  raiseRec (incSat { s with clk := { s.clk with lost := false, aBad := bad } } DEV_CLKSTAT_FAILOVER_CNT) 0x000 1 0 none

/-- REF_FAILOVER_DONE. -/
def execRefFailoverDone (s : State) : Host.Outcome State Fault Refusal :=
  .next (onlyIf (serving s && s.clk.lost && otherReady s) refFailover s)

/-- The line die takes the node die as failed (R18): FAIL_N, transceivers to standby, BYP_N de-energized; the channels go off once 16 µs have passed since
the last frame. -/
def nodeDieFails (channelsOff : Bool) (s : State) : State :=
  let l := { s.line with r18 := true, bypOn := false, copyXcvr := [2, 2, 2, 2], copyOn := if channelsOff then 0 else s.line.copyOn }
  forEach [0, 1, 2, 3] syncXcvr (assertFailN { s with line := l })

/-- HOLDOVER_EXPIRY: no reference 10 ms after the loss: FAIL_N, a record, the sticky status, and the clocks stop; R18 applies (R72). -/
def holdoverExpiry (s : State) : State :=
  let s := recordEvent (nodeDieFails true s) 0x000 0 0 none
  { s with park := { s.park with refHalt := true }, phase := .stopped }

/-- HOLDOVER_EXPIRY. -/
def execHoldoverExpiry (s : State) : Host.Outcome State Fault Refusal :=
  .next (onlyIf (serving s && s.clk.lost && !otherReady s) holdoverExpiry s)

/-! ## The internal link and the line die (R17 to R19, R77) -/

/-- The channels whose stage is commanded on: STARTING or ON. -/
def commandedOn (s : State) : Nat :=
  (List.range 16).foldl (fun a n => if rd s (LCH_STAT_STATE (lchLead s n)) = 1 ∨ rd s (LCH_STAT_STATE (lchLead s n)) = 2 then setBit a n else a) 0

/-- INTERNAL_LINK_FRAME: a valid frame refreshes the commanded copy and carries the comparators' targets (R17, R318); a bad one counts. -/
def linkFrame (crcGood : Bool) (s : State) : State :=
  if crcGood = false then inc s (NODE_OVERLAP 4)
  else
    let xs := [0, 1, 2, 3].map (fun m => rd s (SLEEP_BUSCTL_XSTATE m))
    passTargets { s with line := { s.line with silent := false, copyOn := BitVec.ofNat 16 (commandedOn s), copyXcvr := xs } }

/-- INTERNAL_LINK_FRAME. -/
def execInternalLinkFrame (crcGood : Bool) (s : State) : Host.Outcome State Fault Refusal :=
  .next (onlyIf (decide (s.phase = .running) && !s.line.r18) (linkFrame crcGood) s)

/-- INTERNAL_LINK_TIMEOUT: the line die sees no valid frame for 16 µs (R18). -/
def execInternalLinkTimeout (s : State) : Host.Outcome State Fault Refusal :=
  .next (onlyIf (serving s || decide (s.phase = .stopped)) (fun s => nodeDieFails true { s with line := { s.line with silent := true } }) s)

/-- NODE_ALIVE_STOP: the node-alive line stops for 3 step ticks; the channels keep their state until the frames have stopped for 16 µs (R18). -/
def execNodeAliveStop (s : State) : Host.Outcome State Fault Refusal := .next (onlyIf (serving s || decide (s.phase = .stopped)) (nodeDieFails false) s)

/-- LINE_DIE_TIMEOUT: the node die sees no valid frame for 16 µs: the line die has failed; LINE_LOST with its record (R19). -/
def lineDieTimeout (s : State) : State :=
  if s.line.r19 then s else raiseRec (assertFailN { s with line := { s.line with r19 := true, bypOn := false } }) 0x000 5 0 none

/-- LINE_DIE_TIMEOUT. -/
def execLineDieTimeout (s : State) : Host.Outcome State Fault Refusal := .next (whenRun s lineDieTimeout)

/-- VHV_RETURN of a group while R18 or R19 is in force: the line die restarts with every output off and BYP_N de-energized (R77). -/
def vhvReturn (_g : Nat) (s : State) : State := raise { s with line := { s.line with copyOn := 0, bypOn := false } } 0x000 6

/-- VHV_RETURN. -/
def execVhvReturn (g : Fin 4) (s : State) : Host.Outcome State Fault Refusal := .next (onlyIf (serving s && (s.line.r18 || s.line.r19)) (vhvReturn g.val) s)

/-! ## Lockstep, temperature, engines (R26 to R28, R483, R498) -/

/-- The first core of a keeper pair. -/
def pairBase : CorePair → Nat
  | .keeper0 => 0
  | .keeper1 => 2
  | .safety => 0

/-- LOCKSTEP_MISMATCH of a pair: FAIL_N, drive-enable off. A keeper pair no longer churns; the core that its self-check finds is scheduled, else the node
writes a record (R27, R251, R483). -/
def lockstep (p : CorePair) (failed : Option (Fin 4)) (s : State) : State :=
  let s := assertFailN s
  if p = .safety then s
  else
    let s := { s with churn := { s.churn with relayOnly := true } }
    match failed with
    | some c => scheduleRepair ⟨1, c.val, c.val, 0, 0x11, true⟩ s
    | none => recordUnnamed (some (pairBase p)) s

/-- LOCKSTEP_MISMATCH. -/
def execLockstepMismatch (p : CorePair) (failed : Option (Fin 4)) (s : State) : Host.Outcome State Fault Refusal := .next (whenRun s (lockstep p failed))

/-- TEMP_HIGH: 110 °C crossed; the event with its record (R498). -/
def execTempHigh (s : State) : Host.Outcome State Fault Refusal := .next (whenRun s (fun s => raiseRec s 0x000 12 0 none))

/-- OVERTEMP_SHUTDOWN: 118 °C for 1 ms (R498). -/
def execOvertempShutdown (s : State) : Host.Outcome State Fault Refusal := .next (whenRun s assertFailN)

/-- ENGINE_SELF_CHECK_FAIL: a frame engine's streams are lost until its repair, which is scheduled; a keeper core is scheduled; an engine without a spare
is a divergence of this twin, and a survey engine takes no more part in churn on its port (R28, R30, R425, R483). -/
def engineFails (e : EngineId) (s : State) : State :=
  match e with
  | .frame n =>
    let s := { s with fwd := { s.fwd with failed := if s.fwd.failed.contains n.val then s.fwd.failed else s.fwd.failed ++ [n.val] } }
    scheduleRepair ⟨0, n.val, n.val, 0, 0x10, true⟩ s
  | .keeper c => scheduleRepair ⟨1, c.val, c.val, 0, 0x10, true⟩ s
  | .telegram _ => ownFault s
  | .survey p => ownFault { s with churn := { s.churn with dead := if s.churn.dead.contains p.val then s.churn.dead else s.churn.dead ++ [p.val] } }
where
  /-- The divergence of a twin whose own engine failed: reported and recorded; a joined twin is the faulty one. -/
  ownFault (s : State) : State :=
    let s := raiseRec (inc s (TWIN_CNT 2)) 0x058 3 0 none
    let s := wr s TWIN_DIVG (rd s TWIN_TICK)
    if joined s then assertFailN s else s

/-- ENGINE_SELF_CHECK_FAIL. -/
def execEngineSelfCheckFail (e : EngineId) (s : State) : Host.Outcome State Fault Refusal := .next (whenRun s (engineFails e))

/-! ## Park (R88, R90, R93) -/

/-- PARK_LATCH_CHECK: Step 4 of R90. The wake settings go to the park domain; a set latch resets the node with its rails kept; otherwise the relay closes
and the rails go off. -/
def parkLatchCheck (s : State) : State :=
  if rd s SLEEP_STAT_PHASE ≠ 2 then s
  else
    let s := { s with park := { s.park with wakeEn := BitVec.ofNat 8 (rd s SLEEP_WAKE_EN), tlFwd := BitVec.ofNat 8 (rd s SLEEP_WAKE_TL_FWD) } }
    if s.park.latch ≠ 0 then resetBy DEV_RSTCAUSE_PARK (wrB s DEV_RSTCAUSE_PARK_ABORT true)
    else { nodeReset s with park := { s.park with railEn := false }, phase := .park }

/-- PARK_LATCH_CHECK. -/
def execParkLatchCheck (s : State) : Host.Outcome State Fault Refusal := .next (whenRun s parkLatchCheck)

/-- RAIL_EN_REASSERT: 20 ms after the rails went off, with the latch set (R93). -/
def execRailEnReassert (s : State) : Host.Outcome State Fault Refusal :=
  .next (if s.phase = .park ∧ s.park.latch ≠ 0 then { wrB s DEV_RSTCAUSE_PARK true with park := { s.park with railEn := true }, phase := .reset } else s)

/-! ## Boot (R81 to R86) -/

/-- The reference that Step 1 locks to: none where the node stays in Step 1 (R68, R85). -/
def bootRef (b : BootInput) (s : State) : Option RefClk :=
  if 0 < ledgerCount s (fun e => decide (e.kind = 6)) then (if b.refB then some .b else none)
  else if s.clk.selB ∧ b.refB then some .b
  else if b.refA then some .a
  else if b.refB then some .b
  else none

/-- Step 1: the references, the clock domains. -/
def bootClocks (b : BootInput) (r : RefClk) (s : State) : State :=
  let s := setPresent .a b.refA (setPresent .b b.refB s)
  let s := wrB (wrB s DEV_CLKSTAT_REFA_OK b.refA) DEV_CLKSTAT_REFB_OK b.refB
  setDisagree b.disagree (wr (wrB s DEV_CLKSTAT_REF_SEL (decide (r = .b))) DEV_CLKSTAT_DOM_RUN 0xFF)

/-- Steps 2 to 4: the self-tests, the fuses with their map and ledger, the vault's first slots, the ROM measurement. -/
def bootFuses (b : BootInput) (s : State) : State :=
  let s := wrB (wrB (wrB s DEV_BOOTSTAT_LINE_DIE_FAIL (!b.lineDieOk)) DEV_BOOTSTAT_SELFTEST_FAIL (!b.selftestOk)) DEV_BOOTSTAT_MEASURE_FAIL (!b.romOk)
  let s := syncLc { s with fuses := { s.fuses with mapBad := !b.mapOk }, store := { s.store with recDieOk := b.recordDieOk } }
  let s := wrB (syncRsv s) DEV_CLKSTAT_REFB_LEDGER (decide (0 < ledgerCount s (fun e => decide (e.kind = 6))))
  let s := raiseIf (s.fuses.ledger.any (fun e => e.void.isSome)) 0x070 5 s
  wr (bootSlots b.pufOk s) DEV_BOOTSTAT_STEP 4

/-- A boot that ends halted (R85). -/
def bootHalts (b : BootInput) : Bool := !b.lineDieOk || !b.selftestOk || !b.romOk

/-- The halted node. -/
def bootHalt (b : BootInput) (s : State) : State :=
  let s := { s with phase := .halted, line := { s.line with r19 := !b.lineDieOk } }
  raiseIf (!b.lineDieOk) 0x000 5 s

/-- The line die's side of Step 5: isolated segments and brought-in spares as before the reset, the supplies, and what the self-test isolated (R404, R481). -/
def bootSegments (s : State) : State :=
  let s := forEach s.store.segs (fun x s => wrB (wrBit s (LCH_STAT_SEG_OK x.1) x.2 false) (LCH_STAT_DERATED x.1) true) s
  let s := forEach (s.fuses.ledger.filter (fun e => e.void.isNone && decide (e.kind = 5) && !bit e.flags 0))
    (fun e s => applyRepair ⟨5, e.inst, e.element, e.flags, e.cause, false⟩ s) s
  forEach (List.range 4) (fun g s => wrB s (LOAD_GRPSTAT_PRESENT g) (bit s.load.usable.toNat g)) s

/-- The recorder opens: position and sequence from the record die, the banks tried again, the boot record, and that of
an unusable protection map (R450, R471, R476, R477). -/
def bootRecorder (b : BootInput) (s : State) : State :=
  let s := wr (wr (wrB (syncBad s) REC_STAT_STICKY s.park.recSticky) REC_SEQ s.store.recSeq) REC_WPOS s.store.recPos
  let s := if b.bank0Ok && decide (s.rcd.bad0.length < 64) then s else bankFails 0 s.store.recPos s
  let s := if b.bank1Ok && decide (s.rcd.bad1.length < 64) then s else bankFails 1 s.store.recPos s
  let s := record s 0x0200 1 [BitVec.ofNat 32 (regWord s .firmware 0x000 0x044), BitVec.ofNat 32 (regWord s .firmware 0x000 0x048),
    BitVec.ofNat 32 (regWord s .firmware 0x000 0x040)]
  if rdB s KEY_LC_MAP_FAULT then recordUnnamed none s else s

/-- The slot that a boot uses: the higher sequence that verifies (R84). -/
def bootSlot (s : State) : Option Nat :=
  if slotOk s 0 && slotOk s 1 then (if olderInUse s 0 then some 1 else some 0)
  else if slotOk s 0 then some 0
  else if slotOk s 1 then some 1
  else none

/-- The other slot holds a higher sequence number, which did not verify. -/
def fellBack (s : State) (n : Nat) : Bool :=
  match slotImage s n, slotImage s (1 - n) with
  | some a, some c => !slotOk s (1 - n) && decide (a.seq.toNat < c.seq.toNat)
  | _, _ => false

/-- The train configuration in force from boot: the stored one, or the image's where it is newer. -/
def bootTcfg (i : Option Image) (s : State) : State :=
  let own := if s.store.recDieOk then s.store.tcfg else none
  let img := i.bind (fun x => x.tcfg)
  let best := match own, img with
    | some a, some c => if a.seq.toNat < c.seq.toNat then some c else some a
    | none, x => x
    | x, none => x
  takeVid (tcfgInForce { s with tcfg := { s.tcfg with pend := best } })

/-- An image is written to the pages in boot. -/
def bootImage (n : Nat) (i : Image) (s : State) : State := writeImage i { s with store := { s.store with inUse := some n } }

/-- The last committed curd comes back: its tables are those on which the node forwards until the first commit (R81). -/
def bootCurd (s : State) : State :=
  match s.store.curd with
  | none => s
  | some c =>
    let s := syncCurd { s with churn := { s.churn with curd := some c, digest := s.store.curdDigest } }
    syncUse (onBank1 (trainBank s c) (onBank0 (trainBank s c) s))

/-- Step 5 from the record die: the recorder, the image or UNCONFIGURED, the generation, the roster, the train configuration, the curd. -/
def bootStore (b : BootInput) (s : State) : State :=
  let s := bootRecorder b (bootSegments { s with store := { s.store with inUse := none } })
  let s := if b.recordDieOk then restoreRoster (wr s TWIN_GEN s.store.gen) else s
  if b.recordDieOk = false then wrB s DEV_BOOTSTAT_UNCONFIGURED true
  else match bootSlot s with
    | none => bootCurd (bootTcfg none (wrB s DEV_BOOTSTAT_UNCONFIGURED true))
    | some n =>
      match slotImage s n with
      | none => s
      | some i =>
        let s := bootCurd (bootTcfg (some i) (bootImage n i s))
        if fellBack s n then raise (wrB s DEV_BOOTSTAT_IMAGE_FALLBACK true) 0x000 4 else s

/-- A node whose record die failed takes the partner's image in Step 6 (R85). -/
def bootFromPartner (b : BootInput) (s : State) : State :=
  match b.recordDieOk, b.partner.bind (fun p => p.image) with
  | false, some i => bootTcfg (some i) (bootImage 0 i (wrB (putSlot 0 (some i) true s) DEV_BOOTSTAT_UNCONFIGURED false))
  | _, _ => s

/-- T trains on the lanes that came up. -/
def bootT (b : BootInput) (s : State) : State :=
  if b.lane0 = false ∧ b.lane1 = false then s
  else
    let s := portUp 14 0 (wrB (wrB s TWIN_STAT_LANE0_UP b.lane0) TWIN_STAT_LANE1_UP b.lane1)
    if b.lane0 && b.lane1 then s else raise (wr (wrB s (PORT_STATUS_LOCAL_FAULT 14) true) (PORT_STATUS_SPEED 14) 7) 0x01E 4

/-- The end of Step 8 (R81, R240, R388, R390): transceivers to normal, BOOT_DONE, the wake-up frames and the false-wake timer of a boot out of Park, and the
churn of a node without a backbone link. Only a node with a role that drives, or a shadow, has released FAIL_N by then. -/
def bootEnds (bootTime : Nat) (s : State) : State :=
  let s := forEach [0, 1, 2, 3] (fun m s => syncXcvr m (setMbus m { mbusSt s m with commanded := 0 } s)) s
  let s := raise (wr (wr s DEV_BOOTSTAT_STEP 8) DEV_BOOTSTAT_BOOT_TIME bootTime) 0x000 3
  let s := if rdB s DEV_RSTCAUSE_PARK then
      let s := if isActive s then forEach [0, 1, 2, 3] (fun m s => if rdB s (SLEEP_BUSCTL_WUP_EN m) then sendWup m s else s) s else s
      wr s SLEEP_STAT_FW_RUN (rd s SLEEP_CTL_FW_EN)
    else s
  if linkUp s 0 = false ∧ linkUp s 1 = false then triggerChurn 5 s else s

/-- The node waits for a rejoin (R83). -/
def joinWait (s : State) : State := takeRole 4 (wrB s DEV_BOOTSTAT_JOIN_WAIT true)

/-- Fencing in boot: the sample of Step 1 of R427, and FENCE_OUT_N; the arbitration follows. -/
def bootFence (b : BootInput) (s : State) : State :=
  if b.fenceIn then joinWait s else wrB { s with twin := { s.twin with fencing := true, atBoot := some b.bootTime.toNat } } TWIN_STAT_FENCE_OUT true

/-- The pair forms: twin 0 active, twin 1 shadow, the generation one above the higher of the two (R420). -/
def joinPair (p : PartnerInfo) (s : State) : State :=
  let g := min (max (rd s TWIN_GEN) p.gen.toNat + 1) (2 ^ 32 - 1)
  let s := wr { s with store := { s.store with gen := g }, twin := { s.twin with tick := 0, lastDrill := nowNs s } } TWIN_GEN g
  takeRole (twinNo s) (wr s TWIN_STAT_PARTNER_ROLE (1 - twinNo s))

/-- Step 6: the pair joins, or what R420 and R440 give in its place. A retired node takes no role (R449). -/
def bootPair (b : BootInput) (s : State) : State :=
  if s.fuses.lc = 4 then s
  else
    let s := wrB s TWIN_STAT_FENCE_IN b.fenceIn
    match (if b.lane0 || b.lane1 then b.partner else none) with
    | none => bootFence b s
    | some p =>
      let s := wr s TWIN_STAT_PARTNER_ROLE (match p.role with | none => 0xF | some r => r.val)
      if p.twinId = s.fuses.twinId then takeRole 2 (wrB (raise (wrB s TWIN_STAT_MISMATCH true) 0x058 11) DEV_BOOTSTAT_SOLO_BOOT true)
      else if p.role.isSome ∨ b.fenceIn then joinWait s
      else if p.inStep6 = false then bootFence b s
      else if p.romIssue.toNat ≠ s.fuses.romIssue ∨ b.fenceTestOk = false then
        let s := if b.fenceTestOk then raise (wrB s TWIN_STAT_MISMATCH true) 0x058 11 else raise (wrB s TWIN_STAT_FENCE_LINE true) 0x058 10
        if s.fuses.twinId then joinWait s else bootFence b s
      else joinPair p s

/-- Step 7: the ports that run train, and the relay opens; an unconfigured node keeps its ports down, and a retired one brings them up in their reset
modes (R81, R85, R449). -/
def bootPorts (b : BootInput) (s : State) : State :=
  if rdB s DEV_BOOTSTAT_UNCONFIGURED ∧ s.fuses.lc ≠ 4 then s
  else
    let ports := (List.range 14).map portPage
    let s := if s.fuses.lc = 4 then forEach ports (fun p s => enRequest p true s) s else s
    let s := forEach ports startDone { s with line := { s.line with bypOn := true } }
    let s := if b.b1Up then linkUpRow 0 0 s else s
    if b.b2Up then linkUpRow 1 0 s else s

/-- BOOT: Steps 1 to 8 in one command; Step 9 ends with the first commit (log entry 48). -/
def boot (b : BootInput) (s : State) : State :=
  match bootRef b s with
  | none => s
  | some r =>
    let s := bootFuses b (bootClocks b r { s with park := { s.park with armed := false }, clk := { s.clk with selB := false } })
    if bootHalts b then bootHalt b s
    else
      let s := bootStore b { s with phase := .running }
      let s := forEach b.badSegments (fun x s => if s.store.segs.contains (x.1.val, x.2.val) then s else segmentFail x.1.val x.2.val s) s
      let s := wr (bootPorts b (bootPair b (bootFromPartner b (bootT b s)))) DEV_BOOTSTAT_STEP 7
      if s.twin.fencing then s else bootEnds b.bootTime.toNat s

/-- BOOT, at reset release with the rails in range. -/
def execBoot (b : BootInput) (s : State) : Host.Outcome State Fault Refusal := .next (if s.phase = .reset ∧ s.park.railEn then boot b s else s)

/-! ## The fence arbitration (R427, R429, R430) -/

/-- The fence is won: the node becomes solo, and what its journal held of the running tick acts. -/
def winFence (s : State) : State :=
  let was := role s
  let boot := s.twin.atBoot
  let s := raise (inc { s with twin := { s.twin with fencing := false, atBoot := none } } (TWIN_CNT 4)) 0x058 5
  let s := if was = 0 ∨ was = 1 then applyEntries s else s
  let s := if was = 1 then
      raise (inc (forEach [0, 1, 2, 3] (fun m s => setMbus m { mbusSt s m with gated := true } s) { s with load := { s.load with takeover := true } })
        (TWIN_CNT 3)) 0x058 1
    else s
  let s := bumpGen (takeRole 2 s)
  match boot with
  | some t => bootEnds t (wrB s DEV_BOOTSTAT_SOLO_BOOT true)
  | none => genChurn s

/-- The fence is lost: the fenced role, or JOIN_WAIT in boot. -/
def loseFence (s : State) : State :=
  let boot := s.twin.atBoot
  let s := { s with twin := { s.twin with fencing := false, atBoot := none } }
  match boot with
  | some t => bootEnds t (joinWait s)
  | none => beFenced s

/-- FENCE_ARBITRATION: the second sample of FENCE_IN_N. In a tie twin 0 keeps its fence, and twin 1 releases it and loses. -/
def fenceArbitration (fenceIn : Bool) (s : State) : State :=
  if s.twin.fencing = false then s
  else
    let s := wrB s TWIN_STAT_FENCE_IN fenceIn
    if fenceIn ∧ s.fuses.twinId then loseFence (inc (wrB s TWIN_STAT_FENCE_OUT false) (TWIN_CNT 11)) else winFence s

/-- FENCE_ARBITRATION. -/
def execFenceArbitration (fenceIn : Bool) (s : State) : Host.Outcome State Fault Refusal := .next (whenRun s (fenceArbitration fenceIn))

end Sys2Proof.Machine
end

