-- ==== Sys2Proof/Machine/Dispatch.lean ====
section
/-! DEFINITION. One arm per command. -/

namespace Sys2Proof.Machine

/-- The effect of a command on everything but the queue. -/
def exec (i : Instr) (s : State) : Host.Outcome State Fault Refusal :=
  match i with
  | .powerOn => Sys2Proof.Machine.execPowerOn s
  | .railOutOfRange => Sys2Proof.Machine.execRailOutOfRange s
  | .vparkFall => Sys2Proof.Machine.execVparkFall s
  | .rstNAssert => Sys2Proof.Machine.execRstNAssert s
  | .nodeResetCmdDelay => Sys2Proof.Machine.execNodeResetCmdDelay s
  | .perstNAssert => Sys2Proof.Machine.execPerstNAssert s
  | .pcieLinkChange up width rate => Sys2Proof.Machine.execPcieLinkChange up width rate s
  | .trstNAssert => Sys2Proof.Machine.execTrstNAssert s
  | .boot b => Sys2Proof.Machine.execBoot b s
  | .refQualify r disagree => Sys2Proof.Machine.execRefQualify r disagree s
  | .refSelectTimeout => Sys2Proof.Machine.execRefSelectTimeout s
  | .refLoss => Sys2Proof.Machine.execRefLoss s
  | .refFailoverDone => Sys2Proof.Machine.execRefFailoverDone s
  | .holdoverExpiry => Sys2Proof.Machine.execHoldoverExpiry s
  | .vhvReturn g => Sys2Proof.Machine.execVhvReturn g s
  | .internalLinkFrame crcGood => Sys2Proof.Machine.execInternalLinkFrame crcGood s
  | .internalLinkTimeout => Sys2Proof.Machine.execInternalLinkTimeout s
  | .nodeAliveStop => Sys2Proof.Machine.execNodeAliveStop s
  | .lineDieTimeout => Sys2Proof.Machine.execLineDieTimeout s
  | .lockstepMismatch p failed => Sys2Proof.Machine.execLockstepMismatch p failed s
  | .tempHigh => Sys2Proof.Machine.execTempHigh s
  | .overtempShutdown => Sys2Proof.Machine.execOvertempShutdown s
  | .pageScrub => Sys2Proof.Machine.execPageScrub s
  | .parkCommandInstant => Sys2Proof.Machine.execParkCommandInstant s
  | .parkLatchCheck => Sys2Proof.Machine.execParkLatchCheck s
  | .wakeInPark src => Sys2Proof.Machine.execWakeInPark src s
  | .railEnReassert => Sys2Proof.Machine.execRailEnReassert s
  | .registerWrite w => Sys2Proof.Machine.execRegisterWrite w s
  | .registerReadLatch r => Sys2Proof.Machine.execRegisterReadLatch r s
  | .counterReadClear who p k => Sys2Proof.Machine.execCounterReadClear who p k s
  | .pageEnWrite who page en => Sys2Proof.Machine.execPageEnWrite who page en s
  | .blockStartComplete page => Sys2Proof.Machine.execBlockStartComplete page s
  | .blockStopComplete page => Sys2Proof.Machine.execBlockStopComplete page s
  | .blkRst who page => Sys2Proof.Machine.execBlkRst who page s
  | .lockWrite who page v => Sys2Proof.Machine.execLockWrite who page v s
  | .shadowCommit who page => Sys2Proof.Machine.execShadowCommit who page s
  | .shadowDiscard who page => Sys2Proof.Machine.execShadowDiscard who page s
  | .evPendClear who page v => Sys2Proof.Machine.execEvPendClear who page v s
  | .evEnWrite who page v => Sys2Proof.Machine.execEvEnWrite who page v s
  | .evRouteWrite who page v => Sys2Proof.Machine.execEvRouteWrite who page v s
  | .evcSwset who v => Sys2Proof.Machine.execEvcSwset who v s
  | .evcSwpendClear who v => Sys2Proof.Machine.execEvcSwpendClear who v s
  | .evcSwenWrite who r v => Sys2Proof.Machine.execEvcSwenWrite who r v s
  | .evcLmapWrite who slot v => Sys2Proof.Machine.execEvcLmapWrite who slot v s
  | .evcFaultClear who => Sys2Proof.Machine.execEvcFaultClear who s
  | .devRstcauseClear who v => Sys2Proof.Machine.execDevRstcauseClear who v s
  | .atomicOp a => Sys2Proof.Machine.execAtomicOp a s
  | .lockedRead => Sys2Proof.Machine.execLockedRead s
  | .brgSemAcquire who sem loc => Sys2Proof.Machine.execBrgSemAcquire who sem loc s
  | .brgSemRelease who sem => Sys2Proof.Machine.execBrgSemRelease who sem s
  | .semHoldTimeout sem => Sys2Proof.Machine.execSemHoldTimeout sem s
  | .atomicSemTimeout a => Sys2Proof.Machine.execAtomicSemTimeout a s
  | .brgRwinTgtWrite who a v => Sys2Proof.Machine.execBrgRwinTgtWrite who a v s
  | .remoteApertureWrite a page word v => Sys2Proof.Machine.execRemoteApertureWrite a page word v s
  | .remoteApertureRead a page word => Sys2Proof.Machine.execRemoteApertureRead a page word s
  | .remoteFrameSend a => Sys2Proof.Machine.execRemoteFrameSend a s
  | .remoteRetransmit seq => Sys2Proof.Machine.execRemoteRetransmit seq s
  | .remoteSendTimeout seq => Sys2Proof.Machine.execRemoteSendTimeout seq s
  | .remoteReadTimeout seq => Sys2Proof.Machine.execRemoteReadTimeout seq s
  | .writeAckRx f => Sys2Proof.Machine.execWriteAckRx f s
  | .readReplyRx f => Sys2Proof.Machine.execReadReplyRx f s
  | .remoteWriteRx f => Sys2Proof.Machine.execRemoteWriteRx f s
  | .remoteReadRx f => Sys2Proof.Machine.execRemoteReadRx f s
  | .remoteCommandRx f ring => Sys2Proof.Machine.execRemoteCommandRx f ring s
  | .remoteResponseRx f => Sys2Proof.Machine.execRemoteResponseRx f s
  | .remoteCompletionRx f a => Sys2Proof.Machine.execRemoteCompletionRx f a s
  | .brgFqheadWrite who v => Sys2Proof.Machine.execBrgFqheadWrite who v s
  | .brgRcdbDoorbell who a v => Sys2Proof.Machine.execBrgRcdbDoorbell who a v s
  | .brgRrheadWrite who a v => Sys2Proof.Machine.execBrgRrheadWrite who a v s
  | .cmdSqtailDoorbell who n v => Sys2Proof.Machine.execCmdSqtailDoorbell who n v s
  | .cmdRqheadWrite who n v => Sys2Proof.Machine.execCmdRqheadWrite who n v s
  | .cmdCrheadWrite who v => Sys2Proof.Machine.execCmdCrheadWrite who v s
  | .nop t => Sys2Proof.Machine.execNop t s
  | .devInfo t => Sys2Proof.Machine.execDevInfo t s
  | .devStatus t => Sys2Proof.Machine.execDevStatus t s
  | .devReset t => Sys2Proof.Machine.execDevReset t s
  | .cfgImageLoad t => Sys2Proof.Machine.execCfgImageLoad t s
  | .cfgImageLoadDone slot v => Sys2Proof.Machine.execCfgImageLoadDone slot v s
  | .cfgImageActivate t => Sys2Proof.Machine.execCfgImageActivate t s
  | .cfgCommit t => Sys2Proof.Machine.execCfgCommit t s
  | .cfgInfo t => Sys2Proof.Machine.execCfgInfo t s
  | .portSet t => Sys2Proof.Machine.execPortSet t s
  | .portSetDone p => Sys2Proof.Machine.execPortSetDone p s
  | .portStatus t => Sys2Proof.Machine.execPortStatus t s
  | .portCntSnap t => Sys2Proof.Machine.execPortCntSnap t s
  | .portMdio t phyData => Sys2Proof.Machine.execPortMdio t phyData s
  | .fdbSet t => Sys2Proof.Machine.execFdbSet t s
  | .sepRuleSet t => Sys2Proof.Machine.execSepRuleSet t s
  | .streamSet t => Sys2Proof.Machine.execStreamSet t s
  | .gclLoad t => Sys2Proof.Machine.execGclLoad t s
  | .gclTakesForce p => Sys2Proof.Machine.execGclTakesForce p s
  | .gateChange p => Sys2Proof.Machine.execGateChange p s
  | .fwdBankCopy t => Sys2Proof.Machine.execFwdBankCopy t s
  | .churnStart t => Sys2Proof.Machine.execChurnStart t s
  | .churnSetLead t => Sys2Proof.Machine.execChurnSetLead t s
  | .churnMode t => Sys2Proof.Machine.execChurnMode t s
  | .curdRead t => Sys2Proof.Machine.execCurdRead t s
  | .timeStatus t => Sys2Proof.Machine.execTimeStatus t s
  | .timeSelect t => Sys2Proof.Machine.execTimeSelect t s
  | .cmpArm t => Sys2Proof.Machine.execCmpArm t s
  | .cmpDisarm t => Sys2Proof.Machine.execCmpDisarm t s
  | .capRead t => Sys2Proof.Machine.execCapRead t s
  | .pubSet t => Sys2Proof.Machine.execPubSet t s
  | .subSet t => Sys2Proof.Machine.execSubSet t s
  | .tlgEnable t => Sys2Proof.Machine.execTlgEnable t s
  | .routeSet t => Sys2Proof.Machine.execRouteSet t s
  | .tlgStatus t => Sys2Proof.Machine.execTlgStatus t s
  | .mbTiming t => Sys2Proof.Machine.execMbTiming t s
  | .mbObjSet t sof => Sys2Proof.Machine.execMbObjSet t sof s
  | .mbSchedLoad t => Sys2Proof.Machine.execMbSchedLoad t s
  | .mbCancel t sof => Sys2Proof.Machine.execMbCancel t sof s
  | .mbClashRearm t => Sys2Proof.Machine.execMbClashRearm t s
  | .mbStatus t => Sys2Proof.Machine.execMbStatus t s
  | .sleepConsent t => Sys2Proof.Machine.execSleepConsent t s
  | .sleepOrder t => Sys2Proof.Machine.execSleepOrder t s
  | .sleepPark t => Sys2Proof.Machine.execSleepPark t s
  | .sleepTimes t => Sys2Proof.Machine.execSleepTimes t s
  | .xcvrSet t => Sys2Proof.Machine.execXcvrSet t s
  | .sleepStatus t => Sys2Proof.Machine.execSleepStatus t s
  | .lchSet t => Sys2Proof.Machine.execLchSet t s
  | .lchConfig t => Sys2Proof.Machine.execLchConfig t s
  | .lchProfile t => Sys2Proof.Machine.execLchProfile t s
  | .lchClear t => Sys2Proof.Machine.execLchClear t s
  | .lchFwTest t => Sys2Proof.Machine.execLchFwTest t s
  | .lchStatus t => Sys2Proof.Machine.execLchStatus t s
  | .isnsSelect t => Sys2Proof.Machine.execIsnsSelect t s
  | .twinStatus t => Sys2Proof.Machine.execTwinStatus t s
  | .swapDrill t => Sys2Proof.Machine.execSwapDrill t s
  | .twinRejoin t fenceOk => Sys2Proof.Machine.execTwinRejoin t fenceOk s
  | .twinFence t => Sys2Proof.Machine.execTwinFence t s
  | .drillPeriod t => Sys2Proof.Machine.execDrillPeriod t s
  | .keyDerive t => Sys2Proof.Machine.execKeyDerive t s
  | .keyInvalidate t => Sys2Proof.Machine.execKeyInvalidate t s
  | .keyStatus t => Sys2Proof.Machine.execKeyStatus t s
  | .lcAdvance t => Sys2Proof.Machine.execLcAdvance t s
  | .lcAdvanceDone v => Sys2Proof.Machine.execLcAdvanceDone v s
  | .attSign t => Sys2Proof.Machine.execAttSign t s
  | .attSignDone => Sys2Proof.Machine.execAttSignDone s
  | .attRead t => Sys2Proof.Machine.execAttRead t s
  | .recRead t => Sys2Proof.Machine.execRecRead t s
  | .recExport t => Sys2Proof.Machine.execRecExport t s
  | .recExportDone => Sys2Proof.Machine.execRecExportDone s
  | .recUser t => Sys2Proof.Machine.execRecUser t s
  | .recStatus t => Sys2Proof.Machine.execRecStatus t s
  | .rsvStatus t => Sys2Proof.Machine.execRsvStatus t s
  | .rsvLedger t => Sys2Proof.Machine.execRsvLedger t s
  | .rsvSchedule t => Sys2Proof.Machine.execRsvSchedule t s
  | .remoteSync t => Sys2Proof.Machine.execRemoteSync t s
  | .remoteSyncDone tag => Sys2Proof.Machine.execRemoteSyncDone tag s
  | .remoteStatus t => Sys2Proof.Machine.execRemoteStatus t s
  | .resClaim t => Sys2Proof.Machine.execResClaim t s
  | .resRelease t => Sys2Proof.Machine.execResRelease t s
  | .resQuery t => Sys2Proof.Machine.execResQuery t s
  | .linkUp p speed => Sys2Proof.Machine.execLinkUp p speed s
  | .linkDown p why => Sys2Proof.Machine.execLinkDown p why s
  | .phyPoll p data => Sys2Proof.Machine.execPhyPoll p data s
  | .tLaneLoss lane => Sys2Proof.Machine.execTLaneLoss lane s
  | .frameRx p f => Sys2Proof.Machine.execFrameRx p f s
  | .pauseRx p quanta => Sys2Proof.Machine.execPauseRx p quanta s
  | .pfcRx p vector quanta => Sys2Proof.Machine.execPfcRx p vector quanta s
  | .pauseTimerExpiry p prio => Sys2Proof.Machine.execPauseTimerExpiry p prio s
  | .flowControlXoff p prio => Sys2Proof.Machine.execFlowControlXoff p prio s
  | .flowControlRefresh p prio => Sys2Proof.Machine.execFlowControlRefresh p prio s
  | .flowControlXon p prio => Sys2Proof.Machine.execFlowControlXon p prio s
  | .verifyMpacketRx p respond => Sys2Proof.Machine.execVerifyMpacketRx p respond s
  | .verifyTimeout p => Sys2Proof.Machine.execVerifyTimeout p s
  | .fdbAgeExpiry mac vid => Sys2Proof.Machine.execFdbAgeExpiry mac vid s
  | .bankCopyDone => Sys2Proof.Machine.execBankCopyDone s
  | .macsecOldAnExpiry p => Sys2Proof.Machine.execMacsecOldAnExpiry p s
  | .recoveryReset h => Sys2Proof.Machine.execRecoveryReset h s
  | .latentTestEnd h => Sys2Proof.Machine.execLatentTestEnd h s
  | .fwdHqheadWrite who q v => Sys2Proof.Machine.execFwdHqheadWrite who q v s
  | .fwdHttailDoorbell who q v => Sys2Proof.Machine.execFwdHttailDoorbell who q v s
  | .hostTxTake q checkGood => Sys2Proof.Machine.execHostTxTake q checkGood s
  | .frerSelWrite who v => Sys2Proof.Machine.execFrerSelWrite who v s
  | .cplChange e closed linkFollows => Sys2Proof.Machine.execCplChange e closed linkFollows s
  | .callRx p h cause => Sys2Proof.Machine.execCallRx p h cause s
  | .noPeerTimeout p => Sys2Proof.Machine.execNoPeerTimeout p s
  | .churnBeat p => Sys2Proof.Machine.execChurnBeat p s
  | .surveyRx p h sv => Sys2Proof.Machine.execSurveyRx p h sv s
  | .partnerListRx l => Sys2Proof.Machine.execPartnerListRx l s
  | .agreeRx src h ag => Sys2Proof.Machine.execAgreeRx src h ag s
  | .commitRx src h cm => Sys2Proof.Machine.execCommitRx src h cm s
  | .attemptTimeout => Sys2Proof.Machine.execAttemptTimeout s
  | .commitInstant => Sys2Proof.Machine.execCommitInstant s
  | .splitRetryExpiry => Sys2Proof.Machine.execSplitRetryExpiry s
  | .ttdpHelloRx p fast => Sys2Proof.Machine.execTtdpHelloRx p fast s
  | .ttdpTopologyRx p => Sys2Proof.Machine.execTtdpTopologyRx p s
  | .ttdpCommit t => Sys2Proof.Machine.execTtdpCommit t s
  | .arpRequestRx p ip askMac askIp => Sys2Proof.Machine.execArpRequestRx p ip askMac askIp s
  | .tcfgSend => Sys2Proof.Machine.execTcfgSend s
  | .tcfgRx g sigGood => Sys2Proof.Machine.execTcfgRx g sigGood s
  | .tcfgSegmentTimeout => Sys2Proof.Machine.execTcfgSegmentTimeout s
  | .tcfgChurnDelay => Sys2Proof.Machine.execTcfgChurnDelay s
  | .keyChangeChurnDelay => Sys2Proof.Machine.execKeyChangeChurnDelay s
  | .workerHelloRx w => Sys2Proof.Machine.execWorkerHelloRx w s
  | .workerAckRx w => Sys2Proof.Machine.execWorkerAckRx w s
  | .assignRetry w => Sys2Proof.Machine.execAssignRetry w s
  | .rosterBeatTimeout w => Sys2Proof.Machine.execRosterBeatTimeout w s
  | .rosterHoldExpiry w => Sys2Proof.Machine.execRosterHoldExpiry w s
  | .syncRx d p m => Sys2Proof.Machine.execSyncRx d p m s
  | .announceRx d p a => Sys2Proof.Machine.execAnnounceRx d p a s
  | .syncInterval d announce => Sys2Proof.Machine.execSyncInterval d announce s
  | .pdelayExchange p ok delay => Sys2Proof.Machine.execPdelayExchange p ok delay s
  | .syncReceiptTimeout d => Sys2Proof.Machine.execSyncReceiptTimeout d s
  | .announceReceiptTimeout d next => Sys2Proof.Machine.execAnnounceReceiptTimeout d next s
  | .revertTimerExpiry => Sys2Proof.Machine.execRevertTimerExpiry s
  | .slewDone => Sys2Proof.Machine.execSlewDone s
  | .ppsEdge d inTime => Sys2Proof.Machine.execPpsEdge d inTime s
  | .timeGmSecWrite who v => Sys2Proof.Machine.execTimeGmSecWrite who v s
  | .twinSkewMeasure diff => Sys2Proof.Machine.execTwinSkewMeasure diff s
  | .cmpHeldArm c => Sys2Proof.Machine.execCmpHeldArm c s
  | .cmpFire c => Sys2Proof.Machine.execCmpFire c s
  | .captureEdge n e => Sys2Proof.Machine.execCaptureEdge n e s
  | .tlgPubdbWrite who v checkGood => Sys2Proof.Machine.execTlgPubdbWrite who v checkGood s
  | .tlgClaimWrite who n claim => Sys2Proof.Machine.execTlgClaimWrite who n claim s
  | .telegramRx e t => Sys2Proof.Machine.execTelegramRx e t s
  | .subscriptionTimeout n => Sys2Proof.Machine.execSubscriptionTimeout n s
  | .canFrameRx m f => Sys2Proof.Machine.execCanFrameRx m f s
  | .canTxEnd m r => Sys2Proof.Machine.execCanTxEnd m r s
  | .busOffRecoveryDone m => Sys2Proof.Machine.execBusOffRecoveryDone m s
  | .canIntegrated m => Sys2Proof.Machine.execCanIntegrated m s
  | .mbusTxdbDoorbell who m v checkGood => Sys2Proof.Machine.execMbusTxdbDoorbell who m v checkGood s
  | .mbusTxidWrite who m v => Sys2Proof.Machine.execMbusTxidWrite who m v s
  | .mbusRecoverWrite who m v => Sys2Proof.Machine.execMbusRecoverWrite who m v s
  | .mbusQheadWrite who m q v => Sys2Proof.Machine.execMbusQheadWrite who m q v s
  | .mbwFlagClear who m k v => Sys2Proof.Machine.execMbwFlagClear who m k v s
  | .schedWindowOpen m w => Sys2Proof.Machine.execSchedWindowOpen m w s
  | .schedWindowEnd m w onBus => Sys2Proof.Machine.execSchedWindowEnd m w onBus s
  | .txdDominantTimeout m => Sys2Proof.Machine.execTxdDominantTimeout m s
  | .busDominantTimeout m => Sys2Proof.Machine.execBusDominantTimeout m s
  | .xcvrOvertemp m => Sys2Proof.Machine.execXcvrOvertemp m s
  | .vcanLow => Sys2Proof.Machine.execVcanLow s
  | .canTakeoverUngate m => Sys2Proof.Machine.execCanTakeoverUngate m s
  | .canWake m => Sys2Proof.Machine.execCanWake m s
  | .tokenRx f => Sys2Proof.Machine.execTokenRx f s
  | .orderRx f => Sys2Proof.Machine.execOrderRx f s
  | .abortRx f => Sys2Proof.Machine.execAbortRx f s
  | .ringRound => Sys2Proof.Machine.execRingRound s
  | .roundReturn consent => Sys2Proof.Machine.execRoundReturn consent s
  | .roundLost => Sys2Proof.Machine.execRoundLost s
  | .awakeTimerExpiry => Sys2Proof.Machine.execAwakeTimerExpiry s
  | .sleepCommitInstant => Sys2Proof.Machine.execSleepCommitInstant s
  | .wakeRequest c => Sys2Proof.Machine.execWakeRequest c s
  | .falseWakeExpiry => Sys2Proof.Machine.execFalseWakeExpiry s
  | .tlPulseWrite who => Sys2Proof.Machine.execTlPulseWrite who s
  | .tlPulseEnd => Sys2Proof.Machine.execTlPulseEnd s
  | .busRingRound m => Sys2Proof.Machine.execBusRingRound m s
  | .busSleepEntry m => Sys2Proof.Machine.execBusSleepEntry m s
  | .busFalseWake m => Sys2Proof.Machine.execBusFalseWake m s
  | .lchCtlEnWrite who n v => Sys2Proof.Machine.execLchCtlEnWrite who n v s
  | .channelStartComplete n => Sys2Proof.Machine.execChannelStartComplete n s
  | .demagEnd n => Sys2Proof.Machine.execDemagEnd n s
  | .channelStopComplete n => Sys2Proof.Machine.execChannelStopComplete n s
  | .channelTrip n => Sys2Proof.Machine.execChannelTrip n s
  | .thermalShutdown n => Sys2Proof.Machine.execThermalShutdown n s
  | .retryDue n => Sys2Proof.Machine.execRetryDue n s
  | .inrushWindowEnd n => Sys2Proof.Machine.execInrushWindowEnd n s
  | .groupUnusable g why => Sys2Proof.Machine.execGroupUnusable g why s
  | .groupUsable g => Sys2Proof.Machine.execGroupUsable g s
  | .groupVoltageChange g band => Sys2Proof.Machine.execGroupVoltageChange g band s
  | .pgndLost => Sys2Proof.Machine.execPgndLost s
  | .pgndRestored => Sys2Proof.Machine.execPgndRestored s
  | .adcSample codes => Sys2Proof.Machine.execAdcSample codes s
  | .imbalance n beyond => Sys2Proof.Machine.execImbalance n beyond s
  | .segmentFail n seg => Sys2Proof.Machine.execSegmentFail n seg s
  | .fwTestComplete n absent demagUs => Sys2Proof.Machine.execFwTestComplete n absent demagUs s
  | .pwmPeriodStart n vg => Sys2Proof.Machine.execPwmPeriodStart n vg s
  | .retryCountReset n => Sys2Proof.Machine.execRetryCountReset n s
  | .takeoverTripEnd => Sys2Proof.Machine.execTakeoverTripEnd s
  | .budgetUpdate losses => Sys2Proof.Machine.execBudgetUpdate losses s
  | .journalBlockRx b => Sys2Proof.Machine.execJournalBlockRx b s
  | .blockApply digestsEqual => Sys2Proof.Machine.execBlockApply digestsEqual s
  | .partnerMiss => Sys2Proof.Machine.execPartnerMiss s
  | .pfailNAssert => Sys2Proof.Machine.execPfailNAssert s
  | .fenceArbitration fenceIn => Sys2Proof.Machine.execFenceArbitration fenceIn s
  | .fenceInAssert => Sys2Proof.Machine.execFenceInAssert s
  | .fenceInRelease => Sys2Proof.Machine.execFenceInRelease s
  | .drillDue => Sys2Proof.Machine.execDrillDue s
  | .drillTick => Sys2Proof.Machine.execDrillTick s
  | .drillVerify failed => Sys2Proof.Machine.execDrillVerify failed s
  | .rejoinTickJ snap => Sys2Proof.Machine.execRejoinTickJ snap s
  | .rejoinTimeout => Sys2Proof.Machine.execRejoinTimeout s
  | .maintExpiry => Sys2Proof.Machine.execMaintExpiry s
  | .keyreqRx r => Sys2Proof.Machine.execKeyreqRx r s
  | .keydistRx k => Sys2Proof.Machine.execKeydistRx k s
  | .keyreqResend => Sys2Proof.Machine.execKeyreqResend s
  | .tkrChurnDelay => Sys2Proof.Machine.execTkrChurnDelay s
  | .recordOccurrence source code payload => Sys2Proof.Machine.execRecordOccurrence source code payload s
  | .coalesceFlush => Sys2Proof.Machine.execCoalesceFlush s
  | .recordWrite w => Sys2Proof.Machine.execRecordWrite w s
  | .partnerRecordRx r => Sys2Proof.Machine.execPartnerRecordRx r s
  | .wearSample w => Sys2Proof.Machine.execWearSample w s
  | .reserveSafePoint drill good => Sys2Proof.Machine.execReserveSafePoint drill good s
  | .bar2Write addr data => Sys2Proof.Machine.execBar2Write addr data s
  | .configurationRequest => Sys2Proof.Machine.execConfigurationRequest s
  | .functionLevelReset => Sys2Proof.Machine.execFunctionLevelReset s
  | .selChange v => Sys2Proof.Machine.execSelChange v s
  | .hiBer p => Sys2Proof.Machine.execHiBer p s
  | .vcanInRange => Sys2Proof.Machine.execVcanInRange s
  | .xcvrThermalRecovery m => Sys2Proof.Machine.execXcvrThermalRecovery m s
  | .contributionLate => Sys2Proof.Machine.execContributionLate s
  | .engineSelfCheckFail e => Sys2Proof.Machine.execEngineSelfCheckFail e s
  | .ppsStop d => Sys2Proof.Machine.execPpsStop d s
  | .ttdpTimerExpiry k => Sys2Proof.Machine.execTtdpTimerExpiry k s
  | .extest => Sys2Proof.Machine.execExtest s

end Sys2Proof.Machine
end

