-- ==== Sys2Proof/Machine/Tick.lean ====
section
/-! DEFINITION. The passing of one step tick, which a step on an empty queue stands for (log entry 10). -/

namespace Sys2Proof.Machine

/-- The nanosecond counter after 250 TIME edges, one step tick: the accumulator advances by the increment in force at each 4 ns edge (R301). -/
def tickTime (t : TimeSt) : TimeSt :=
  let a := t.acc + 250 * t.incr
  { t with acc := a % 2 ^ 40, ns := (t.ns + a / 2 ^ 40) % (2 ^ 48 * 1000000000) }

/-- Trigger pulses whose width has passed end (R320). -/
def endPulses (t : TimeSt) : TimeSt :=
  { t with trig := BitVec.ofNat 8 ((t.trigEnd.filter (fun p => decide (p.2 ≤ t.ns))).foldl (fun b p => clrBit b p.1) t.trig.toNat),
           trigEnd := t.trigEnd.filter (fun p => decide (t.ns < p.2)) }

/-- One step tick of 1 µs on a node whose clocks run: the nanosecond counter advances, trigger pulses end, the free-running 80 MHz counters of
the four channels advance (R361), the wait of a released shared ball goes on (R46), and the powered hours count (R487). -/
def tick (s : State) : State :=
  if s.phase = .running ∨ s.phase = .halted then
    let s := { s with time := endPulses (tickTime s.time) }
    let s := forEach (List.range 5) (fun b s => wr s (NODE_BALL_WAIT b) (rd s (NODE_BALL_WAIT b) - 1)) s
    let s := forEach [0, 1, 2, 3] (fun m s => incBy s (MBUS_TS m) 80) s
    if rd s NODE_HOUR_US + 1 < 3600000000 then inc s NODE_HOUR_US
    else { wr s NODE_HOUR_US 0 with store := { s.store with hours := s.store.hours + 1 } }
  else s

end Sys2Proof.Machine
end

