-- ==== Sys2Proof/Safety.lean ====
section
/-! DEFINITION. What counts as a safe run, and the words in which claims speak of a command's effect. -/

namespace Sys2Proof

/-- k steps from s never stop. -/
def Safe (s : Machine.State) (k : Nat) : Prop := ∃ t, core.run k s = .next t

namespace Machine

/-- The command runs to a next state of which P holds. -/
def Completes (i : Instr) (s : State) (P : State → Prop) : Prop := ∃ t, exec i s = .next t ∧ P t

/-- A catalogue command is taken and passes every check of R135, R139, R142 and R148: the node serves commands, the path's head is c, a command of the
row k that can be taken now. -/
structure Taken (k : CmdSpec) (t : Take) (s : State) (c : Cmd) : Prop where
  serves : s.phase = .running ∨ s.phase = .halted
  head : headCmd s t.path = some c
  ready : readyCmd s c = true
  first : firstChecks t c = none
  row : c.opcode = k.opcode
  later : laterChecks k c s = none

/-- The state in which a taken command runs: it has left its path and entered the journal, and answered a false wake. -/
def startOf (k : CmdSpec) (t : Take) (c : Cmd) (s : State) : State := answersFalseWake k c (journalCmd c (popCmd t.path s))

/-- The command answers st with results res, posted on its path, on a state of which P holds. -/
def Answers (i : Instr) (s : State) (c : Cmd) (st : Nat) (res : List Byte) (P : State → Prop) : Prop :=
  ∃ u, exec i s = .next (respond c st res u) ∧ P u

/-- The command answers ACCEPTED and joins the outstanding commands, on a state of which P holds. -/
def Accepts (k : CmdSpec) (i : Instr) (s : State) (c : Cmd) (P : State → Prop) : Prop :=
  ∃ u, exec i s = .next (respond c stACCEPTED [] (addAccepted (acceptedOf k c u) u)) ∧ P u

/-- The row of the catalogue that a constructor stands for, with its take (R150 to R167). -/
def specOf : Instr → Option (CmdSpec × Take)
  | .nop t => some (nopSpec, t)
  | .devInfo t => some (devInfoSpec, t)
  | .devStatus t => some (devStatusSpec, t)
  | .devReset t => some (devResetSpec, t)
  | .cfgImageLoad t => some (cfgImageLoadSpec, t)
  | .cfgImageActivate t => some (cfgImageActivateSpec, t)
  | .cfgCommit t => some (cfgCommitSpec, t)
  | .cfgInfo t => some (cfgInfoSpec, t)
  | .portSet t => some (portSetSpec, t)
  | .portStatus t => some (portStatusSpec, t)
  | .portCntSnap t => some (portCntSnapSpec, t)
  | .portMdio t phyData => some (portMdioSpec phyData, t)
  | .fdbSet t => some (fdbSetSpec, t)
  | .sepRuleSet t => some (sepRuleSetSpec, t)
  | .streamSet t => some (streamSetSpec, t)
  | .gclLoad t => some (gclLoadSpec, t)
  | .fwdBankCopy t => some (fwdBankCopySpec, t)
  | .churnStart t => some (churnStartSpec, t)
  | .churnSetLead t => some (churnSetLeadSpec, t)
  | .churnMode t => some (churnModeSpec, t)
  | .curdRead t => some (curdReadSpec, t)
  | .timeStatus t => some (timeStatusSpec, t)
  | .timeSelect t => some (timeSelectSpec, t)
  | .cmpArm t => some (cmpArmSpec, t)
  | .cmpDisarm t => some (cmpDisarmSpec, t)
  | .capRead t => some (capReadSpec, t)
  | .pubSet t => some (pubSetSpec, t)
  | .subSet t => some (subSetSpec, t)
  | .tlgEnable t => some (tlgEnableSpec, t)
  | .routeSet t => some (routeSetSpec, t)
  | .tlgStatus t => some (tlgStatusSpec, t)
  | .mbTiming t => some (mbTimingSpec, t)
  | .mbObjSet t sof => some (mbObjSetSpec sof, t)
  | .mbSchedLoad t => some (mbSchedLoadSpec, t)
  | .mbCancel t sof => some (mbCancelSpec sof, t)
  | .mbClashRearm t => some (mbClashRearmSpec, t)
  | .mbStatus t => some (mbStatusSpec, t)
  | .sleepConsent t => some (sleepConsentSpec, t)
  | .sleepOrder t => some (sleepOrderSpec, t)
  | .sleepPark t => some (sleepParkSpec, t)
  | .sleepTimes t => some (sleepTimesSpec, t)
  | .xcvrSet t => some (xcvrSetSpec, t)
  | .sleepStatus t => some (sleepStatusSpec, t)
  | .lchSet t => some (lchSetSpec, t)
  | .lchConfig t => some (lchConfigSpec, t)
  | .lchProfile t => some (lchProfileSpec, t)
  | .lchClear t => some (lchClearSpec, t)
  | .lchFwTest t => some (lchFwTestSpec, t)
  | .lchStatus t => some (lchStatusSpec, t)
  | .isnsSelect t => some (isnsSelectSpec, t)
  | .twinStatus t => some (twinStatusSpec, t)
  | .swapDrill t => some (swapDrillSpec, t)
  | .twinRejoin t fenceOk => some (twinRejoinSpec fenceOk, t)
  | .twinFence t => some (twinFenceSpec, t)
  | .drillPeriod t => some (drillPeriodSpec, t)
  | .keyDerive t => some (keyDeriveSpec, t)
  | .keyInvalidate t => some (keyInvalidateSpec, t)
  | .keyStatus t => some (keyStatusSpec, t)
  | .lcAdvance t => some (lcAdvanceSpec, t)
  | .attSign t => some (attSignSpec, t)
  | .attRead t => some (attReadSpec, t)
  | .recRead t => some (recReadSpec, t)
  | .recExport t => some (recExportSpec, t)
  | .recUser t => some (recUserSpec, t)
  | .recStatus t => some (recStatusSpec, t)
  | .rsvStatus t => some (rsvStatusSpec, t)
  | .rsvLedger t => some (rsvLedgerSpec, t)
  | .rsvSchedule t => some (rsvScheduleSpec, t)
  | .remoteSync t => some (remoteSyncSpec, t)
  | .remoteStatus t => some (remoteStatusSpec, t)
  | .resClaim t => some (resClaimSpec, t)
  | .resRelease t => some (resReleaseSpec, t)
  | .resQuery t => some (resQuerySpec, t)
  | _ => none

/-- The registers of t read as those of s but for the fields listed. -/
def RegsBut (l : List Fld) (s t : State) : Prop := ∀ f : Fld, (∀ g ∈ l, f.key ≠ g.key) → rd t f = rd s f

/-- Outside the registers, t differs from s at most in the cores' event copies, the delivered vectors and IRQ balls, and what has left the node. -/
def UnitsSame (s t : State) : Prop := t = { s with regs := t.regs, events := t.events, vecs := t.vecs, irq := t.irq, out := t.out }

/-- The register fields that an event of a page writes: its pending bits, and a masked vector's (R108, R131). -/
def eventFields (page : Nat) : List Fld := [H_PEND page, BRG_MSIX_PBA]

/-- A 32-bit write reaches the register at once: the node serves the page, the map permits the initiator, the node is alone or the register is not
journaled, and no semaphore holds a write back (R85, R98, R101, R128). -/
structure WriteReaches (s : State) (i : Initiator) (page off : Nat) : Prop where
  serves : served s page = true
  permits : ∃ info, pageInfo page = some info ∧ writePermitted s i page off info.cls = true
  alone : (joined s && journaled page off) = false
  free : s.semWait = [] ∧ semGuards s 0 (page * 1024 + off / 4) = false

/-- A 32-bit write reaches the register and its page is not locked (R105). -/
structure WriteActs (s : State) (i : Initiator) (page off : Nat) : Prop extends WriteReaches s i page off where
  unlocked : pageLocked s page = false

/-- The messages of R111: everything that left since s includes a message on every unmasked vector that has an asserted source in t. -/
def Resends (s t : State) : Prop :=
  ∃ l, t.out = s.out ++ l ∧ ∀ v, v < 16 → bit (deliveries t).1 v = true → rdB s (BRG_MSIX_CTL_MASK v) = false →
    .msix v (rd s (BRG_MSIX_ADDR v) + 2 ^ 32 * rd s (BRG_MSIX_ADDRH v)) (rd s (BRG_MSIX_DATA v)) ∈ l

end Machine

end Sys2Proof
end

