-- ==== Sys2Proof/Certificates/Slice0/Obligations.lean ====
section
/-! DEFINITION. The statements for the provers. Each is one definition of a proposition; its docstring names the rules of spec/ that it formalises. -/

open Sys2Proof Sys2Proof.Machine

/-! ## Reset, clocks, boot (03_clocks_reset_boot.md, 01_node_architecture.md) -/

/-- A field of DEV_RSTCAUSE, which the park domain holds (R80). -/
def CauseField (f : Fld) : Prop := keyPage f.key = 0x000 ∧ keyOff f.key = 0x044

/-- What R76 says of a node reset: the record die and its store, the fuses with the ledger, and the park domain stay; every register returns to its reset
value; claims, outstanding commands and command queues are gone; the time unit starts again unsynchronized. DEV_RSTCAUSE only gains the bits listed. -/
structure NodeResetFrom (gains : List Fld) (s t : State) : Prop where
  phase : t.phase = .reset
  registers : ∀ f : Fld, ¬ CauseField f → rd t f = f.rst
  causes : ∀ f : Fld, CauseField f → (∀ g ∈ gains, f.key ≠ g.key) → rd t f = rd s f
  claims : t.claims = []
  commands : t.accepted = [] ∧ t.remote = State.reset.remote
  time : t.time = State.reset.time
  fuses : t.fuses.ledger = s.fuses.ledger ∧ t.fuses.twinId = s.fuses.twinId ∧ t.fuses.map = s.fuses.map
  mram : t.rcd.bank0 = s.rcd.bank0 ∧ t.rcd.bank1 = s.rcd.bank1 ∧ t.store.slot0 = s.store.slot0 ∧ t.store.slot1 = s.store.slot1 ∧ t.store.curd = s.store.curd
  park : t.park.latch = s.park.latch ∧ t.park.wakeEn = s.park.wakeEn ∧ t.park.recSticky = s.park.recSticky
  queue : t.pending = s.pending

/-- After R76, R79 to R81. RST_N, a rail out of range, the commanded reset and a Park entry that finds a wake set their own bits of DEV_RSTCAUSE; the first
three leave every other cause bit but LINEFAIL and REFHALT, every other register at its reset value, no claim and no command, and keep the ledger, the
fuses named, the record die and the park domain. PERST_N and a function-level reset drop the host commands not yet taken, discard the completions of the
accepted ones, count in BRG_LINK, and leave forwarding, load channels, pair, churn and claims. A PCIe link change shows in BRG_LINK and its events alone; a
configuration request completes on a node that runs or is halted, and gets the retry status in reset. -/
def Obligations.Resets : Prop :=
  (∀ s : State, s.phase ≠ .off → s.phase ≠ .park →
    Completes .rstNAssert s (fun t => rd t DEV_RSTCAUSE_PIN = 1 ∧ ((s.line.r18 = true ∨ s.line.r19 = true) → rd t DEV_RSTCAUSE_LINEFAIL = 1) ∧
      (s.park.refHalt = true → rd t DEV_RSTCAUSE_REFHALT = 1) ∧
      NodeResetFrom [DEV_RSTCAUSE_PIN, DEV_RSTCAUSE_LINEFAIL, DEV_RSTCAUSE_REFHALT] s t) ∧
    (s.park.railEn = true → Completes .railOutOfRange s (fun t => rd t DEV_RSTCAUSE_RAIL = 1 ∧
      NodeResetFrom [DEV_RSTCAUSE_RAIL, DEV_RSTCAUSE_LINEFAIL, DEV_RSTCAUSE_REFHALT] s t)) ∧
    (s.clk.resetDue = true → Completes .nodeResetCmdDelay s (fun t => rd t DEV_RSTCAUSE_CMD = 1 ∧
      NodeResetFrom [DEV_RSTCAUSE_CMD, DEV_RSTCAUSE_LINEFAIL, DEV_RSTCAUSE_REFHALT] s t)) ∧
    (s.phase = .running → rd s SLEEP_STAT_PHASE = 2 → s.park.latch ≠ 0 → Completes .parkLatchCheck s (fun t =>
      rd t DEV_RSTCAUSE_PARK = 1 ∧ rd t DEV_RSTCAUSE_PARK_ABORT = 1 ∧ t.park.railEn = s.park.railEn ∧ t.phase = .reset ∧ t.park.latch = s.park.latch))) ∧
  ((∀ s : State, s.phase = .running ∨ s.phase = .halted → ∀ i ∈ [Instr.perstNAssert, Instr.functionLevelReset], Completes i s (fun t =>
    (∀ n : Fin 8, rd t (CMD_SQHEAD n.val) = rd s (CMD_SQTAIL n.val) % 256) ∧ (∀ a ∈ t.accepted, ∀ n, a.path = .host n → a.discard = true) ∧
    t.accepted.length = s.accepted.length ∧ rd t BRG_LINK_RESETS = (rd s BRG_LINK_RESETS + 1) % 65536 ∧
    t.fwd = s.fwd ∧ t.load = s.load ∧ t.twin = s.twin ∧ t.churn = s.churn ∧ t.claims = s.claims)) ∧
  (∀ (s : State) (w r : Fin 16), s.phase = .running → Completes (.pcieLinkChange true w r) s (fun t =>
    rd t BRG_LINK_UP = 1 ∧ rd t BRG_LINK_WIDTH = w.val ∧ rd t BRG_LINK_RATE = r.val ∧
    RegsBut ([BRG_LINK_UP, BRG_LINK_WIDTH, BRG_LINK_RATE] ++ eventFields 0x002) s t ∧ UnitsSame s t)) ∧
  (∀ s : State, s.phase = .running ∨ s.phase = .halted → Completes .configurationRequest s (fun t => t = emit s (.pcie 0 0))) ∧
  (∀ s : State, s.phase = .reset → Completes .configurationRequest s (fun t => t = emit s (.pcie 2 0))))

/-- After R75, R80, R90, R93. Power-on resets the park domain and shows POR, with every register at its reset value and the ledger kept; VPARK falling
takes power and clears the wake latch; Step 4 of Park entry with a clear latch stores the wake enables, deasserts RAIL_EN and keeps the reset causes; with
the latch set, the park domain asserts RAIL_EN and PARK is the only register that can change. -/
def Obligations.ParkDomainPower : Prop :=
  (∀ s : State, s.phase = .off → Completes .powerOn s (fun t => t.phase = .reset ∧ t.park = State.reset.park ∧ rd t DEV_RSTCAUSE_POR = 1 ∧
    (∀ f : Fld, rd t f = f.rst) ∧ t.fuses.ledger = s.fuses.ledger)) ∧
  (∀ s : State, Completes .vparkFall s (fun t => t.phase = .off ∧ t.park.railEn = false ∧ t.park.latch = 0 ∧ t.rcd.bank0 = s.rcd.bank0)) ∧
  (∀ s : State, s.phase = .running → rd s SLEEP_STAT_PHASE = 2 → s.park.latch = 0 → Completes .parkLatchCheck s (fun t => t.phase = .park ∧
    t.park.railEn = false ∧ t.park.wakeEn = BitVec.ofNat 8 (rd s SLEEP_WAKE_EN) ∧ t.line.bypOn = false ∧
    (∀ f : Fld, CauseField f → rd t f = rd s f) ∧ t.rcd.bank0 = s.rcd.bank0)) ∧
  (∀ s : State, s.phase = .park → s.park.latch ≠ 0 → Completes .railEnReassert s (fun t => t.phase = .reset ∧ t.park.railEn = true ∧
    rd t DEV_RSTCAUSE_PARK = 1 ∧ t.park.latch = s.park.latch ∧ ∀ f : Fld, f.key ≠ DEV_RSTCAUSE_PARK.key → rd t f = rd s f))


/-- After R67 to R73. A qualified reference shows OK and present, and REF_DISAGREE follows the comparison where both are present; the 200 µs of Step 1
without REFCLK_A select REFCLK_B; the loss of the reference in use sets HOLDOVER, clears its OK and moves neither REF_SEL nor FAILOVER_CNT; the switch
clears HOLDOVER, turns REF_SEL and counts FAILOVER_CNT, which saturates at 65,535; the end of holdover without another reference stops the clocks with
FAIL_N, no drive-enable, and the line die as R18 has it. -/
def Obligations.ReferenceFailover : Prop :=
  (∀ (s : State) (r : RefClk) (d : Bool), monitored s = true → Completes (.refQualify r d) s (fun t => rd t (refOk r) = 1 ∧
    (match r with | .a => t.clk.presentA | .b => t.clk.presentB) = true ∧
    rd t DEV_CLKSTAT_REF_DISAGREE = (if d && t.clk.presentA && t.clk.presentB then 1 else 0) ∧
    (s.clk.lost = false → rd t DEV_CLKSTAT_HOLDOVER = rd s DEV_CLKSTAT_HOLDOVER) ∧
    RegsBut ([refOk r, DEV_CLKSTAT_REF_DISAGREE, DEV_CLKSTAT_HOLDOVER] ++ eventFields 0x000) s t)) ∧
  (∀ s : State, s.phase = .reset → rd s DEV_CLKSTAT_REFA_OK = 0 → Completes .refSelectTimeout s (fun t =>
    t = { s with clk := { s.clk with selB := true } })) ∧
  (∀ s : State, serving s = true → s.clk.lost = false → Completes .refLoss s (fun t => rd t DEV_CLKSTAT_HOLDOVER = 1 ∧ t.clk.lost = true ∧
    rd t (refOk (refInUse s)) = 0 ∧ rd t DEV_CLKSTAT_REF_SEL = rd s DEV_CLKSTAT_REF_SEL ∧
    rd t DEV_CLKSTAT_FAILOVER_CNT = rd s DEV_CLKSTAT_FAILOVER_CNT)) ∧
  (∀ s : State, serving s = true → s.clk.lost = true → otherReady s = true → Completes .refFailoverDone s (fun t => rd t DEV_CLKSTAT_HOLDOVER = 0 ∧
    t.clk.lost = false ∧ rd t DEV_CLKSTAT_REF_SEL = (if rd s DEV_CLKSTAT_REF_SEL = 0 then 1 else 0) ∧
    rd t DEV_CLKSTAT_FAILOVER_CNT = min (rd s DEV_CLKSTAT_FAILOVER_CNT + 1) 65535)) ∧
  (∀ s : State, serving s = true → s.clk.lost = true → otherReady s = false → Completes .holdoverExpiry s (fun t => t.phase = .stopped ∧
    t.park.refHalt = true ∧ t.line.r18 = true ∧ t.line.bypOn = false ∧ t.line.copyOn = 0 ∧ t.twin.failN = true ∧ rd t TWIN_STAT_DRIVE_EN = 0))

/-- After R17 to R19, R27, R28, R77, R465, R498. A good internal-link frame refreshes the commanded copies, a bad one counts in NODE_OVERLAP 4 (the model's
counter, log entry 44) and changes nothing else; 16 µs without a frame, or the node-alive line stopped, make the line die act as R18 says; the node die
without frames fails its line die; a VHV return while either failed leaves the outputs off and raises VHV_RETURN alone. A lockstep mismatch, the 118 °C
shutdown and EXTEST assert FAIL_N and take drive-enable away; TEMP_HIGH is an event and touches neither; TRST_N ends EXTEST alone; a failed frame engine is
listed and keeps role and FAIL_N; a failed survey engine is dead, and asserts FAIL_N on a node of the pair. -/
def Obligations.Failures : Prop :=
  ((∀ s : State, s.phase = .running → s.line.r18 = false → Completes (.internalLinkFrame true) s (fun t =>
    t.line.copyOn = BitVec.ofNat 16 (commandedOn s) ∧ t.line.copyXcvr = [0, 1, 2, 3].map (fun m => rd s (SLEEP_BUSCTL_XSTATE m)) ∧
    t.line.silent = false)) ∧
  (∀ s : State, s.phase = .running → s.line.r18 = false → Completes (.internalLinkFrame false) s (fun t => t = inc s (NODE_OVERLAP 4))) ∧
  (∀ s : State, serving s = true → Completes .internalLinkTimeout s (fun t => t.line.r18 = true ∧ t.line.silent = true ∧ t.line.bypOn = false ∧
    t.line.copyOn = 0 ∧ t.line.copyXcvr = [2, 2, 2, 2] ∧ t.twin.failN = true ∧ rd t TWIN_STAT_DRIVE_EN = 0)) ∧
  (∀ s : State, serving s = true → Completes .nodeAliveStop s (fun t => t.line.r18 = true ∧ t.line.bypOn = false ∧
    t.line.copyOn = s.line.copyOn ∧ t.line.copyXcvr = [2, 2, 2, 2] ∧ t.twin.failN = true)) ∧
  (∀ s : State, s.phase = .running → s.line.r19 = false → Completes .lineDieTimeout s (fun t => t.line.r19 = true ∧ t.line.bypOn = false ∧
    t.twin.failN = true ∧ rd t TWIN_STAT_DRIVE_EN = 0 ∧ rd t (H_PEND 0x000) / 32 % 2 = 1)) ∧
  (∀ (s : State) (g : Fin 4), serving s = true → (s.line.r18 = true ∨ s.line.r19 = true) → Completes (.vhvReturn g) s (fun t =>
    t.line.copyOn = 0 ∧ t.line.bypOn = false ∧ t.line.r18 = s.line.r18 ∧ t.line.r19 = s.line.r19 ∧ rd t (H_PEND 0x000) / 64 % 2 = 1 ∧
    RegsBut (eventFields 0x000) s t))) ∧
  ((∀ (s : State) (p : CorePair) (c : Option (Fin 4)), s.phase = .running → Completes (.lockstepMismatch p c) s (fun t => t.twin.failN = true ∧
    rd t TWIN_STAT_DRIVE_EN = 0 ∧ (role s ≤ 2 → role t = 3) ∧ (p ≠ .safety → t.churn.relayOnly = true))) ∧
  (∀ s : State, s.phase = .running → Completes .overtempShutdown s (fun t => t.twin.failN = true ∧ rd t TWIN_STAT_DRIVE_EN = 0 ∧ (role s ≤ 2 → role t = 3))) ∧
  (∀ s : State, s.phase = .running → jtagOpen s = true → Completes .extest s (fun t => t.keys.extest = true ∧ t.twin.failN = true ∧
    rd t TWIN_STAT_DRIVE_EN = 0)) ∧
  (∀ s : State, Completes .trstNAssert s (fun t => t = { s with keys := { s.keys with extest := false } })) ∧
  (∀ s : State, s.phase = .running → Completes .tempHigh s (fun t => rd t (H_PEND 0x000) / 4096 % 2 = 1 ∧ t.twin = s.twin ∧
    rd t TWIN_STAT_DRIVE_EN = rd s TWIN_STAT_DRIVE_EN)) ∧
  (∀ (s : State) (n : Fin 16), s.phase = .running → Completes (.engineSelfCheckFail (.frame n)) s (fun t => n.val ∈ t.fwd.failed ∧ t.twin.failN = s.twin.failN ∧
    role t = role s)) ∧
  (∀ (s : State) (p : Fin 2), s.phase = .running → Completes (.engineSelfCheckFail (.survey p)) s (fun t => p.val ∈ t.churn.dead ∧
    (role s ≤ 1 → t.twin.failN = true))))

/-- After R81, R85, R427, R429. A boot without a reference changes nothing; a failed self-test, line die or ROM digest halts the node after Step 4 with its
bit of DEV_BOOTSTAT, and R19 for the line die; a boot that finds none of these ends running. At the end of the fence arbitration, a node with twin ID 1
that sees its partner's fence is fenced and drops its own fence; a shadow that sees none becomes solo under the next generation and takes the load over. -/
def Obligations.BootAndFence : Prop :=
  (∀ (s : State) (b : BootInput), s.phase = .reset → s.park.railEn = true → bootRef b s = none → Completes (.boot b) s (fun t => t = s)) ∧
  (∀ (s : State) (b : BootInput), s.phase = .reset → s.park.railEn = true → bootRef b s ≠ none → bootHalts b = true → Completes (.boot b) s (fun t =>
    t.phase = .halted ∧ rd t DEV_BOOTSTAT_STEP = 4 ∧ rd t DEV_BOOTSTAT_SELFTEST_FAIL = (if b.selftestOk then 0 else 1) ∧
    rd t DEV_BOOTSTAT_MEASURE_FAIL = (if b.romOk then 0 else 1) ∧ rd t DEV_BOOTSTAT_LINE_DIE_FAIL = (if b.lineDieOk then 0 else 1) ∧
    t.line.bypOn = s.line.bypOn ∧ t.line.r19 = !b.lineDieOk)) ∧
  (∀ (s : State) (b : BootInput), s.phase = .reset → s.park.railEn = true → bootRef b s ≠ none → bootHalts b = false → Completes (.boot b) s (fun t =>
    t.phase = .running)) ∧
  (∀ s : State, s.phase = .running → s.twin.fencing = true → s.twin.atBoot = none → s.fuses.twinId = true → role s ≤ 2 →
    Completes (.fenceArbitration true) s (fun t => role t = 3 ∧ rd t TWIN_STAT_FENCE_OUT = 0 ∧ t.twin.failN = true ∧ rd t TWIN_STAT_DRIVE_EN = 0)) ∧
  (∀ s : State, s.phase = .running → s.twin.fencing = true → s.twin.atBoot = none → role s = 1 → rd s TWIN_GEN < 2 ^ 32 - 1 → s.twin.own = [] →
    s.twin.partner = none → Completes (.fenceArbitration false) s (fun t => role t = 2 ∧ rd t TWIN_GEN = rd s TWIN_GEN + 1 ∧ t.twin.fencing = false ∧
      t.load.takeover = true))

/-! ## Register pages and events (04_register_pages.md) -/

/-- The fields that a write to a page changes beside the register itself: the page check with its error flag (R106, R107). -/
def checkFields (page : Nat) : List Fld := [H_CHK page, H_CHK_ERR page]

/-- After R103. A permitted write of EN on a page that has one stores EN, starts an OFF block, stops an ON one, and is held by a block that is starting or
stopping; a start completes to ON, or to stopping where a 0 is held, and a stop to OFF, or to starting where a 1 is held, and then nothing is held (a frame
port only with a MODE that it supports). -/
def Obligations.EnableMachine : Prop :=
  (∀ (s : State) (i : Initiator) (page : Fin 4096) (info : PageInfo) (v : Bool), WriteActs s i page.val 0x008 → pageInfo page.val = some info →
    info.hasEn = true → Completes (.pageEnWrite i page v) s (fun t => rd t (H_EN page.val) = (if v then 1 else 0) ∧
      (pageSt t page.val).en = (match (pageSt s page.val).en with
        | .off => if v then .starting else .off | .starting => .starting | .on => if v then .on else .stopping | .stopping => .stopping) ∧
      (pageSt t page.val).held = (match (pageSt s page.val).en with
        | .starting => some v | .stopping => some v | _ => (pageSt s page.val).held))) ∧
  (∀ (s : State) (page : Fin 4096), s.phase = .running → (pageSt s page.val).en = .starting →
    (0x010 ≤ page.val ∧ page.val ≤ 0x01D → modeOk (page.val - 0x010) (rd s (PORT_MODE_MODE (page.val - 0x010))) = true) →
    Completes (.blockStartComplete page) s (fun t => (pageSt t page.val).held = none ∧
      (pageSt t page.val).en = (if (pageSt s page.val).held = some false then .stopping else .on))) ∧
  (∀ (s : State) (page : Fin 4096), s.phase = .running → (pageSt s page.val).en = .stopping →
    Completes (.blockStopComplete page) s (fun t => (pageSt t page.val).held = none ∧
      (pageSt t page.val).en = (if (pageSt s page.val).held = some true then .starting else .off)))

/-- After R102, R104, R105. A block reset takes the block through its stop, holds nothing, clears EN and the page's shadows and keeps the lock; COMMIT and
DISCARD leave no shadow of the page and every shadow of the others, and DISCARD changes no other register; the lock word locks, and changes no other
register; the two unlock words of one initiator unlock, a second word without a first of the same initiator does nothing. -/
def Obligations.LockShadowAndBlockReset : Prop :=
  (∀ (s : State) (i : Initiator) (page : Fin 4096), WriteActs s i page.val 0x008 → 4 ≤ page.val → Completes (.blkRst i page) s (fun t =>
    (pageSt t page.val).en = (if (pageSt s page.val).en = .off then .off else .stopping) ∧ (pageSt t page.val).held = none ∧
    rd t (H_EN page.val) = 0 ∧ rd t (H_LOCKED page.val) = rd s (H_LOCKED page.val) ∧ (∀ c ∈ t.shadow, keyPage c.1 ≠ page.val))) ∧
  (∀ (s : State) (i : Initiator) (page : Fin 4096) (info : PageInfo), WriteActs s i page.val 0x028 → pageInfo page.val = some info → info.hasShadow = true →
    Completes (.shadowCommit i page) s (fun t => (∀ c ∈ t.shadow, keyPage c.1 ≠ page.val) ∧
      t.shadow = s.shadow.filter (fun c => decide (keyPage c.1 ≠ page.val)) ∧
      (page.val ≠ 0x030 → ∀ f : Fld, (∀ c ∈ s.shadow, c.1 = f.key → keyPage c.1 ≠ page.val) → (∀ g ∈ checkFields page.val, f.key ≠ g.key) →
        rd t f = rd s f)) ∧
    Completes (.shadowDiscard i page) s (fun t => t.shadow = s.shadow.filter (fun c => decide (keyPage c.1 ≠ page.val)) ∧
      RegsBut (checkFields page.val) s t)) ∧
  (∀ (s : State) (i : Initiator) (page : Fin 4096) (info : PageInfo), WriteReaches s i page.val 0x020 → pageInfo page.val = some info →
    info.lockable = true →
    Completes (.lockWrite i page 0xB10C0100) s (fun t => rd t (H_LOCKED page.val) = 1 ∧ RegsBut [H_LOCKED page.val] s t) ∧
    Completes (.lockWrite i page 0x5EED0000) s (fun t => (pageSt t page.val).unlockBy = some i ∧ t.regs = s.regs) ∧
    ((pageSt s page.val).unlockBy = some i → Completes (.lockWrite i page 0xB10C0000) s (fun t => rd t (H_LOCKED page.val) = 0 ∧
      (pageSt t page.val).unlockBy = none ∧ RegsBut [H_LOCKED page.val] s t)) ∧
    ((pageSt s page.val).unlockBy ≠ some i → Completes (.lockWrite i page 0xB10C0000) s (fun t => t.regs = s.regs)))

/-- After R96, R98, R101, R105. A full aligned 32-bit write that no semaphore guards is applied where it is permitted and not journaled, is an entry of the
own contribution with its verdict on a joined pair, and is DENIED without permission; a 64-bit write is its low word and then its high word; a partial,
misaligned or odd-sized write is an access fault; on a locked page the writes of EN and COMMIT are lock faults; a fault shows its kind, initiator and page
and counts. -/
def Obligations.RegisterWritePaths : Prop :=
  (∀ (s : State) (w : WriteReq), s.phase = .running → w.full = true → w.size = 4 → w.off.val % 4 = 0 → s.semWait = [] →
    semGuards s 0 (w.page.val * 1024 + w.off.val / 4) = false → ∀ info, pageInfo w.page.val = some info →
    (isPubdb w.page.val w.off.val = false → isTxdb w.page.val w.off.val = false →
      (joined s && journaled w.page.val w.off.val) = false → writePermitted s w.init w.page.val w.off.val info.cls = true →
      Completes (.registerWrite w) s (fun t => t = applyWrite w.init s.fuses.twinId w.page.val w.off.val (w.value % 2 ^ 32) s)) ∧
    (isPubdb w.page.val w.off.val = false → isTxdb w.page.val w.off.val = false →
      (joined s && journaled w.page.val w.off.val) = true →
      Completes (.registerWrite w) s (fun t => t = addOwn ⟨writeClass w.init, .write w.init w.page w.off (BitVec.ofNat 32 w.value)
        (writePermitted s w.init w.page.val w.off.val info.cls), true⟩ s)) ∧
    ((joined s && journaled w.page.val w.off.val) = false → writePermitted s w.init w.page.val w.off.val info.cls = false →
      Completes (.registerWrite w) s (fun t => t = regFault s 3 w.init w.page.val w.off.val))) ∧
  (∀ (s : State) (w : WriteReq), s.phase = .running → w.full = true → w.size = 8 → w.off.val % 8 = 0 → Completes (.registerWrite w) s (fun t =>
    t = runWaits (writeWordOf true w.init w.page.val (w.off.val + 4) (w.value / 2 ^ 32 % 2 ^ 32)
      (writeWordOf true w.init w.page.val w.off.val (w.value % 2 ^ 32) s)))) ∧
  (∀ (s : State) (w : WriteReq), s.phase = .running → (w.full = false ∨ (w.size ≠ 4 ∧ w.size ≠ 8) ∨ w.off.val % w.size ≠ 0) →
    Completes (.registerWrite w) s (fun t => t = regFault s 1 w.init w.page.val w.off.val)) ∧
  (∀ (s : State) (i : Initiator) (twin : Bool) (page off v : Nat) (info : PageInfo), pageInfo page = some info → pageLocked s page = true →
    (pageSt s page).unlockBy = none → off = 0x008 ∨ off = 0x028 → applyWrite i twin page off v s = regFault s 2 i page off) ∧
  (∀ (s : State) (k : Nat) (i : Initiator) (page off : Nat), 1 ≤ k → k ≤ 4 → rd s EVC_FAULT_VALID = 0 →
    rd (regFault s k i page off) EVC_FAULT_KIND = k ∧ rd (regFault s k i page off) EVC_FAULT_VALID = 1 ∧
    rd (regFault s k i page off) EVC_FAULT_INIT = initCode i ∧ rd (regFault s k i page off) EVC_FAULT_PAGE = page % 4096 ∧
    rd (regFault s k i page off) EVC_FAULTCNT = min (rd s EVC_FAULTCNT + 1) (2 ^ 32 - 1))

/-- After R97, R100. A permitted aligned read of 1, 2 or 4 bytes of a page that is not READ_SENSITIVE completes with the register's word, or the latched
high word, and changes only the latch of its initiator and the output; a misaligned read is an access fault and an Unsupported Request; a permitted read of
an RC port counter returns it and clears it alone. -/
def Obligations.RegisterReads : Prop :=
  (∀ (s : State) (r : ReadReq) (info : PageInfo), served s r.page.val = true → pageInfo r.page.val = some info → mayRead s r.init info.cls = true →
    info.sens = false → r.size = 1 ∨ r.size = 2 ∨ r.size = 4 → r.off.val % r.size = 0 → readHeld s r.init r.page.val = false →
    Completes (.registerReadLatch r) s (fun t => t = { s with latch := t.latch, out := t.out } ∧
      t.out = s.out ++ [.pcie 0 ((takeLatch s r.init r.page.val (r.off.val / 4 * 4)).getD (regWord s r.init r.page.val (r.off.val / 4 * 4)))] ∧
      (∀ (j : Initiator) (page off : Nat), initCode j ≠ initCode r.init → takeLatch t j page off = takeLatch s j page off))) ∧
  (∀ (s : State) (r : ReadReq), s.phase = .running → r.off.val % r.size ≠ 0 → Completes (.registerReadLatch r) s (fun t =>
    t = emit (regFault s 1 r.init r.page.val r.off.val) (.pcie 1 0))) ∧
  (∀ (s : State) (i : Initiator) (p : Port) (k : Fin 32), s.phase = .running → mayRead s i 7 = true →
    takeLatch s i (counterAt p.val k.val).1 (counterAt p.val k.val).2 = none →
    Completes (.counterReadClear i p k) s (fun t => rd t (portCtr p.val k.val) = 0 ∧
      t.out = s.out ++ [.pcie 0 (regWord s i (counterAt p.val k.val).1 (counterAt p.val k.val).2)] ∧ RegsBut [portCtr p.val k.val] s t))

/-- After R108 to R111. EV_PEND clears the bits written 1; EV_EN and EV_ROUTE take the value; these, EVC_SWPEND, EVC_SWEN, EVC_SWROUTE and EVC_LMAP send
again on every vector with an asserted source; EVC_SWSET sets pending bits; EVC_FAULT and RSTCAUSE bits clear by 1; nothing but the named register, a
masked vector's bit and the page check changes. An event sets its pending bit and the cores' copy whatever EV_EN holds, and no other pending bit or
register but a masked vector's. -/
def Obligations.Events : Prop :=
  ((∀ (s : State) (i : Initiator) (page : Fin 4096) (v : Word),
    (WriteActs s i page.val 0x018 → Completes (.evPendClear i page v) s (fun t => Resends s t ∧
      rd t (H_PEND page.val) = (rd s (H_PEND page.val) &&& (2 ^ 16 - 1 - v.toNat % 2 ^ 16)) % 2 ^ 16 ∧
      RegsBut ([H_PEND page.val, BRG_MSIX_PBA] ++ checkFields page.val) s t)) ∧
    (WriteActs s i page.val 0x014 → Completes (.evEnWrite i page v) s (fun t => Resends s t ∧ rd t (H_EVEN page.val) = v.toNat % 2 ^ 16 ∧
      RegsBut ([H_EVEN page.val, BRG_MSIX_PBA] ++ checkFields page.val) s t)) ∧
    (WriteActs s i page.val 0x01C → Completes (.evRouteWrite i page v) s (fun t => Resends s t ∧ rd t (H_ROUTE page.val) = v.toNat ∧
      RegsBut ([H_ROUTE page.val, BRG_MSIX_PBA] ++ checkFields page.val) s t))) ∧
  (∀ (s : State) (i : Initiator) (v : Word), rd s EVC_SWPEND < 2 ^ 32 →
    (WriteActs s i 0x001 0x0C0 → Completes (.evcSwset i v) s (fun t => rd t EVC_SWPEND = (rd s EVC_SWPEND ||| v.toNat) ∧
      RegsBut ([EVC_SWPEND, BRG_MSIX_PBA] ++ checkFields 0x001) s t)) ∧
    (WriteActs s i 0x001 0x0C8 → Completes (.evcSwpendClear i v) s (fun t => Resends s t ∧
      rd t EVC_SWPEND = (rd s EVC_SWPEND &&& (2 ^ 32 - 1 - v.toNat)) ∧ RegsBut ([EVC_SWPEND, BRG_MSIX_PBA] ++ checkFields 0x001) s t))) ∧
  (∀ (s : State) (i : Initiator) (v : Word), WriteActs s i 0x001 (swOff .swen) → rd s EVC_SWEN < 2 ^ 32 → Completes (.evcSwenWrite i .swen v) s (fun t =>
    Resends s t ∧ rd t EVC_SWEN = v.toNat ∧ RegsBut ([EVC_SWEN, BRG_MSIX_PBA] ++ checkFields 0x001) s t)) ∧
  (∀ (s : State) (i : Initiator) (v : Word), (∀ r ∈ [SwReg.swrouteLo, SwReg.swrouteHi], WriteActs s i 0x001 (swOff r) →
    Completes (.evcSwenWrite i r v) s (fun t => Resends s t))) ∧
  (∀ (s : State) (i : Initiator) (k : Fin 44) (v : Word), WriteActs s i 0x001 (0x100 + 4 * k.val) → rd s (EVC_LMAP k.val) < 2 ^ 32 →
    Completes (.evcLmapWrite i k v) s (fun t => Resends s t ∧ rd t (EVC_LMAP k.val) = v.toNat)) ∧
  (∀ (s : State) (i : Initiator), WriteActs s i 0x001 0x080 → rd s EVC_FAULT_VALID ≤ 1 → Completes (.evcFaultClear i) s (fun t =>
    rd t EVC_FAULT_VALID = 0 ∧ RegsBut (EVC_FAULT_VALID :: checkFields 0x001) s t)) ∧
  (∀ (s : State) (i : Initiator), WriteActs s i 0x000 0x044 → rd s DEV_RSTCAUSE_POR ≤ 1 → rd s DEV_RSTCAUSE_PIN ≤ 1 →
    Completes (.devRstcauseClear i 1) s (fun t => rd t DEV_RSTCAUSE_POR = 0 ∧ rd t DEV_RSTCAUSE_PIN = rd s DEV_RSTCAUSE_PIN))) ∧
  (∀ (s : State) (page k : Nat) (info : PageInfo), pageInfo page = some info → k < info.nev →
    bit (rd (raise s page k) (H_PEND page)) k = true ∧ (raise s page k).events = s.events ||| (1#512 <<< (info.src + k)) ∧
    (∀ j, j < 16 → j ≠ k → bit (rd (raise s page k) (H_PEND page)) j = bit (rd s (H_PEND page)) j) ∧
    RegsBut (eventFields page) s (raise s page k) ∧ UnitsSame s (raise s page k))

/-- After R107. With every written PAGE_CHK right (only these are looked at, log entry 8) the scrub changes nothing; otherwise the first page in order that
differs gets CHK_ERR, and its PAGE_CHK stays. -/
def Obligations.PageScrub : Prop :=
  (∀ s : State, s.phase = .running → (∀ p ∈ allPages, (pageSt s p).chkOk = true → rd s (H_CHK p) = pageCheck s p) →
    Completes .pageScrub s (fun t => t = s)) ∧
  (∀ (s : State) (l₁ l₂ : List Nat) (p : Nat), s.phase = .running → allPages = l₁ ++ p :: l₂ →
    (∀ q ∈ l₁, (pageSt s q).chkOk = true → rd s (H_CHK q) = pageCheck s q) → (pageSt s p).chkOk = true → rd s (H_CHK p) ≠ pageCheck s p →
    Completes .pageScrub s (fun t => rd t (H_CHK_ERR p) = 1 ∧ rd t (H_CHK p) = rd s (H_CHK p)))

/-! ## Host bridge and command transport (05_host_bridge_and_command_transport.md) -/

/-- After R116, R119, R121. A write with room takes the next sequence number and waits in an open aperture; through one that carries nothing it ends as a
WRONG_STATE fault. A read through a closed aperture completes with all ones and its event; through an open one with nothing waiting it leaves as a READ
frame with the next number. A frame of an aperture carries its oldest waiting word and the consecutive ones after it, and takes them off the queue. -/
def Obligations.ApertureAccesses : Prop :=
  (∀ (s : State) (a : Fin 4) (page : Fin 4096) (word : Fin 1024) (v : Word), s.phase = .running → apWords s a.val < 256 →
    semGuards s 2 (apLoc a.val page.val word.val) = false →
    Completes (.remoteApertureWrite a page word v) s (fun t => t.remote.next = s.remote.next + 1 ∧ t.remote.lastWrite = s.remote.next + 1 ∧
      rd t BRG_RSEQ = (rd s BRG_RSEQ + 1) % 2 ^ 32 ∧
      (apertureOpen s a.val = true → t.remote.waiting = s.remote.waiting ++ [⟨s.remote.next, a.val, page.val, word.val, v, nowNs s⟩] ∧
        t.out = s.out ∧ t.remote.faults = s.remote.faults) ∧
      (apertureOpen s a.val = false → t.remote.waiting = s.remote.waiting ∧ t.remote.faults = s.remote.faults + 1 ∧
        t.remote.failed = s.remote.failed ++ [(s.remote.next, stWRONG_STATE)]))) ∧
  (∀ (s : State) (a : Fin 4) (page : Fin 4096) (word : Fin 1024), s.phase = .running →
    (apertureOpen s a.val = false → Completes (.remoteApertureRead a page word) s (fun t => t = raise (emit s (.pcie 0 0xFFFFFFFF)) 0x002 1)) ∧
    (apertureOpen s a.val = true → apReads s a.val < 8 → apWaiting s a.val = [] → Completes (.remoteApertureRead a page word) s (fun t =>
      t.remote.next = s.remote.next + 1 ∧ ∃ f ∈ t.remote.flight, f.kind = 3 ∧ f.seq = s.remote.next ∧ f.ap = a.val ∧ f.sends = 1))) ∧
  (∀ (s : State) (a : Fin 4) (w : RemWord) (l : List RemWord), s.phase = .running → apWaiting s a.val = w :: l →
    Completes (.remoteFrameSend a) s (fun t => ∃ f ∈ t.remote.flight, f.kind = 1 ∧ f.seq = w.seq ∧ f.words = w :: coalesce 63 w l ∧ f.sends = 1 ∧
      ∀ x ∈ t.remote.waiting, x.seq ≠ w.seq))

/-- After R119, R120, R122, R124, R141. At the origin: a frame in flight is sent again while it was sent fewer than three times; after the third a write
ends as TIMEOUT faults and a read completes with all ones; an acknowledgement, a reply and a response end theirs, one that matches nothing counts as late;
a completion takes the next entry of the completion ring with QUEUE 8 + a. At the target: a repeat is answered from the store; an origin without right is
DENIED; a permitted write is applied word by word and acknowledged OK; a read of one word is answered with it; a command of the manager enters its ring
while that holds fewer than 64; a write frame with a bad CRC is answered INTEGRITY and applies nothing. -/
def Obligations.RemoteFrames : Prop :=
  ((∀ (s : State) (seq : Nat) (f : RemFlight), s.phase = .running → flightOf s seq = some f →
    (f.sends < 3 → Completes (.remoteRetransmit seq) s (fun t => { f with sends := f.sends + 1 } ∈ t.remote.flight)) ∧
    (3 ≤ f.sends → Completes (.remoteRetransmit seq) s (fun t => t = s)) ∧
    (3 ≤ f.sends → f.kind = 1 → Completes (.remoteSendTimeout seq) s (fun t => t.remote.flight = s.remote.flight.filter (fun g => decide (g.seq ≠ f.seq)) ∧
      t.remote.failed = s.remote.failed ++ f.words.map (fun w => (w.seq, stTIMEOUT)))) ∧
    (3 ≤ f.sends → f.kind = 3 → Completes (.remoteReadTimeout seq) s (fun t => .pcie 0 0xFFFFFFFF ∈ t.out ∧
      t.remote.flight = s.remote.flight.filter (fun g => decide (g.seq ≠ f.seq)) ∧ t.remote.faults = s.remote.faults + 1))) ∧
  (∀ (s : State) (f : RemoteFrame) (g : RemFlight), s.phase = .running → f.crcGood = true →
    (answered s 1 f = some g → f.flags.toNat = stOK → Completes (.writeAckRx f) s (fun t => t = dropFlight g s)) ∧
    (answered s 1 f = some g → f.flags.toNat ≠ stOK → Completes (.writeAckRx f) s (fun t =>
      t.remote.failed = s.remote.failed ++ g.words.map (fun w => (w.seq, f.flags.toNat)))) ∧
    (answered s 3 f = some g → Completes (.readReplyRx f) s (fun t => t = emit (dropFlight g s) (.pcie 0 (f.data.headD 0).toNat))) ∧
    (answered s 5 f = some g → Completes (.remoteResponseRx f) s (fun t => rd t (NODE_RR_USED g.ap) = (rd s (NODE_RR_USED g.ap) + 1) %
      2 ^ (NODE_RR_USED g.ap).w ∧ t.remote.flight = s.remote.flight.filter (fun h => decide (h.seq ≠ g.seq)))) ∧
    (answered s 5 f = none → Completes (.remoteResponseRx f) s (fun t => t = { s with remote := { s.remote with late := s.remote.late + 1 } }))) ∧
  (∀ (s : State) (f : RemoteFrame) (a : Fin 4), s.phase = .running → f.crcGood = true → noCompletion s (.host 0) = false →
    Completes (.remoteCompletionRx f a) s (fun t => rd t CMD_CRTAIL = (rd s CMD_CRTAIL + 1) % 1024 ∧
      memRead t.bar2 (0x40000 + 64 * rd s CMD_CRTAIL + 3) = BitVec.ofNat 8 ((1 - rd s NODE_CR_PASS) * 128 + 8 + a.val)))) ∧
  ((∀ (s : State) (f : RemoteFrame), s.phase = .running → forUs s f = true → f.crcGood = true →
    (∀ a, keptAnswer s f = some a → Completes (.remoteWriteRx f) s (fun t => t = sendKept a s) ∧ Completes (.remoteReadRx f) s (fun t => t = sendKept a s) ∧
      ∀ r, Completes (.remoteCommandRx f r) s (fun t => t = sendKept a s)) ∧
    (keptAnswer s f = none → remoteInit s f = none → Completes (.remoteWriteRx f) s (fun t => t = ackWrite f true stDENIED s)) ∧
    (∀ i info, keptAnswer s f = none → remoteInit s f = some i → pageInfo f.page.val = some info → mayWrite s i info.cls = true → s.semWait = [] →
      ((frameWords f).any (fun w => decide (w.1 < 4096) && lockRefuses s f.page.val w.1 w.2) = false →
        Completes (.remoteWriteRx f) s (fun t => t = runWaits (ackWrite f true stOK
          (forEach ((frameWords f).filter (fun w => decide (w.1 < 4096))) (fun w u => writeWordOf true i f.page.val w.1 w.2 u) s))))) ∧
    (∀ i, keptAnswer s f = none → remoteInit s f = some i → journalHolds s i = false → f.words = 1 → 4 * f.word.val < 4096 →
      Completes (.remoteReadRx f) s (fun t => t = replyRead f true stOK [BitVec.ofNat 32 (readChecked s i f.page.val (4 * f.word.val)).1]
        (readChecked s i f.page.val (4 * f.word.val)).2)) ∧
    (∀ r : Fin 4, keptAnswer s f = none → inInbox s f = false → remoteInit s f = some .manager → some f.gen.toNat = curdGen s f.originUid →
      (s.remote.inbox.filter (fun e => decide (e.1 = r.val))).length < 64 → Completes (.remoteCommandRx f r) s (fun t =>
        t.remote.inbox = s.remote.inbox ++ [(r.val, f.originUid, f.originTwin, padTo 64 f.block, f.seq.toNat)]))) ∧
  (∀ (s : State) (f : RemoteFrame), s.phase = .running → forUs s f = true → f.crcGood = false →
    Completes (.remoteWriteRx f) s (fun t => t = ackWrite f false stINTEGRITY (inc s (NODE_OVERLAP 6)) ∧ t.bar2 = s.bar2 ∧ t.fuses = s.fuses)))


/-- After R127, R128. An acquire takes a free semaphore for a location that no other of its window guards, and changes nothing otherwise; a release and the
hold limit free it, the limit with SEM_TMO; an AtomicOp on device memory writes the new value, returns the old one and holds no semaphore after; an
unsupported one, and one that finds no semaphore in time, complete as Unsupported Requests. -/
def Obligations.SemaphoresAndAtomics : Prop :=
  (∀ (s : State) (i : Initiator) (k : Fin 24) (loc : BitVec 26), WriteActs s i 0x002 (0x100 + 4 * k.val) →
    (rdB s (BRG_SEM_HELD k.val) = false → semGuards s (k.val / 8) loc.toNat = false → Completes (.brgSemAcquire i k loc) s (fun t =>
      rd t (BRG_SEM_HELD k.val) = 1 ∧ rd t (BRG_SEM_BRIDGE k.val) = 0 ∧ rd t (BRG_SEM_LOC k.val) = loc.toNat)) ∧
    (rdB s (BRG_SEM_HELD k.val) = true ∨ semGuards s (k.val / 8) loc.toNat = true → Completes (.brgSemAcquire i k loc) s (fun t =>
      rd t (BRG_SEM_HELD k.val) = rd s (BRG_SEM_HELD k.val) ∧ rd t (BRG_SEM_LOC k.val) = rd s (BRG_SEM_LOC k.val))) ∧
    Completes (.brgSemRelease i k) s (fun t => rd t (BRG_SEM_HELD k.val) = 0 ∧ rd t (BRG_SEM_BRIDGE k.val) = 0)) ∧
  (∀ (s : State) (k : Fin 24), s.phase = .running → rdB s (BRG_SEM_HELD k.val) = true → s.semWait = [] → Completes (.semHoldTimeout k) s (fun t =>
    rd t (BRG_SEM_HELD k.val) = 0 ∧ bit (rd t (H_PEND 0x002)) 3 = true)) ∧
  (∀ (s : State) (a : AtomicReq) (addr : Fin 67108864) (k : Nat), s.phase = .running → a.loc = .bar2 addr → atomicUnsupported a = false →
    atomicSem s a.loc = some k → Completes (.atomicOp a) s (fun t => rd t (BRG_SEM_HELD k) = 0 ∧
      t.bar2 = memWrites s.bar2 addr.val (le a.size (atomicNew a (leAt (bar2Read s addr.val a.size) 0 a.size))) ∧
      t.out = s.out ++ [.pcie 0 (leAt (bar2Read s addr.val a.size) 0 a.size)])) ∧
  (∀ (s : State) (a : AtomicReq), s.phase = .running →
    (atomicUnsupported a = true → Completes (.atomicOp a) s (fun t => t = emit s (.pcie 1 0))) ∧
    (atomicSem s a.loc = none → Completes (.atomicSemTimeout a) s (fun t => t = emit s (.pcie 1 0))))

/-- After R131, R132. A command doorbell that does not move back sets the tail alone; one that does is ignored with DB_ERR. A response or completion head
within the used entries frees those that it passes; a completion head past them is ignored with CR_ERR. BRG_FQHEAD, BRG_RRHEAD and BRG_RCDB take their
index, and BRG_RWIN_TGT its fields where nothing waits on the aperture. -/
def Obligations.RingIndices : Prop :=
  (∀ (s : State) (i : Initiator) (n : Fin 8) (v : Word), WriteActs s i 0x003 (0x040 + 4 * n.val) →
    (ringDist 256 (rd s (CMD_SQHEAD n.val)) (rd s (CMD_SQTAIL n.val)) ≤ ringDist 256 (rd s (CMD_SQHEAD n.val)) v.toNat →
      Completes (.cmdSqtailDoorbell i n v) s (fun t => rd t (CMD_SQTAIL n.val) = v.toNat % 256 ∧ rd t (CMD_SQHEAD n.val) = rd s (CMD_SQHEAD n.val) ∧
        RegsBut (CMD_SQTAIL n.val :: checkFields 0x003) s t)) ∧
    (ringDist 256 (rd s (CMD_SQHEAD n.val)) v.toNat < ringDist 256 (rd s (CMD_SQHEAD n.val)) (rd s (CMD_SQTAIL n.val)) →
      Completes (.cmdSqtailDoorbell i n v) s (fun t => rd t (CMD_SQTAIL n.val) = rd s (CMD_SQTAIL n.val) ∧ bit (rd t CMD_STAT_DB_ERR) n.val = true ∧
        bit (rd t (H_PEND 0x003)) 9 = true))) ∧
  (∀ (s : State) (i : Initiator) (n : Fin 8) (v : Word), WriteActs s i 0x003 (0x0A0 + 4 * n.val) →
    ringDist 256 (rd s (CMD_RQHEAD n.val)) v.toNat ≤ rd s (NODE_RQ_USED n.val) → rd s (NODE_RQ_USED n.val) ≤ 256 →
    Completes (.cmdRqheadWrite i n v) s (fun t => rd t (CMD_RQHEAD n.val) = v.toNat % 256 ∧
      rd t (NODE_RQ_USED n.val) = rd s (NODE_RQ_USED n.val) - ringDist 256 (rd s (CMD_RQHEAD n.val)) v.toNat)) ∧
  (∀ (s : State) (i : Initiator) (v : Word), WriteActs s i 0x003 0x0C4 →
    (ringDist 1024 (rd s CMD_CRHEAD) v.toNat ≤ rd s NODE_CR_USED → rd s NODE_CR_USED ≤ 1024 → Completes (.cmdCrheadWrite i v) s (fun t =>
      rd t CMD_CRHEAD = v.toNat % 1024 ∧ rd t NODE_CR_USED = rd s NODE_CR_USED - ringDist 1024 (rd s CMD_CRHEAD) v.toNat)) ∧
    (rd s NODE_CR_USED < ringDist 1024 (rd s CMD_CRHEAD) v.toNat → Completes (.cmdCrheadWrite i v) s (fun t =>
      rd t CMD_CRHEAD = rd s CMD_CRHEAD ∧ rd t CMD_STAT_CR_ERR = 1))) ∧
  (∀ (s : State) (i : Initiator) (v : Word), WriteActs s i 0x002 0x048 → Completes (.brgFqheadWrite i v) s (fun t => rd t BRG_FQHEAD = v.toNat % 1024)) ∧
  (∀ (s : State) (i : Initiator) (a : Fin 4) (v : Word), (WriteActs s i 0x002 (0x0B0 + 4 * a.val) → Completes (.brgRrheadWrite i a v) s (fun t =>
      rd t (BRG_RRHEAD a.val) = v.toNat % 64)) ∧
    (WriteActs s i 0x002 (0x080 + 4 * a.val) → rd s (BRG_RCDB a.val) < 64 → Completes (.brgRcdbDoorbell i a v) s (fun t =>
      rd t (BRG_RCDB a.val) = v.toNat % 64)) ∧
    (WriteActs s i 0x002 (0x060 + 4 * a.val) → apWaiting s a.val = [] → rd s (BRG_RWIN_TGT_HANDLE a.val) < 2 ^ 16 →
      rd s (BRG_RWIN_TGT_VALID a.val) < 2 → Completes (.brgRwinTgtWrite i a v) s (fun t =>
      rd t (BRG_RWIN_TGT_HANDLE a.val) = v.toNat % 2 ^ 16 ∧ rd t (BRG_RWIN_TGT_VALID a.val) = v.toNat / 2 ^ 31)))

/-- After R85, R114, R115. A write that touches no reserved range, with no semaphore held, stores every byte in place and changes no other byte and nothing
else; a byte in a reserved range is discarded as an access fault; a halted node takes bytes of the rings alone. -/
def Obligations.DeviceMemoryWrites : Prop :=
  (∀ (s : State) (addr : Fin 67108864) (d : List Byte), s.phase = .running → (∀ a, semGuards s 1 a = false) →
    (∀ k, k < d.length → bar2Reserved (addr.val + k) = false) → Completes (.bar2Write addr d) s (fun t =>
      (∀ k (h : k < d.length), memRead t.bar2 (addr.val + k) = d[k]) ∧
      (∀ a, (a < addr.val ∨ addr.val + d.length ≤ a) → memRead t.bar2 a = memRead s.bar2 a) ∧ t = { s with bar2 := t.bar2 })) ∧
  (∀ (s : State) (addr : Fin 67108864) (b : Byte), s.phase = .running → bar2Reserved addr.val = true →
    Completes (.bar2Write addr [b]) s (fun t => t = bar2Fault s .host addr.val)) ∧
  (∀ (s : State) (addr : Fin 67108864) (b : Byte), s.phase = .halted →
    (0x50000 ≤ addr.val → Completes (.bar2Write addr [b]) s (fun t => t = s)) ∧
    (addr.val < 0x50000 → semGuards s 1 (addr.val / 4) = false → Completes (.bar2Write addr [b]) s (fun t =>
      t = { s with bar2 := memWrite s.bar2 addr.val b })))

/-! ## Commands (05_host_bridge_and_command_transport.md, 06_command_catalogue.md) -/

/-- After R135, R138, R139, R143. For every row of the catalogue: a bad descriptor CRC on a host ring answers INTEGRITY, then a wrong QUEUE BAD_ARG, an
unknown opcode UNKNOWN, a refusal of the map DENIED, a shared-state command WRONG_STATE on a shadow and FENCED on a fenced node, and all of these only take
the command off its path; one that passes every check runs in the state without it, and its status and results are posted, ACCEPTED with the command
outstanding. -/
def Obligations.CommandsAreTaken : Prop :=
  ∀ (i : Instr) (k : CmdSpec) (t : Take) (s : State) (c : Cmd), specOf i = some (k, t) → s.phase = .running ∨ s.phase = .halted →
    headCmd s t.path = some c → readyCmd s c = true →
    (∀ n, t.path = .host n → t.crcGood = false → Completes i s (fun u => u = respond c stINTEGRITY [] (popCmd t.path s))) ∧
    ((∀ n, t.path = .host n → t.crcGood = true) → c.queue ≠ pathQueue c.path → Completes i s (fun u => u = respond c stBAD_ARG [] (popCmd t.path s))) ∧
    ((∀ n, t.path = .host n → t.crcGood = true) → c.queue = pathQueue c.path → knownOpcode c.opcode = false →
      Completes i s (fun u => u = respond c stUNKNOWN [] (popCmd t.path s))) ∧
    (firstChecks t c = none → c.opcode = k.opcode → commandPermitted s c k = false →
      Completes i s (fun u => u = respond c stDENIED [] (popCmd t.path s))) ∧
    (firstChecks t c = none → c.opcode = k.opcode → commandPermitted s c k = true → s.phase = .running → k.kind = .shared → role s = 1 →
      Completes i s (fun u => u = respond c stWRONG_STATE [] (popCmd t.path s))) ∧
    (firstChecks t c = none → c.opcode = k.opcode → commandPermitted s c k = true → s.phase = .running → k.kind = .shared → role s = 3 →
      Completes i s (fun u => u = respond c stFENCED [] (popCmd t.path s))) ∧
    (Taken k t s c → ∀ st, (k.run c (startOf k t c s)).status = some st → st ≠ stACCEPTED →
      Completes i s (fun u => u = respond c st (k.run c (startOf k t c s)).res (k.run c (startOf k t c s)).st)) ∧
    (Taken k t s c → (k.run c (startOf k t c s)).status = some stACCEPTED → (k.run c (startOf k t c s)).done = none →
      Completes i s (fun u => u = respond c stACCEPTED [] (addAccepted (acceptedOf k c (k.run c (startOf k t c s)).st) (k.run c (startOf k t c s)).st)))

/-- After R79, R134, R136. A response on a host path stands in the 64 bytes at its ring's tail, which advances, with RESP pending, and no byte of device
memory outside them changes. A completion record stands at the tail of the completion ring, which advances, with COMPL pending unless NO_EVENT was set, and
its command is no longer outstanding; a discarded one posts nothing. -/
def Obligations.ResponsesAndCompletions : Prop :=
  (∀ (s : State) (c : Cmd) (n : Fin 8) (st : Nat) (res : List Byte), c.path = .host n → rd s (CMD_RQTAIL n.val) < 256 →
    bar2Read (respond c st res s) (rqBase n.val + 64 * rd s (CMD_RQTAIL n.val)) 64 = responseBytes c (1 - rd s (NODE_RQ_PASS n.val)) st res ∧
    rd (respond c st res s) (CMD_RQTAIL n.val) = (rd s (CMD_RQTAIL n.val) + 1) % 256 ∧
    bit (rd (respond c st res s) (H_PEND 0x003)) n.val = true ∧
    (∀ a, (a < rqBase n.val + 64 * rd s (CMD_RQTAIL n.val) ∨ rqBase n.val + 64 * rd s (CMD_RQTAIL n.val) + 64 ≤ a) →
      memRead (respond c st res s).bar2 a = memRead s.bar2 a)) ∧
  (∀ (s : State) (a : Accepted) (n : Fin 8) (st : Nat) (res : List Byte), a.path = .host n → rd s CMD_CRTAIL < 1024 →
    (a.discard = false →
      bar2Read (complete a st res s) (0x40000 + 64 * rd s CMD_CRTAIL) 64 = completionBytes a (1 - rd s NODE_CR_PASS) st (nowNs s) res ∧
      rd (complete a st res s) CMD_CRTAIL = (rd s CMD_CRTAIL + 1) % 1024 ∧
      (bit a.flags 1 = false → bit (rd (complete a st res s) (H_PEND 0x003)) 8 = true) ∧
      (complete a st res s).accepted = removeFirst (fun b => decide (b = a)) s.accepted) ∧
    (a.discard = true → (complete a st res s).bar2 = s.bar2 ∧ (complete a st res s).accepted = removeFirst (fun b => decide (b = a)) s.accepted))

/-- The command answers st with results res and changes nothing but its own path and the journal. -/
def ReadsAs (i : Instr) (s : State) (t : Take) (c : Cmd) (st : Nat) (res : List Byte) : Prop :=
  Answers i s c st res (fun u => u = journalCmd c (popCmd t.path s))

/-- After R139, R153, R156 to R159, R161, R162, R164 to R166, R453, R463, R481, R487. PORT_STATUS, CURD_READ, TIME_STATUS, CAP_READ, TLG_STATUS, MB_STATUS,
SLEEP_STATUS, LCH_STATUS, TWIN_STATUS, KEY_STATUS, ATT_READ, REC_STATUS, RSV_STATUS and RSV_LEDGER answer OK with the results stated, or WRONG_STATE where
stated, and change nothing but their path and the journal. For TLG_STATUS the first results alone are stated. -/
def Obligations.StatusCommands : Prop :=
  ∀ (t : Take) (s : State) (c : Cmd),
    (Taken portStatusSpec t s c → ReadsAs (.portStatus t) s t c stOK (le 1 (if linkUp s (c.u 0x08 1) then 1 else 0) ++
      le 1 (rd s (PORT_MODE_MODE (c.u 0x08 1))) ++ le 2 (rd s (PORT_MAXLEN (c.u 0x08 1))) ++
      le 1 ((if rdB s (PORT_STATUS_PREEMPT_ACTIVE (c.u 0x08 1)) then 1 else 0) + (if rdB s (PORT_STATUS_PAUSED (c.u 0x08 1)) then 2 else 0)) ++ zeros 3 ++
      le 8 (rd s (NODE_LINK_CHG (c.u 0x08 1))))) ∧
    (Taken curdReadSpec t s c → (curdNamed s (c.u 0x08 1) = none → ReadsAs (.curdRead t) s t c stWRONG_STATE []) ∧
      ∀ k, curdNamed s (c.u 0x08 1) = some k → ∃ e, ReadsAs (.curdRead t) s t c stOK (le 4 k.count.toNat ++ le 1 k.cars.length ++
        le 1 k.direction.toNat ++ zeros 2 ++ padTo 16 (curdDigest k) ++ e)) ∧
    (Taken timeStatusSpec t s c → ReadsAs (.timeStatus t) s t c stOK (le 8 (nowNs s) ++ le 8 (s.time.ns / 1000000000 % 2 ^ 48) ++
      le 4 (s.time.ns % 1000000000) ++ le 1 (rd s TIME_STAT_SEL) ++ le 1 (rd s TIME_STAT_SYNC0 + 2 * rd s TIME_STAT_SYNC1 + 4 * rd s TIME_STAT_SLEWING) ++
      zeros 2 ++ le 4 (rd s (TIME_OFF 0)) ++ le 4 (rd s (TIME_OFF 1)) ++ le 8 (rd s (TIME_GM 0)) ++ le 8 (rd s (TIME_GM 1)))) ∧
    (Taken capReadSpec t s c → ReadsAs (.capRead t) s t c stOK (le 8 (rd s (TRIG_CAP (c.u 0x08 1))) ++
      le 1 (rd s (TRIG_CAP_FLG_HALF (c.u 0x08 1)) + 2 * rd s (TRIG_CAP_FLG_RISING (c.u 0x08 1)) +
        (if bit (rd s TRIG_CAPSTAT_OVERRUN) (c.u 0x08 1) then 4 else 0)) ++ zeros 3 ++ le 4 (rd s (TRIG_CAP_CNT (c.u 0x08 1))))) ∧
    (Taken tlgStatusSpec t s c → ∃ res, ReadsAs (.tlgStatus t) s t c stOK res ∧
      (∀ u, c.u 0x08 1 = 1 → subAt s (c.u 0x0A 2) = some u → res.take 12 = le 4 u.accepts ++ le 4 u.timeouts ++ le 4 u.sdtFails) ∧
      (∀ p, c.u 0x08 1 = 0 → pubAt s (c.u 0x0A 2) = some p → res.take 4 = le 4 p.sent)) ∧
    (Taken mbStatusSpec t s c → ReadsAs (.mbStatus t) s t c stOK (le 1 (rd s (MBUS_STAT_TEC (c.u 0x08 1))) ++ le 1 (rd s (MBUS_STAT_REC (c.u 0x08 1))) ++
      le 1 (rd s (MBUS_STAT_ERR_STATE (c.u 0x08 1))) ++ le 1 (rd s (SLEEP_BUSCTL_XSTATE (c.u 0x08 1))) ++ le 4 (rd s (MBUS_CNT (c.u 0x08 1) 10)) ++
      le 4 (rd s (MBUS_CNT (c.u 0x08 1) 6)))) ∧
    (Taken sleepStatusSpec t s c → ReadsAs (.sleepStatus t) s t c stOK (le 1 (rd s SLEEP_STAT_PHASE) ++ zeros 3 ++ le 4 (awakeLeft s) ++
      le 8 (rd s SLEEP_EXCL))) ∧
    (Taken lchStatusSpec t s c → ReadsAs (.lchStatus t) s t c stOK (le 1 (rd s (LCH_STAT_STATE (c.u 0x08 1))) ++
      le 1 (rd s (LCH_STAT_FAULT (c.u 0x08 1))) ++ le 1 (rd s (LCH_STAT_COUNT (c.u 0x08 1))) ++ le 1 (rd s (LCH_STAT_LATCH (c.u 0x08 1))) ++
      le 2 (rd s (LCH_CUR_MA (c.u 0x08 1))) ++ le 2 (rd s (LCH_STAT_SEG_OK (c.u 0x08 1))))) ∧
    (Taken twinStatusSpec t s c → ReadsAs (.twinStatus t) s t c stOK (le 1 (role s) ++ le 1 (rd s TWIN_STAT_PARTNER_ROLE) ++ zeros 2 ++
      le 4 (rd s TWIN_GEN) ++ le 8 (rd s TWIN_SEQ) ++ le 8 (rd s TWIN_DIVG))) ∧
    (Taken keyStatusSpec t s c → ReadsAs (.keyStatus t) s t c stOK (le 1 (if (slotAt s (c.u 0x08 1)).valid then 1 else 0) ++
      le 1 (slotAt s (c.u 0x08 1)).parent ++ le 1 (slotAt s (c.u 0x08 1)).level ++ le 1 (slotAt s (c.u 0x08 1)).usage ++ le 4 (slotAt s (c.u 0x08 1)).gen)) ∧
    (Taken attReadSpec t s c → c.u 0x08 4 ≠ 0xFFFFFFFF → (s.keys.statement = none → ReadsAs (.attRead t) s t c stWRONG_STATE []) ∧
      ∀ b, s.keys.statement = some (c.u 0x08 4, b) → ReadsAs (.attRead t) s t c stOK (le 2 (min 48 (b.length - c.u 0x0C 2)) ++ zeros 6 ++
        slice b (c.u 0x0C 2) 48)) ∧
    (Taken recStatusSpec t s c → ReadsAs (.recStatus t) s t c stOK (le 4 (rd s REC_SEQ) ++ le 4 (min 16384 (rd s REC_WPOS)) ++
      le 1 (rd s REC_STAT_BANK0_FAIL + 2 * rd s REC_STAT_BANK1_FAIL + 4 * rd s REC_STAT_STICKY))) ∧
    (Taken rsvStatusSpec t s c → ReadsAs (.rsvStatus t) s t c stOK (le 1 (min 255 s.fuses.ledger.length) ++ zeros 3 ++
      (List.range 8).flatMap (fun k => le 1 (spareCount s k)))) ∧
    (Taken rsvLedgerSpec t s c → (s.fuses.ledger.length ≤ c.u 0x08 1 → ReadsAs (.rsvLedger t) s t c stOK (zeros 16)) ∧
      ∀ e, s.fuses.ledger[c.u 0x08 1]? = some e → ReadsAs (.rsvLedger t) s t c stOK (ledgerBytes e))

/-- After R150. NOP answers the time; DEV_INFO the die IDs, the part and the fuses' ROM issue, state, twin ID and grade; DEV_STATUS begins with role and
manager flag and repeats the state registers named, and takes two free values for the temperatures (log entry 5); DEV_RESET makes the reset due and changes
nothing else. -/
def Obligations.DeviceCommands : Prop :=
  ∀ (t : Take) (s : State) (c : Cmd),
    (Taken nopSpec t s c → Answers (.nop t) s c stOK (le 8 (nowNs s)) (fun u => u = journalCmd c (popCmd t.path s))) ∧
    (Taken devInfoSpec t s c → Answers (.devInfo t) s c stOK (le 8 Config.nodeDie.toNat ++ le 8 Config.lineDie.toNat ++ le 8 Config.recordDie.toNat ++
      le 4 0x8800 ++ le 1 s.fuses.romIssue ++ le 1 s.fuses.lc ++ le 1 (twinNo s) ++ le 1 s.fuses.grade) (fun u => u = journalCmd c (popCmd t.path s))) ∧
    (Taken devStatusSpec t s c → ∃ res, Answers (.devStatus t) s c stOK res (fun u => u = { journalCmd c (popCmd t.path s) with free := s.free + 2 } ∧
      res.take 2 = le 1 (role s) ++ le 1 (rd s DEV_ROLE_SELF) ∧ (res.drop 4).take 12 = le 4 (regWord s .host 0x000 0x048) ++
        le 4 (regWord s .host 0x000 0x044) ++ le 4 (regWord s .host 0x000 0x040))) ∧
    (Taken devResetSpec t s c → Answers (.devReset t) s c stOK [] (fun u => u.clk.resetDue = true ∧ u = { journalCmd c (popCmd t.path s) with
      clk := u.clk }))

/-- After R102, R149, R151, R152. CFG_IMAGE_LOAD is refused for the slot in use and accepted otherwise; its verdicts complete it in the order signature,
signer, ranges, and only a good image is put in its slot. CFG_IMAGE_ACTIVATE is refused without the expected image, completes with CONFLICT and the holder
where a claim of the image is held, and otherwise activates the slot and ends UNCONFIGURED. CFG_COMMIT leaves no shadow on the pages that it names;
CFG_INFO changes nothing and shows the slot in use and those that verify. -/
def Obligations.ConfigCommands : Prop :=
  (∀ (t : Take) (s : State) (c : Cmd), Taken cfgImageLoadSpec t s c →
    (s.store.inUse = some (loadSlot s c) → Answers (.cfgImageLoad t) s c stWRONG_STATE [] (fun u => u = startOf cfgImageLoadSpec t c s)) ∧
    (s.store.inUse ≠ some (loadSlot s c) → Accepts cfgImageLoadSpec (.cfgImageLoad t) s c (fun u => u = startOf cfgImageLoadSpec t c s))) ∧
  (∀ (s : State) (slot : Fin 2) (v : ImageVerdict) (a : Accepted), s.phase = .running → findAccepted s 0x0200 (.slot slot.val) = some a →
    Completes (.cfgImageLoadDone slot v) s (fun t => t =
      if v.sigGood = false then complete a stINTEGRITY [] s else if v.signerValid = false then complete a stKEY_INVALID [] s
      else if imageOk v.image = false then complete a stBAD_ARG [] s
      else complete a stOK (le 1 slot.val ++ zeros 3 ++ le 4 v.image.seq.toNat) (putSlot slot.val (some v.image) true s))) ∧
  (∀ (t : Take) (s : State) (c : Cmd), Taken cfgImageActivateSpec t s c →
    (expectedImage s c = none → Answers (.cfgImageActivate t) s c stWRONG_STATE [] (fun u => u = startOf cfgImageActivateSpec t c s)) ∧
    (∀ i, expectedImage s c = some i → imageConflict s i.claims = none → ∃ u, u = activateSlot (c.u 0x08 1) i (startOf cfgImageActivateSpec t c s) ∧
      rd u DEV_BOOTSTAT_UNCONFIGURED = 0 ∧ exec (.cfgImageActivate t) s = .next (complete (acceptedOf cfgImageActivateSpec c u) stOK (le 4 i.seq.toNat)
        (respond c stACCEPTED [] (addAccepted (acceptedOf cfgImageActivateSpec c u) u)))) ∧
    (∀ i h, expectedImage s c = some i → imageConflict s i.claims = some h → ∃ u, u = startOf cfgImageActivateSpec t c s ∧
      exec (.cfgImageActivate t) s = .next (complete (acceptedOf cfgImageActivateSpec c u) stCONFLICT (holderBlock h)
        (respond c stACCEPTED [] (addAccepted (acceptedOf cfgImageActivateSpec c u) u))))) ∧
  (∀ (t : Take) (s : State) (c : Cmd), Taken cfgCommitSpec t s c → Answers (.cfgCommit t) s c stOK (le 1 (c.u 0x08 1)) (fun u =>
    ∀ p ∈ commitList c, ∀ x ∈ u.shadow, keyPage x.1 ≠ p)) ∧
  (∀ (t : Take) (s : State) (c : Cmd), Taken cfgInfoSpec t s c → ∃ res, Answers (.cfgInfo t) s c stOK res (fun u =>
    u = journalCmd c (popCmd t.path s) ∧ (res.drop 8).take 2 = le 1 (s.store.inUse.getD 0xFF) ++
      le 1 ((if s.store.ok0 then 1 else 0) + (if s.store.ok1 then 2 else 0))))

/-- After R43, R45, R167 to R171. A named free resource without conflict goes to the caller; one that another kind of caller holds is refused with CONFLICT
and its holder block; a claim of any instance where none is free is NO_RESOURCE; the holder releases, another is refused; a query answers the holder or
0xFF. REMOTE_SYNC waits for the writes of its doorbell and completes without faults where none failed; REMOTE_STATUS answers the counts of its aperture. -/
def Obligations.ResourceClaims : Prop :=
  (∀ (t : Take) (s : State) (c : Cmd), Taken resClaimSpec t s c →
    (resAny (c.u 0x08 2) = false → claimOf s (c.u 0x08 2) = none → conflictOf s.claims (c.u 0x08 2) (c.u 0x0A 1) = none →
      Answers (.resClaim t) s c stOK (le 2 (c.u 0x08 2)) (fun u => ∃ h, claimOf u (c.u 0x08 2) = some h ∧ h.kind = callerKind c.path ∧
        h.use = c.u 0x0A 1 ∧ h.tag = c.tag)) ∧
    (∀ h, resAny (c.u 0x08 2) = false → claimOf s (c.u 0x08 2) = some h → h.kind ≠ callerKind c.path →
      Answers (.resClaim t) s c stCONFLICT (holderBlock h) (fun u => u.claims = s.claims)) ∧
    (resAny (c.u 0x08 2) = true → freeInstance s (c.u 0x08 2 / 256) = none → Answers (.resClaim t) s c stNO_RESOURCE [] (fun u => u.claims = s.claims))) ∧
  (∀ (t : Take) (s : State) (c : Cmd) (h : Claim), Taken resReleaseSpec t s c → claimOf s (c.u 0x08 2) = some h →
    (h.kind = callerKind c.path → Answers (.resRelease t) s c stOK [] (fun u => claimOf u (c.u 0x08 2) = none)) ∧
    (h.kind ≠ callerKind c.path → Answers (.resRelease t) s c stCONFLICT (holderBlock h) (fun u => u.claims = s.claims))) ∧
  (∀ (t : Take) (s : State) (c : Cmd), Taken resQuerySpec t s c → Answers (.resQuery t) s c stOK
    (match claimOf s (c.u 0x08 2) with | none => le 2 (c.u 0x08 2) ++ le 1 0xFF | some h => holderBlock h) (fun u => u = journalCmd c (popCmd t.path s))) ∧
  (∀ (t : Take) (s : State) (c : Cmd), Taken remoteSyncSpec t s c → Accepts remoteSyncSpec (.remoteSync t) s c (fun u =>
    u.remote.syncs = s.remote.syncs ++ [(c.tag, c.mark)])) ∧
  (∀ (s : State) (tag hi : Nat) (a : Accepted), s.phase = .running → s.remote.syncs.find? (fun x => decide (x.1 = tag)) = some (tag, hi) →
    syncOpen s hi = false → s.accepted.find? (fun a => decide (a.opcode = 0x1000 ∧ a.tag = tag)) = some a → s.remote.failed = [] →
    Completes (.remoteSyncDone tag) s (fun t => t = complete a stOK (le 4 0 ++ le 4 0 ++ le 4 ((hi - 1) % 2 ^ 32))
      { s with remote := { s.remote with syncs := removeFirst (fun x => decide (x = (tag, hi))) s.remote.syncs } })) ∧
  (∀ (t : Take) (s : State) (c : Cmd), Taken remoteStatusSpec t s c → Answers (.remoteStatus t) s c stOK
    (le 2 (apWords s (c.u 0x08 1)) ++ le 1 (apReads s (c.u 0x08 1)) ++ zeros 1 ++ le 4 s.remote.faults) (fun u => u = journalCmd c (popCmd t.path s)))

/-! ## Frame ports (07_frame_ports.md) -/

/-- After R175, R176, R180, R196. A port that runs goes link up with its event; a loss takes it down with its event and LINK_DOWNS, and on a consist port
nothing stays queued, what was queued being counted; a PHY poll sets PHY_LINK and PHY_FAULT and takes a port without PHY link down; T goes on with its
other lane at the speed code of one lane, and is down with the last one; HI_BER shows with its event and changes nothing else. -/
def Obligations.LinkState : Prop :=
  (∀ (s : State) (p : Port) (an : Fin 8), s.phase = .running → portRuns s p.val = true → linkUp s p.val = false → Completes (.linkUp p an) s (fun t =>
    linkUp t p.val = true ∧ bit (rd t (H_PEND (portPage p.val))) 0 = true ∧ (2 ≤ p.val → t.bar2 = s.bar2 ∧ t.claims = s.claims ∧ t.churn = s.churn))) ∧
  (∀ (s : State) (p : Port) (why : LinkLoss), s.phase = .running → linkUp s p.val = true → Completes (.linkDown p why) s (fun t =>
    linkUp t p.val = false ∧ bit (rd t (H_PEND (portPage p.val))) 1 = true ∧ rd t (portCtr p.val 28) = (rd s (portCtr p.val 28) + 1) % 2 ^ 64 ∧
    (2 ≤ p.val → p.val < 14 → (∀ q ∈ t.fwd.egress, q.port ≠ p.val) ∧ t.churn = s.churn ∧
      rd t (portCtr p.val 26) = (rd s (portCtr p.val 26) + (s.fwd.egress.filter (fun q => decide (q.port = p.val))).length) % 2 ^ 64))) ∧
  (∀ (s : State) (p : Port) (d : BitVec 16), s.phase = .running → pollsPhy s p.val = true → Completes (.phyPoll p d) s (fun t =>
    rd t (PORT_STATUS_PHY_FAULT p.val) = (if d = 0xFFFF then 1 else 0) ∧
    rd t (PORT_STATUS_PHY_LINK p.val) = (if d = 0xFFFF then 0 else d.toNat / 4 % 2) ∧
    (rd t (PORT_STATUS_PHY_LINK p.val) = 0 → linkUp t p.val = false) ∧
    (rd t (PORT_STATUS_PHY_LINK p.val) = 1 → linkUp t p.val = linkUp s p.val))) ∧
  (∀ (s : State) (l : Fin 2), s.phase = .running → tUp s = true →
    (rdB s (laneUp (1 - l.val)) = true → Completes (.tLaneLoss l) s (fun t => tUp t = true ∧ rd t (laneUp l.val) = 0 ∧ rd t (laneUp (1 - l.val)) = rd s (laneUp (1 - l.val)) ∧
      rd t (PORT_STATUS_SPEED 14) = 7 ∧ rd t (PORT_STATUS_LOCAL_FAULT 14) = 1 ∧ bit (rd t (H_PEND 0x01E)) 4 = true ∧
      RegsBut ([laneUp l.val, PORT_STATUS_SPEED 14, PORT_STATUS_LOCAL_FAULT 14] ++ eventFields 0x01E) s t ∧ UnitsSame s t)) ∧
    (rdB s (laneUp (1 - l.val)) = false → Completes (.tLaneLoss l) s (fun t => tUp t = false ∧ rd t (laneUp 0) = 0 ∧ rd t (laneUp 1) = 0))) ∧
  (∀ (s : State) (p : Port), s.phase = .running → Completes (.hiBer p) s (fun t => rd t (PORT_STATUS_HI_BER p.val) = 1 ∧
    bit (rd t (H_PEND (portPage p.val))) 6 = true ∧ RegsBut (PORT_STATUS_HI_BER p.val :: eventFields (portPage p.val)) s t ∧ UnitsSame s t))

/-- After R182, R187, R188, R193, R229. On a port that is link up, of the seven receive counters exactly the one that the judgment names advances; a frame
that fails at the MAC level reaches no table, queue, memory or journal; one that fails the group filter or the tag rules is counted as such and goes
nowhere; one that MACsec drops is counted in FWD_SECDROP with its event and goes nowhere. -/
def Obligations.FrameReception : Prop :=
  ∀ (s : State) (p : Port) (f : RxFrame), s.phase = .running → linkUp s p.val = true →
    Completes (.frameRx p f) s (fun t => ∀ k ∈ [0, 5, 6, 7, 8, 15, 16], rd t (portCtr p.val k) =
      if k = macJudge s p.val f then (rd s (portCtr p.val k) + 1) % 2 ^ 64 else rd s (portCtr p.val k)) ∧
    (macJudge s p.val f ≠ 0 → Completes (.frameRx p f) s (fun t => t.fwd = s.fwd ∧ t.bar2 = s.bar2 ∧ t.twin = s.twin)) ∧
    (macJudge s p.val f = 0 → ofBe (slice f.bytes 0 6) ≠ 0x0180C2000001 →
      (groupPasses s p.val (slice f.bytes 0 6) = false → Completes (.frameRx p f) s (fun t => t.fwd = s.fwd ∧ t.bar2 = s.bar2 ∧ t.out = s.out ∧
        rd t (portCtr p.val 9) = (rd s (portCtr p.val 9) + 1) % 2 ^ 64 ∧ rd t (portCtr p.val 10) = rd s (portCtr p.val 10))) ∧
      (groupPasses s p.val (slice f.bytes 0 6) = true → tagPasses s p.val f.bytes = false → Completes (.frameRx p f) s (fun t => t.fwd = s.fwd ∧
        t.bar2 = s.bar2 ∧ t.out = s.out ∧ rd t (portCtr p.val 10) = (rd s (portCtr p.val 10) + 1) % 2 ^ 64 ∧ rd t (portCtr p.val 9) = rd s (portCtr p.val 9))) ∧
      (groupPasses s p.val (slice f.bytes 0 6) = true → tagPasses s p.val f.bytes = true →
        secDrops s p.val f (etherType (ingressFrame s p.val f)) = true → Completes (.frameRx p f) s (fun t => t.fwd = s.fwd ∧ t.bar2 = s.bar2 ∧
          rd t (FWD_SECDROP p.val) = (rd s (FWD_SECDROP p.val) + 1) % 2 ^ 32 ∧ bit (rd t (H_PEND 0x020)) 5 = true)))

/-- After R190, R193 to R195. A PAUSE or PFC on a port that honours it sets the paused bits and counts, elsewhere it counts as dropped; a pause timer's end
frees the transmitter; above XOFF the node sends a pause and counts it, repeats it from XON on, and takes it back below XON. A verify mPacket is answered;
a respond ends a running verification with preemption active and VERIFY; a timeout sends the next of three verify mPackets, and after the third ends in
failure with VERIFY. -/
def Obligations.FlowAndPreemption : Prop :=
  ((∀ (s : State) (p : Port) (q : Fin 65536), s.phase = .running → linkUp s p.val = true →
    (pauseEnabled s p.val = true → Completes (.pauseRx p q) s (fun t => rd t (PORT_STATUS_PAUSED p.val) = (if q.val = 0 then 0 else 1) ∧
      rd t (portCtr p.val 11) = (rd s (portCtr p.val 11) + 1) % 2 ^ 64 ∧ (q.val ≠ 0 → bit (rd t (H_PEND (portPage p.val))) 3 = true ∧ t.fwd = s.fwd))) ∧
    (pauseEnabled s p.val = false → Completes (.pauseRx p q) s (fun t => t = cnt s p.val 13))) ∧
  (∀ (s : State) (p : Port) (v : BitVec 8) (q : Fin 65536), s.phase = .running → linkUp s p.val = true →
    (pfcRxEnabled s p.val = true → Completes (.pfcRx p v q) s (fun t => rd t (portCtr p.val 12) = (rd s (portCtr p.val 12) + 1) % 2 ^ 64 ∧
      ∀ k : Fin 8, bit (rd t (PORT_STATUS_PFC_PAUSED p.val)) k.val =
        if bit v.toNat k.val && bit (rd s (PORT_FC_PFC_RX_EN p.val)) k.val then decide (q.val ≠ 0) else bit (rd s (PORT_STATUS_PFC_PAUSED p.val)) k.val)) ∧
    (pfcRxEnabled s p.val = false → Completes (.pfcRx p v q) s (fun t => t = cnt s p.val 13))) ∧
  (∀ (s : State) (p : Port), s.phase = .running → Completes (.pauseTimerExpiry p none) s (fun t => rd t (PORT_STATUS_PAUSED p.val) = 0) ∧
    ∀ k : Fin 8, Completes (.pauseTimerExpiry p (some k)) s (fun t => bit (rd t (PORT_STATUS_PFC_PAUSED p.val)) k.val = false)) ∧
  (∀ (s : State) (p : Port) (k : Option (Fin 8)), s.phase = .running → linkUp s p.val = true → fcSends s p.val k = true →
    (rd s (PORT_FC_THR_XOFF p.val) < occupancy s p.val k → xoffSent s p.val k = false → Completes (.flowControlXoff p k) s (fun t =>
      .frame p.val (padTo 60 (controlFrame k (rd s (PORT_FC_TIME p.val)))) ∈ t.out ∧ xoffSent t p.val k = true ∧ t.fwd = s.fwd ∧
      rd t (portCtr p.val 21) = (rd s (portCtr p.val 21) + 1) % 2 ^ 64 ∧
      (rd s (PORT_FC_TIME p.val) ≠ 0 → bit (rd t (H_PEND (portPage p.val))) 7 = true))) ∧
    (rd s (PORT_FC_THR_XON p.val) ≤ occupancy s p.val k → xoffSent s p.val k = true → Completes (.flowControlRefresh p k) s (fun t =>
      .frame p.val (padTo 60 (controlFrame k (rd s (PORT_FC_TIME p.val)))) ∈ t.out ∧ xoffSent t p.val k = true ∧ t.fwd = s.fwd)) ∧
    (occupancy s p.val k < rd s (PORT_FC_THR_XON p.val) → xoffSent s p.val k = true → Completes (.flowControlXon p k) s (fun t =>
      .frame p.val (padTo 60 (controlFrame k 0)) ∈ t.out ∧ xoffSent t p.val k = false ∧ t.fwd = s.fwd)))) ∧
  ((∀ (s : State) (p : Port), s.phase = .running → p.val ≠ 14 → portRuns s p.val = true →
    Completes (.verifyMpacketRx p false) s (fun t => t = emit s (.mpacket p.val true)) ∧
    (rd s (PORT_PREEMPT_VERIFY_STATUS p.val) = 2 → Completes (.verifyMpacketRx p true) s (fun t => rd t (PORT_PREEMPT_VERIFY_STATUS p.val) = 3 ∧
      rd t (PORT_STATUS_PREEMPT_ACTIVE p.val) = 1 ∧ bit (rd t (H_PEND (portPage p.val))) 2 = true ∧ UnitsSame s t ∧
      RegsBut ([PORT_PREEMPT_VERIFY_STATUS p.val, PORT_STATUS_PREEMPT_ACTIVE p.val] ++ eventFields (portPage p.val)) s t))) ∧
  (∀ (s : State) (p : Port), s.phase = .running → rd s (PORT_PREEMPT_VERIFY_STATUS p.val) = 2 →
    ((portSt s p.val).tries < 3 → Completes (.verifyTimeout p) s (fun t => (portSt t p.val).tries = (portSt s p.val).tries + 1 ∧
      t.out = s.out ++ [.mpacket p.val false] ∧ t.regs = s.regs)) ∧
    (3 ≤ (portSt s p.val).tries → Completes (.verifyTimeout p) s (fun t => rd t (PORT_PREEMPT_VERIFY_STATUS p.val) = 4 ∧
      rd t (PORT_STATUS_PREEMPT_ACTIVE p.val) = 0 ∧ bit (rd t (H_PEND (portPage p.val))) 2 = true ∧ UnitsSame s t))))

/-- After R153, R154, R174, R181. PORT_SET commits MODE and MAXLEN, stops a running port and holds the start where admin is up; it completes once the port
is ON or OFF, with its link. A snapshot returns the counters named, and with clear leaves them 0 and no other one changed. PORT_MDIO returns the PHY's
data, or 0xFFFF where none answered, for a read; a write's result is a free value (log entry 5). -/
def Obligations.PortCommands : Prop :=
  (∀ (t : Take) (s : State) (c : Cmd), Taken portSetSpec t s c → Accepts portSetSpec (.portSet t) s c (fun u =>
    rd u (PORT_MODE_MODE (c.u 0x08 1)) = c.u 0x09 1 ∧ rd u (PORT_MAXLEN (c.u 0x08 1)) = c.u 0x0C 2 ∧ rdShadow u (PORT_MAXLEN (c.u 0x08 1)) = c.u 0x0C 2 ∧
    (pageOn s (portPage (c.u 0x08 1)) = true → (pageSt u (portPage (c.u 0x08 1))).en = .stopping ∧
      (c.u 0x0A 1 = 1 → (pageSt u (portPage (c.u 0x08 1))).held = some true)))) ∧
  (∀ (s : State) (p : Port) (a : Accepted), s.phase = .running → findAccepted s 0x0300 (.port p.val) = some a →
    (pageSt s (portPage p.val)).en = .on ∨ (pageSt s (portPage p.val)).en = .off → Completes (.portSetDone p) s (fun t =>
      t = complete a stOK (le 1 (if linkUp s p.val then 1 else 0)) s)) ∧
  (∀ (t : Take) (s : State) (c : Cmd), Taken portCntSnapSpec t s c → Answers (.portCntSnap t) s c stOK
    (le 1 (c.u 0x0A 1) ++ zeros 7 ++ (List.range (c.u 0x0A 1)).flatMap (fun i => le 8 (rd s (portCtr (c.u 0x08 1) (c.u 0x09 1 + i))))) (fun u =>
      (c.u 0x0B 1 = 1 → ∀ i < c.u 0x0A 1, rd u (portCtr (c.u 0x08 1) (c.u 0x09 1 + i)) = 0) ∧
      (c.u 0x0B 1 = 0 → u = journalCmd c (popCmd t.path s)) ∧
      ∀ (p : Port) (k : Fin 32), (p.val ≠ c.u 0x08 1 ∨ k.val < c.u 0x09 1 ∨ c.u 0x09 1 + c.u 0x0A 1 ≤ k.val) → rd u (portCtr p.val k.val) = rd s (portCtr p.val k.val))) ∧
  (∀ (t : Take) (s : State) (c : Cmd) (d : Option (BitVec 16)), Taken (portMdioSpec d) t s c →
    (d = none ∨ bit (c.u 0x09 1) 6 = false → Answers (.portMdio t d) s c stOK (le 2 ((d.map (fun x => x.toNat)).getD 0xFFFF)) (fun u =>
      ∃ o, u = emit (journalCmd c (popCmd t.path s)) o)) ∧
    (d.isSome → bit (c.u 0x09 1) 6 = true → ∃ v, Answers (.portMdio t d) s c stOK (le 2 v) (fun u => ∃ o,
      u = nextFree (emit (journalCmd c (popCmd t.path s)) o))))

/-! ## Forwarding (08_forwarding_and_redundancy.md) -/

/-- After R155, R203, R206, R208 to R210, R216, while no copy runs. An FDB entry without room is NO_RESOURCE and changes no table; with room it stands in
bank 1, and in bank 0 too where it names bank 0, and no other key changes; a delete removes it; the zero address writes the VLAN mask. A separator rule and
a stream stand in the banks that they name, the rule of bank 0 with its hits cleared, the stream of bank 0 started afresh. FWD_BANK_COPY is WRONG_STATE in
the commit phase and otherwise copies the tables selected; the end of a copy raises COPY_DONE and keeps bank 0; a learned dynamic entry goes at its age, a
static one, or any with AGE 0, stays. -/
def Obligations.TablesAndBanks : Prop :=
  ((∀ (t : Take) (s : State) (c : Cmd) (m : BitVec 48) (vid : BitVec 12), Taken fdbSetSpec t s c → m = BitVec.ofNat 48 (beAt c.desc 0x08 6) →
    vid = BitVec.ofNat 12 (c.u 0x0E 2) → copying s = false →
    (m ≠ 0 → bit (c.u 0x13 1) 2 = false → fdbRoom s.fwd.bank1 m vid = false →
      Answers (.fdbSet t) s c stNO_RESOURCE [] (fun u => u.fwd = s.fwd)) ∧
    (m ≠ 0 → bit (c.u 0x13 1) 2 = false → fdbRoom s.fwd.bank1 m vid = true → (c.u 0x14 1 = 1 ∨ fdbRoom s.fwd.bank0 m vid = true) → ∃ res,
      Answers (.fdbSet t) s c stOK res (fun u => let e := fdbEntryOf (nowNs s) m vid (BitVec.ofNat 16 (c.u 0x10 2)) (c.u 0x12 1) (c.u 0x13 1)
        fdbFind u.fwd.bank1 m vid = some e ∧ (c.u 0x14 1 = 0 → fdbFind u.fwd.bank0 m vid = some e) ∧ (c.u 0x14 1 = 1 → u.fwd.bank0 = s.fwd.bank0) ∧
        (∀ m' v', (m' ≠ m ∨ v' ≠ vid) → fdbFind u.fwd.bank0 m' v' = fdbFind s.fwd.bank0 m' v' ∧ fdbFind u.fwd.bank1 m' v' = fdbFind s.fwd.bank1 m' v'))) ∧
    (m ≠ 0 → bit (c.u 0x13 1) 2 = true → ∃ res, Answers (.fdbSet t) s c stOK res (fun u => fdbFind u.fwd.bank1 m vid = none ∧
      (c.u 0x14 1 = 0 → fdbFind u.fwd.bank0 m vid = none))) ∧
    (m = 0 → bit (c.u 0x13 1) 2 = false → ∃ res, Answers (.fdbSet t) s c stOK res (fun u => vlanMask u.fwd.bank1 vid.toNat = c.u 0x10 2 ∧
      (c.u 0x14 1 = 0 → vlanMask u.fwd.bank0 vid.toNat = c.u 0x10 2) ∧ u.fwd.bank0.uni = s.fwd.bank0.uni ∧ u.fwd.bank0.multi = s.fwd.bank0.multi))) ∧
  (∀ (t : Take) (s : State) (c : Cmd), Taken sepRuleSetSpec t s c → copying s = false → Answers (.sepRuleSet t) s c stOK [] (fun u =>
    u.fwd.bank1.rules.lookup (c.u 0x08 1) = some (parseRule (slice c.desc 0x0C 40)) ∧
    (c.u 0x09 1 = 0 → u.fwd.bank0.rules.lookup (c.u 0x08 1) = some (parseRule (slice c.desc 0x0C 40)) ∧ rd u (SEP_HIT (c.u 0x08 1)) = 0) ∧
    (c.u 0x09 1 = 1 → u.fwd.bank0 = s.fwd.bank0 ∧ rd u (SEP_HIT (c.u 0x08 1)) = rd s (SEP_HIT (c.u 0x08 1))))) ∧
  (∀ (t : Take) (s : State) (c : Cmd) (r : Stream), Taken streamSetSpec t s c → r = parseStream (slice c.desc 0x0C 48) → copying s = false →
    Answers (.streamSet t) s c stOK [] (fun u => u.fwd.bank1.streams.lookup (c.u 0x08 2) = some r ∧
      (c.u 0x0A 1 = 0 → u.fwd.bank0.streams.lookup (c.u 0x08 2) = some r ∧ u.fwd.run.lookup (c.u 0x08 2) = some (streamFresh r (nowNs s)) ∧
        (streamDup s.fwd.bank0 (c.u 0x08 2) r = true → bit (rd u (H_PEND 0x024)) 6 = true)) ∧
      (c.u 0x0A 1 = 1 → u.fwd.bank0 = s.fwd.bank0 ∧ u.fwd.run = s.fwd.run)))) ∧
  ((∀ (t : Take) (s : State) (c : Cmd), Taken fwdBankCopySpec t s c →
    (churnPhase s = 4 → Answers (.fwdBankCopy t) s c stWRONG_STATE [] (fun u => u.fwd = s.fwd)) ∧
    (churnPhase s ≠ 4 → copying s = false → Answers (.fwdBankCopy t) s c stOK [] (fun u =>
      u.fwd = { s.fwd with bank1 := copyTables (c.u 0x08 1) s.fwd.bank0 s.fwd.bank1 }))) ∧
  (∀ s : State, s.phase = .running → copying s = true → Completes .bankCopyDone s (fun t => copying t = false ∧ bit (rd t (H_PEND 0x020)) 4 = true ∧
    t.fwd.bank0 = s.fwd.bank0 ∧ t.fwd.after = [] ∧ (s.fwd.after = [] → t.fwd.bank1 = s.fwd.bank0))) ∧
  (∀ (s : State) (m : BitVec 48) (vid : BitVec 12) (e : FdbEntry), s.phase = .running → macGroup m = false → fdbFind s.fwd.bank0 m vid = some e →
    (e.learned = true → e.static = false → rd s FDB_CTL_AGE ≠ 0 → Completes (.fdbAgeExpiry m vid) s (fun t => fdbFind t.fwd.bank0 m vid = none ∧
      fdbFind t.fwd.bank1 m vid = none ∧ ∀ m' v', (m' ≠ m ∨ v' ≠ vid) → fdbFind t.fwd.bank0 m' v' = fdbFind s.fwd.bank0 m' v')) ∧
    (e.static = true ∨ rd s FDB_CTL_AGE = 0 → Completes (.fdbAgeExpiry m vid) s (fun t => t = s))))

/-- After R222, R223. A list in range waits with its base moved into the future by whole cycles (at least 2,000 ns ahead), and the list in force stays; one
out of range is BAD_ARG with CONFIG_ERR. At its instant it is in force at its first entry with its states, CRC and cycle shown and LIST_p; a change takes
the next entry, and the first after the last. -/
def Obligations.GateLists : Prop :=
  (∀ (t : Take) (s : State) (c : Cmd), Taken gclLoadSpec t s c →
    (gatesOk (parseGates (bar2Read s (hqBase (c.u 0x09 1)) (8 * c.u 0x0A 2)) (c.u 0x0A 2)) (bar2Read s (hqBase (c.u 0x09 1)) (8 * c.u 0x0A 2)) (c.u 0x18 4) = true →
      Accepts gclLoadSpec (.gclLoad t) s c (fun u => u.fwd.gates = s.fwd.gates ∧ rd u (GATE_PSTAT_WAITING (c.u 0x08 1)) = 1 ∧
        u.fwd.gateWait.lookup (c.u 0x08 1) = some ⟨parseGates (bar2Read s (hqBase (c.u 0x09 1)) (8 * c.u 0x0A 2)) (c.u 0x0A 2),
          advanceBase (c.u 0x10 8) (c.u 0x18 4) (nowNs s), c.u 0x18 4, c.u 0x1C 4⟩)) ∧
    (gatesOk (parseGates (bar2Read s (hqBase (c.u 0x09 1)) (8 * c.u 0x0A 2)) (c.u 0x0A 2)) (bar2Read s (hqBase (c.u 0x09 1)) (8 * c.u 0x0A 2)) (c.u 0x18 4) = false →
      Answers (.gclLoad t) s c stBAD_ARG [] (fun u => bit (rd u (H_PEND 0x023)) 14 = true ∧ u.fwd = s.fwd))) ∧
  (∀ b cycle now : Nat, 0 < cycle → b < now → (advanceBase b cycle now - b) % cycle = 0 ∧ now + 2000 ≤ advanceBase b cycle now ∧
    advanceBase b cycle now < now + 2000 + cycle) ∧
  (∀ (s : State) (p : Port) (g : GateList) (e : Nat × Nat × Nat) (l : List (Nat × Nat × Nat)), s.phase = .running → p.val < 14 →
    s.fwd.gateWait.lookup p.val = some g → g.entries = e :: l → Completes (.gclTakesForce p) s (fun t => t.fwd.gates.lookup p.val = some g ∧
      t.fwd.gateWait.lookup p.val = none ∧ rd t (GATE_PSTAT_ON p.val) = 1 ∧ rd t (GATE_PSTAT_WAITING p.val) = 0 ∧ rd t (GATE_PSTAT_ENTRY p.val) = 0 ∧
      rd t (GATE_PSTAT_STATES p.val) = e.2.1 % 256 ∧ rd t (GATE_PCRC p.val) = g.crc % 2 ^ 32 ∧ rd t (GATE_CYCLE p.val) = g.cycle % 2 ^ 32 ∧
      bit (rd t (H_PEND 0x023)) p.val = true)) ∧
  (∀ (s : State) (p : Port) (g : GateList), s.phase = .running → p.val < 14 → s.fwd.gates.lookup p.val = some g → Completes (.gateChange p) s (fun t =>
    rd t (GATE_PSTAT_ENTRY p.val) = (if rd s (GATE_PSTAT_ENTRY p.val) + 1 < gateCount g.entries g.cycle 0 then rd s (GATE_PSTAT_ENTRY p.val) + 1 else 0) % 256 ∧
    t.fwd.gates = s.fwd.gates ∧ t.fwd.gateWait = s.fwd.gateWait))

/-- After R226, R227, R230, R237. With a history of at least 1, a sequence number passes at most once in a row; after a reset the next frame passes. A
reset of a recovering stream clears its history and difference, raises its event and counts; a latent test ends with difference 0, and with LATENT_ERR and
its count above the threshold alone. FRER_SEL samples the counters of its stream. After the old key's 10 ms the port keeps only the key of its transmit
association and that of association 3. -/
def Obligations.Recovery : Prop :=
  (∀ (r : Stream) (u : StreamRun) (q : Nat), 1 ≤ r.hist → q < 65536 → (recover r (recover r u (some q)).2.2 (some q)).1 = false) ∧
  (∀ (r : Stream) (u : StreamRun) (q : Nat), u.take = true → (recover r u (some q)).1 = true) ∧
  (∀ (s : State) (h : Fin 2048) (r : Stream), s.phase = .running → streamAt s h.val = some r →
    (r.seqRcvy = true → Completes (.recoveryReset h) s (fun t => (streamRun t h.val).take = true ∧ (streamRun t h.val).hist = 0 ∧ (streamRun t h.val).diff = 0 ∧
      (streamRun t h.val).nextSeq = (streamRun s h.val).nextSeq ∧ bit (rd t (H_PEND 0x024)) 2 = true ∧ t.fwd.bank0 = s.fwd.bank0 ∧
      lookupD (streamRun t h.val).cnt 6 0 = (lookupD (streamRun s h.val).cnt 6 0 + 1) % 2 ^ 32)) ∧
    (r.latentEn = true → Completes (.latentTestEnd h) s (fun t => (streamRun t h.val).diff = 0 ∧
      (if (r.latentThr : Int) < (streamRun s h.val).diff then bit (rd t (H_PEND 0x024)) 0 = true ∧ rd t FRER_STAT_LAST = h.val ∧
          lookupD (streamRun t h.val).cnt 7 0 = (lookupD (streamRun s h.val).cnt 7 0 + 1) % 2 ^ 32
        else t.regs = s.regs ∧ (streamRun t h.val).cnt = (streamRun s h.val).cnt)))) ∧
  (∀ (s : State) (i : Initiator) (v : Word), WriteActs s i 0x024 0x040 → Completes (.frerSelWrite i v) s (fun t => rd t FRER_SEL = v.toNat % 2048 ∧
    t.fwd = s.fwd ∧ ∀ k < 13, rd t (FRER_CNT k) = lookupD (streamRun s (v.toNat % 2048)).cnt k 0 % 2 ^ 32)) ∧
  (∀ (s : State) (p : Fin 2), s.phase = .running → rdB s (FWD_SECSTAT_OLD_RX p.val) = true → Completes (.macsecOldAnExpiry p) s (fun t =>
    rd t (FWD_SECSTAT_OLD_RX p.val) = 0 ∧ RegsBut [FWD_SECSTAT_OLD_RX p.val] s t ∧
    ∀ k ∈ (t.fwd.secPort.lookup p.val).getD [], k ∈ (s.fwd.secPort.lookup p.val).getD [] ∧ (k.1 = rd s (FWD_SECSTAT_TX_AN p.val) ∨ k.1 = 3)))

/-- After R234 to R236. A frame delivered to a held queue with room stands whole in its data area, with its descriptor at the tail, which advances, and the
queue pending; without holder or descriptor it is dropped and counted. FWD_HQHEAD within the used entries frees them; FWD_HTTAIL does not move back. A
transmit descriptor taken gets its STATUS and moves the head, no other byte changes, a STATUS other than sent counts as dropped, and nothing is sent of one
that is invalid or fails its check. -/
def Obligations.HostQueues : Prop :=
  (∀ (s : State) (q : Fin 32) (ing pos : Nat) (tg : Bool) (b : List Byte), (claimOf s (0x300 + q.val)).isSome → rd s (NODE_HQ_USED q.val) < 512 →
    rd s (FWD_HQTAIL q.val) < 512 → hqPlace s q.val b.length = some pos →
    bar2Read (hqDeliver q.val ing tg b s) (hqBase q.val + pos) b.length = b ∧
    bar2Read (hqDeliver q.val ing tg b s) (hqBase q.val + 16 * rd s (FWD_HQTAIL q.val)) 16 =
      le 4 pos ++ le 2 b.length ++ le 1 ing ++ le 1 ((1 - rd s (NODE_HQ_PASS q.val)) * 128 + (if tg then 64 else 0)) ++ le 8 (nowNs s) ∧
    rd (hqDeliver q.val ing tg b s) (FWD_HQTAIL q.val) = (rd s (FWD_HQTAIL q.val) + 1) % 512 ∧
    bit (rd (hqDeliver q.val ing tg b s) FWD_HQPEND) q.val = true ∧ bit (rd (hqDeliver q.val ing tg b s) (H_PEND 0x020)) (8 + q.val / 4) = true ∧
    0x2000 ≤ pos) ∧
  (∀ (s : State) (q : Fin 32) (ing : Nat) (tg : Bool) (b : List Byte), (claimOf s (0x300 + q.val)).isNone ∨ 512 ≤ rd s (NODE_HQ_USED q.val) →
    (hqDeliver q.val ing tg b s).bar2 = s.bar2 ∧ rd (hqDeliver q.val ing tg b s) (FWD_HQDROP q.val) = (rd s (FWD_HQDROP q.val) + 1) % 2 ^ 32 ∧
    rd (hqDeliver q.val ing tg b s) (FWD_HQTAIL q.val) = rd s (FWD_HQTAIL q.val)) ∧
  (∀ (s : State) (i : Initiator) (q : Fin 32) (v : Word), WriteActs s i 0x020 (0x180 + 4 * q.val) →
    (v.toNat % 512 + 512 - rd s (FWD_HQHEAD q.val)) % 512 ≤ rd s (NODE_HQ_USED q.val) → rd s (NODE_HQ_USED q.val) ≤ 512 →
    Completes (.fwdHqheadWrite i q v) s (fun t => rd t (FWD_HQHEAD q.val) = v.toNat % 512 ∧
      rd t (NODE_HQ_USED q.val) = rd s (NODE_HQ_USED q.val) - (v.toNat % 512 + 512 - rd s (FWD_HQHEAD q.val)) % 512 ∧
      bit (rd t FWD_HQPEND) q.val = decide (rd t (NODE_HQ_USED q.val) ≠ 0))) ∧
  (∀ (s : State) (i : Initiator) (q : Fin 8) (v : Word), WriteActs s i 0x020 (0x2C0 + 4 * q.val) → Completes (.fwdHttailDoorbell i q v) s (fun t =>
    rd t (FWD_HTTAIL q.val) = if (rd s (FWD_HTTAIL q.val) + 256 - rd s (FWD_HTHEAD q.val)) % 256 ≤ (v.toNat % 256 + 256 - rd s (FWD_HTHEAD q.val)) % 256
      then v.toNat % 256 else rd s (FWD_HTTAIL q.val))) ∧
  (∀ (s : State) (q : Fin 8) (good : Bool) (d data : List Byte) (st : Nat), s.phase = .running → rd s (FWD_HTHEAD q.val) ≠ rd s (FWD_HTTAIL q.val) →
    d = bar2Read s (htBase q.val + 16 * rd s (FWD_HTHEAD q.val)) 16 → data = bar2Read s (htBase q.val + leAt d 0 4) (leAt d 4 2) →
    st = (if htValid d data = false then 4 else if good = false then 3 else (htSend d data s).1) → Completes (.hostTxTake q good) s (fun t =>
      rd t (FWD_HTHEAD q.val) = (rd s (FWD_HTHEAD q.val) + 1) % 256 ∧
      memRead t.bar2 (htBase q.val + 16 * rd s (FWD_HTHEAD q.val) + 7) = BitVec.ofNat 8 st ∧ (st = 1 ∨ st = 2 ∨ st = 3 ∨ st = 4) ∧
      (∀ a, a ≠ htBase q.val + 16 * rd s (FWD_HTHEAD q.val) + 7 → memRead t.bar2 a = memRead s.bar2 a) ∧
      rd t (FWD_HTDROP q.val) = (if st = 1 then rd s (FWD_HTDROP q.val) else (rd s (FWD_HTDROP q.val) + 1) % 2 ^ 32) ∧
      (2 < st → t.fwd = s.fwd ∧ t.out = s.out)))

/-! ## Churn (09_churn.md) -/

/-- The node enters an attempt: number, phase CALLED, cause, one CALL on each backbone port that is link up, nothing of an earlier attempt (R250, R244). -/
structure Entered (att cause : Nat) (s t : State) : Prop where
  phase : churnPhase t = 1
  attempt : rd t CHURN_STAT_ATTEMPT = att
  cause : rd t CHURN_STAT_LAST_CAUSE = cause
  calls : s.churn.dead = [] → ∀ p : Fin 2, rd t (portCtr p.val 18) = if linkUp s p.val then (rd s (portCtr p.val 18) + 1) % 2 ^ 64 else rd s (portCtr p.val 18)
  discarded : t.churn.surveys = [] ∧ t.churn.agrees = [] ∧ t.churn.computed = none ∧ t.churn.accepted = none ∧ t.churn.instant = none
  keeps : t.churn.curd = s.churn.curd ∧ t.fwd.bank0 = s.fwd.bank0

/-- What a trigger of a natively churning node that has a backbone port up does (R264, R266, R267): it starts a churn from IDLE and SPLIT, restarts a running
one, is deferred within 300 µs of a pending instant, and splits where attempt 17 would be next. -/
def TriggerOutcome (cause : Nat) (s t : State) : Prop :=
  (churnPhase s = 0 ∨ churnPhase s = 5 → Entered 1 cause s t ∧ rd t CHURN_STAT_FAILURES = 0 ∧ bit (rd t (H_PEND 0x028)) 0 = true) ∧
  (1 ≤ churnPhase s ∧ churnPhase s ≤ 3 → rd s CHURN_STAT_ATTEMPT < 16 → Entered (rd s CHURN_STAT_ATTEMPT + 1) cause s t ∧
    rd t CHURN_STAT_FAILURES = rd s CHURN_STAT_FAILURES ∧ bit (rd t (H_PEND 0x028)) 4 = true) ∧
  (1 ≤ churnPhase s ∧ churnPhase s ≤ 3 → 16 ≤ rd s CHURN_STAT_ATTEMPT → churnPhase t = 5 ∧ bit (rd t (H_PEND 0x028)) 6 = true ∧
    t.churn.curd = s.churn.curd ∧ t.fwd.bank0 = s.fwd.bank0) ∧
  (churnPhase s = 4 → s.churn.instant.getD 0 ≤ nowNs s + 300000 → churnPhase t = 4 ∧ rd t CHURN_STAT_DEFERRED = 1 ∧ t.churn.instant = s.churn.instant ∧
    t.churn.accepted = s.churn.accepted) ∧
  (churnPhase s = 4 → nowNs s + 300000 < s.churn.instant.getD 0 → rd s CHURN_STAT_ATTEMPT < 16 → Entered (rd s CHURN_STAT_ATTEMPT + 1) cause s t)

/-- A failure of an attempt (R265, R266): counted, with FAIL; the next attempt with the cause, or a split at the third or after attempt 16. -/
def FailOutcome (cause : Nat) (s t : State) : Prop :=
  rd t CHURN_STAT_FAILURES = rd s CHURN_STAT_FAILURES + 1 ∧ bit (rd t (H_PEND 0x028)) 5 = true ∧ t.churn.curd = s.churn.curd ∧ t.fwd.bank0 = s.fwd.bank0 ∧
  if rd s CHURN_STAT_FAILURES = 2 ∨ 16 ≤ rd s CHURN_STAT_ATTEMPT then churnPhase t = 5 ∧ bit (rd t (H_PEND 0x028)) 6 = true
  else Entered (rd s CHURN_STAT_ATTEMPT + 1) cause s t

/-- A node that churns natively with at least one backbone port up. -/
def Churning (s : State) : Prop := churnsNatively s = true ∧ (linkUp s 0 = true ∨ linkUp s 1 = true)

/-- After R239, R255, R264, R266, R267, R291, R292, R461, on a node that churns natively with a backbone port up. A coupler contact shows in the wake
inputs; one that changes with CPL_TRIG and no link change, CHURN_START, CHURN_SET_LEAD on a car of the curd, and the three delayed triggers act as a
trigger with their cause: a first attempt from IDLE or SPLIT, the next attempt in a running churn, SPLIT where 16 attempts are used, deferred within 300 µs
of a pending instant. CHURN_SET_LEAD without a curd is WRONG_STATE. -/
def Obligations.ChurnTriggers : Prop :=
  (∀ (s : State) (e : Fin 2) (c lf : Bool), s.phase = .running → Churning s →
    Completes (.cplChange e c lf) s (fun t => bit t.sleep.inputs.toNat (1 + e.val) = c) ∧
    (bit s.sleep.inputs.toNat (1 + e.val) ≠ c → s.churn.cplTrig = true → lf = false → Completes (.cplChange e c lf) s (TriggerOutcome 3 s)) ∧
    (bit s.sleep.inputs.toNat (1 + e.val) = c ∨ s.churn.cplTrig = false ∨ lf = true → Completes (.cplChange e c lf) s (fun t => t = { s with sleep := t.sleep }))) ∧
  (∀ (t : Take) (s : State) (c : Cmd), Taken churnStartSpec t s c → Churning s → rd s CHURN_STAT_ATTEMPT < 16 →
    Accepts churnStartSpec (.churnStart t) s c (TriggerOutcome 4 s)) ∧
  (∀ (t : Take) (s : State) (c : Cmd), Taken churnSetLeadSpec t s c →
    (∀ (k : Curd) (e : CarEntry), s.churn.curd = some k → k.cars.find? (fun e => decide (e.handle.toNat = c.u 0x08 2)) = some e → Churning s →
      rd s CHURN_STAT_ATTEMPT < 16 → Accepts churnSetLeadSpec (.churnSetLead t) s c (fun u => TriggerOutcome 4 s u ∧
        u.churn.leadCmd = ⟨e.uid, BitVec.ofNat 8 (c.u 0x0A 1), BitVec.ofNat 32 (rd s CHURN_COUNT + 1)⟩)) ∧
    (s.churn.curd = none → Answers (.churnSetLead t) s c stWRONG_STATE [] (fun u => u.churn = s.churn))) ∧
  (∀ s : State, s.phase = .running → Churning s →
    (s.tcfg.churnDue = true → Completes .tcfgChurnDelay s (fun t => TriggerOutcome 4 s t ∧ t.tcfg.churnDue = false)) ∧
    (s.tcfg.keyChurnDue = true → Completes .keyChangeChurnDelay s (fun t => TriggerOutcome 4 s t ∧ t.tcfg.keyChurnDue = false)) ∧
    (s.keys.tkrChurn = true → rdB s DEV_ROLE_SELF = true → Completes .tkrChurnDelay s (fun t => TriggerOutcome 4 s t ∧ t.keys.tkrChurn = false)))

/-- A churn frame of a header h on port p passes the checks of R243 (R242, R243, R271). -/
def GoodChurn (s : State) (p : Nat) (h : ChurnHdr) : Prop :=
  linkUp s p = true ∧ s.fuses.lc ≠ 4 ∧ s.churn.dead.contains p = false ∧ s.churn.relayOnly = false ∧ s.churn.ttdp = false ∧ rdB s CHURN_CTL_MODE = false ∧
  h.known = true ∧ h.checkGood = true ∧ (authOn s = true → h.tagGood = true)

/-- After R242 to R244, R250 to R252, R265 to R267. An unknown, damaged or wrongly tagged churn frame counts in its own counter; a good CALL takes a node
in IDLE into its attempt, restarts an older attempt, answers a lower one once, and is ignored in SPLIT; the first good SURVEY in the middle of a line is
kept and goes on with the own entry, or with OVERFLOW at 64. A port without a peer counts and raises NO_PEER; a beat sends what its port owes; a partner
list is kept while the own one is missing; the attempt timer fails the attempt with cause 0x11; SPLIT_RETRY starts afresh, under a cause that is a free
value (log entry 5), where it is not 0. -/
def Obligations.ChurnExchange : Prop :=
  ((∀ (s : State) (p : Fin 2) (h : ChurnHdr) (c : BitVec 8), s.phase = .running → linkUp s p.val = true → s.fuses.lc ≠ 4 → s.churn.dead.contains p.val = false →
    (h.known = false ∨ s.churn.ttdp = true → Completes (.callRx p h c) s (fun t => t = churnCnt 15 s)) ∧
    (h.known = true → s.churn.ttdp = false → h.checkGood = false → Completes (.callRx p h c) s (fun t =>
      rd t (CHURN_CNT 4) = (rd s (CHURN_CNT 4) + 1) % 2 ^ 32 ∧ t = { s with regs := t.regs })) ∧
    (h.known = true → s.churn.ttdp = false → h.checkGood = true → authOn s = true → h.tagGood = false → churnPhase s = 0 → Completes (.callRx p h c) s (fun t =>
      rd t (CHURN_CNT 5) = (rd s (CHURN_CNT 5) + 1) % 2 ^ 32 ∧ bit (rd t (H_PEND 0x028)) 7 = true ∧ churnPhase t = 0 ∧ t.churn.tagFailed = true))) ∧
  (∀ (s : State) (p : Fin 2) (h : ChurnHdr) (c : BitVec 8), s.phase = .running → GoodChurn s p.val h → 1 ≤ h.attempt → h.attempt ≤ 16 →
    (churnPhase s = 0 → Completes (.callRx p h c) s (fun t => Entered h.attempt 6 s t ∧ rd t CHURN_STAT_FAILURES = 0 ∧ t.churn.calledRx = [p.val])) ∧
    (churnPhase s = 5 → Completes (.callRx p h c) s (fun t => t = churnCnt 0 s)) ∧
    (attempting s = true → rd s CHURN_STAT_ATTEMPT < h.attempt → Completes (.callRx p h c) s (fun t => Entered h.attempt 6 s t ∧ bit (rd t (H_PEND 0x028)) 4 = true)) ∧
    (attempting s = true → h.attempt < rd s CHURN_STAT_ATTEMPT → s.churn.answered.contains p.val = false → Completes (.callRx p h c) s (fun t =>
      rd t (portCtr p.val 18) = (rd s (portCtr p.val 18) + 1) % 2 ^ 64 ∧ t.churn.answered = s.churn.answered ++ [p.val] ∧ churnPhase t = churnPhase s))) ∧
  (∀ (s : State) (p : Fin 2) (h : ChurnHdr) (v : Survey), s.phase = .running → GoodChurn s p.val h → churnPhase s = 1 → rd s CHURN_STAT_ATTEMPT = h.attempt →
    s.churn.surveys = [] → s.churn.ownList = none → isEnd s 0 = false → isEnd s 1 = false → Completes (.surveyRx p h v) s (fun t => churnPhase t = 1 ∧
      t.churn.surveys = [(p.val, v)] ∧ (v.entries.length < 64 → (1 - p.val, Owed.survey h.uid h.twin (newerLead v.lead (knownLead s)) v.overflow
        (v.entries ++ [selfEntry s (decide (p.val = 0))])) ∈ t.churn.owed) ∧
      (64 ≤ v.entries.length → (1 - p.val, Owed.survey h.uid h.twin (newerLead v.lead (knownLead s)) true v.entries) ∈ t.churn.owed)))) ∧
  ((∀ (s : State) (p : Fin 2), s.phase = .running → attempting s = true → s.churn.calledRx.contains p.val = false → isEnd s p.val = false →
    Completes (.noPeerTimeout p) s (fun t => rd t (CHURN_CNT 14) = (rd s (CHURN_CNT 14) + 1) % 2 ^ 32 ∧ bit (rd t (H_PEND 0x028)) 11 = true)) ∧
  (∀ (s : State) (p : Fin 2), s.phase = .running → Completes (.churnBeat p) s (fun t =>
    t.churn = { s.churn with owed := s.churn.owed.filter (fun o => decide (o.1 ≠ p.val)) } ∧ t.fwd = s.fwd ∧
    (∀ k, k < 16 → rd t (CHURN_CNT k) = rd s (CHURN_CNT k)) ∧ churnPhase t = churnPhase s)) ∧
  (∀ (s : State) (l : PartnerList), s.phase = .running → churnPhase s = 1 → tUp s = true → s.churn.ownList = none →
    (∃ p : Fin 2, isEnd s p.val = false ∧ (s.churn.surveys.lookup p.val).isNone) → Completes (.partnerListRx l) s (fun t => churnPhase t = 1 ∧
      t.churn.partner = some l ∧ t.churn.surveys = s.churn.surveys)) ∧
  (∀ s : State, s.phase = .running → attempting s = true → Churning s → rd s CHURN_STAT_FAILURES < 3 → Completes .attemptTimeout s (FailOutcome 0x11 s)) ∧
  (∀ s : State, s.phase = .running → attempting s = false → Completes .attemptTimeout s (fun t => t = s)) ∧
  (∀ s : State, s.phase = .running → churnPhase s = 5 → Churning s →
    (rd s CHURN_CTL_SPLIT_RETRY ≠ 0 → Completes .splitRetryExpiry s (fun t => Entered 1 (Config.freeNat s.free % 256) s t ∧ rd t CHURN_STAT_FAILURES = 0)) ∧
    (rd s CHURN_CTL_SPLIT_RETRY = 0 → Completes .splitRetryExpiry s (fun t => t = s))))

/-- After R258 to R260. A node with both lists that meets an AGREE with BOTH accepts its curd where the digests agree, and fails the attempt with cause
0x12 where they differ; the leader whose sides have verified sends COMMIT on its partner's verified AGREE, with an instant on a whole microsecond in
CHURN_COMMIT and the phase PENDING. -/
def Obligations.Agreement : Prop :=
  (∀ (s : State) (p : Fin 2) (h : ChurnHdr) (a : Agree) (c : Curd), s.phase = .running → GoodChurn s p.val h → churnPhase s = 2 → rd s CHURN_STAT_ATTEMPT = h.attempt →
    s.churn.agrees = [] → s.churn.bothLists = true → s.churn.computed = some c → s.churn.partnerBoth = [] → a.both = true →
    (a.digest = curdDigest c → Completes (.agreeRx (some p) h a) s (fun t => t.churn.accepted = some c ∧ bit (rd t (H_PEND 0x028)) 1 = true ∧
      (churnPhase t = 3 ∨ churnPhase t = 4) ∧ t.fwd.bank0 = s.fwd.bank0 ∧ t.churn.curd = s.churn.curd)) ∧
    (a.digest ≠ curdDigest c → rd s CHURN_STAT_FAILURES < 3 → Completes (.agreeRx (some p) h a) s (FailOutcome 0x12 s))) ∧
  (∀ (s : State) (h : ChurnHdr) (a : Agree) (c : Curd), s.phase = .running → s.churn.ttdp = false → churnPhase s = 3 → tUp s = true →
    s.churn.accepted = some c → rdB s CHURN_STAT_LEADER = true → sidesVerified s (curdDigest c) = true → (s.churn.bothLists = true → decideAgree s ≠ .disagree) →
    a.both = false → a.verified = true → a.digest = curdDigest c → Completes (.agreeRx none h a) s (fun t => churnPhase t = 4 ∧
      rd t CHURN_COMMIT = (nowNs s + commitLead s c.cars.length * 1000 + 999) / 1000 * 1000 % 2 ^ 64 ∧ bit (rd t (H_PEND 0x028)) 2 = true ∧
      t.churn.accepted = some c))

/-- After R261 to R263, R265, R270. A COMMIT for the accepted curd sets the instant, from train time where both are synchronized to the same grandmaster
and domain and from COMMIT_IN otherwise, and goes on to the other port; one with another digest is held. At the instant of a pending commit the banks
exchange, the curd is committed and stored with its digest and count, the copy runs and the events are raised; a held one never accepted fails the attempt
with cause 0x15; otherwise nothing happens. -/
def Obligations.CommitOfCurd : Prop :=
  (∀ (s : State) (p : Fin 2) (h : ChurnHdr) (m : Commit) (c : Curd), s.phase = .running → GoodChurn s p.val h → rd s CHURN_STAT_ATTEMPT = h.attempt → s.churn.held = none →
    (churnPhase s = 3 → s.churn.accepted = some c → rdB s CHURN_STAT_LEADER = false → (s.churn.bothLists = true → decideAgree s ≠ .disagree) →
      m.digest = curdDigest c → Completes (.commitRx (some p) h m) s (fun t => churnPhase t = 4 ∧ bit (rd t (H_PEND 0x028)) 2 = true ∧ t.churn.accepted = some c ∧
        rd t CHURN_COMMIT = (if trainSync s = true ∧ m.synced = true ∧ (if m.domain then 1 else 0) = selDom s ∧ m.gm.toNat = rd s (TIME_GM (selDom s))
          then m.instant.toNat else nowNs s + m.commitIn) % 2 ^ 64 ∧
        (linkUp s (1 - p.val) = true → isEnd s (1 - p.val) = false → s.churn.dead = [] →
          rd t (portCtr (1 - p.val) 18) = (rd s (portCtr (1 - p.val) 18) + 1) % 2 ^ 64))) ∧
    (churnPhase s = 3 → s.churn.accepted = some c → rdB s CHURN_STAT_LEADER = false → (s.churn.bothLists = true → decideAgree s ≠ .disagree) →
      m.digest ≠ curdDigest c → Completes (.commitRx (some p) h m) s (fun t => churnPhase t = 3 ∧ t.churn.held.isSome))) ∧
  (∀ (s : State) (c : Curd), s.phase = .running → s.churn.relayOnly = false → churnPhase s = 4 → s.churn.accepted = some c →
    Completes .commitInstant s (fun t => t.churn.curd = some c ∧ t.churn.digest = curdDigest c ∧ rd t CHURN_COUNT = c.count.toNat ∧ t.fwd.bank0 = s.fwd.bank1 ∧
      t.store.curd = some c ∧ t.store.curdDigest = curdDigest c ∧ copying t = true ∧ bit (rd t (H_PEND 0x028)) 3 = true ∧
      bit (rd t (H_PEND 0x020)) 3 = true ∧ (s.churn.deferred = none → churnPhase t = 0))) ∧
  (∀ s : State, s.phase = .running → s.churn.relayOnly = false → attempting s = true → s.churn.held.isSome → Churning s → rd s CHURN_STAT_FAILURES < 3 →
    Completes .commitInstant s (FailOutcome 0x15 s)) ∧
  (∀ s : State, s.phase = .running → churnPhase s ≠ 4 → (attempting s = false ∨ s.churn.held = none) → Completes .commitInstant s (fun t => t = s))

/-- After R271, R272. CHURN_MODE with inhibit but without mode 1 is WRONG_STATE and otherwise sets both fields; in TTDP mode a HELLO or TOPOLOGY makes the
neighbour of its port known and its loss unknown, the timers send on ports that are up, and an inauguration with cars becomes the committed and stored curd
under the next churn count unless it is inhibited. -/
def Obligations.TtdpMode : Prop :=
  (∀ (t : Take) (s : State) (c : Cmd), Taken churnModeSpec t s c →
    (c.u 0x08 1 = 0 ∧ c.u 0x09 1 = 1 → Answers (.churnMode t) s c stWRONG_STATE [] (fun u => rd u CHURN_CTL_MODE = rd s CHURN_CTL_MODE ∧
      rd u CHURN_CTL_INHIBIT = rd s CHURN_CTL_INHIBIT)) ∧
    (¬ (c.u 0x08 1 = 0 ∧ c.u 0x09 1 = 1) → Answers (.churnMode t) s c stOK [] (fun u => rd u CHURN_CTL_MODE = c.u 0x08 1 ∧
      rdShadow u CHURN_CTL_MODE = c.u 0x08 1 ∧ rd u CHURN_CTL_INHIBIT = c.u 0x09 1 ∧ u.churn = s.churn))) ∧
  (∀ (s : State) (p : Fin 2), s.phase = .running → s.churn.ttdp = true → linkUp s p.val = true →
    (∀ f : Bool, Completes (.ttdpHelloRx p f) s (fun t => p.val ∈ t.churn.ttdpPeer ∧ t = { s with churn := t.churn })) ∧
    Completes (.ttdpTopologyRx p) s (fun t => p.val ∈ t.churn.ttdpPeer ∧ t = { s with churn := t.churn }) ∧
    Completes (.ttdpTimerExpiry (.neighbourLost p)) s (fun t => p.val ∉ t.churn.ttdpPeer ∧ t = { s with churn := t.churn }) ∧
    Completes (.ttdpTimerExpiry .helloFast) s (fun t => .ttdp p.val 0 ∈ t.out) ∧ Completes (.ttdpTimerExpiry .helloSlow) s (fun t => .ttdp p.val 1 ∈ t.out) ∧
    Completes (.ttdpTimerExpiry .topology) s (fun t => .ttdp p.val 2 ∈ t.out)) ∧
  (∀ (s : State) (x : TtdpInaug), s.phase = .running → s.churn.ttdp = true → x.cars ≠ [] →
    (rdB s CHURN_CTL_INHIBIT = true → Completes (.ttdpCommit x) s (fun t => t = s)) ∧
    (rdB s CHURN_CTL_INHIBIT = false → Completes (.ttdpCommit x) s (fun t => ∃ c, t.churn.curd = some c ∧ c.ttdp = true ∧ c.cars.length = x.cars.length ∧
      rd t CHURN_COUNT = (rd s CHURN_COUNT + 1) % 2 ^ 32 ∧ t.store.curd = some c)))

/-! ## Train addressing and the hierarchy (10_train_addressing_and_hierarchy.md) -/

/-- The state of roster entry n (R296): 0 FREE, 1 OFFERED, 2 PRESENT, 3 LOST. -/
def entryState (s : State) (n : Nat) : Nat := rd s (DEV_WRK_STATE n)

/-- The roster entries of t other than n show what they showed in s. -/
def OthersSame (n : Nat) (s t : State) : Prop :=
  ∀ m, m < 64 → m ≠ n → entryState t m = entryState s m ∧ rd t (DEV_WRK_UID m) = rd s (DEV_WRK_UID m)

/-- After R294, R296. A HELLO with a bad CRC or from a link that is not the car's changes nothing; one of a new worker takes a chosen entry as OFFERED
below the quota and is refused with its event at the quota; a LOST worker is offered its entry again; a PRESENT one shows its second link. An ACK of the
entry makes it PRESENT with its event; retries go up to three and then free an OFFERED entry and lose a PRESENT one; a beat timeout loses a PRESENT entry
and the hold's end frees a LOST one; no row changes another entry. -/
def Obligations.WorkerRoster : Prop :=
  (∀ (s : State) (w : WorkerHello), s.phase = .running → (w.crcGood = false ∨ ownLink s w.link.toNat = false) → Completes (.workerHelloRx w) s (fun t => t = s)) ∧
  (∀ (s : State) (w : WorkerHello), s.phase = .running → w.crcGood = true → ownLink s w.link.toNat = true →
    (∀ n, entryByUid s w.uid.toNat = none → rosterUsed s < rosterQuota s → chooseEntry s w.lastIndex = some n → Completes (.workerHelloRx w) s (fun t =>
      n < 64 ∧ entryState t n = 1 ∧ rd t (DEV_WRK_UID n) = w.uid.toNat ∧ lookupD t.roster.sends n 0 = 1 ∧ OthersSame n s t)) ∧
    (entryByUid s w.uid.toNat = none → rosterQuota s ≤ rosterUsed s → Completes (.workerHelloRx w) s (fun t =>
      bit (rd t (H_PEND 0x000)) 11 = true ∧ OthersSame 64 s t)) ∧
    (∀ n, entryByUid s w.uid.toNat = some n → entryState s n = 3 → rosterUsed s < rosterQuota s → Completes (.workerHelloRx w) s (fun t =>
      entryState t n = 1 ∧ rd t (DEV_WRK_UID n) = w.uid.toNat ∧ OthersSame n s t)) ∧
    (∀ n, entryByUid s w.uid.toNat = some n → entryState s n = 2 → w.link.toNat ≠ rd s (DEV_WRK_STATE_LINK1 n) → rd s (DEV_WRK_STATE_LINK2 n) = 0xFF →
      otherTwin (rd s (DEV_WRK_STATE_LINK1 n)) w.link.toNat = true → Completes (.workerHelloRx w) s (fun t => entryState t n = 2 ∧
        rd t (DEV_WRK_STATE_LINK2 n) = w.link.toNat ∧ rd t (DEV_WRK_STATE_LINK1 n) = rd s (DEV_WRK_STATE_LINK1 n) ∧ OthersSame n s t))) ∧
  (∀ (s : State) (w : WorkerAck) (n : Nat), s.phase = .running → w.crcGood = true → ownLink s w.link.toNat = true → entryByUid s w.uid.toNat = some n →
    w.index = n + 1 → w.churn.toNat = rd s CHURN_COUNT →
    (entryState s n = 1 → Completes (.workerAckRx w) s (fun t => entryState t n = 2 ∧ rd t (DEV_WRK_STATE_LINK1 n) = w.link.toNat ∧
      bit (rd t (H_PEND 0x000)) 10 = true ∧ lookupD t.roster.sends n 0 = 0 ∧ OthersSame n s t)) ∧
    (entryState s n = 2 → Completes (.workerAckRx w) s (fun t => lookupD t.roster.sends n 0 = 0 ∧ t.regs = s.regs))) ∧
  (∀ (s : State) (n : Fin 64), s.phase = .running →
    (lookupD s.roster.sends n.val 0 = 0 → Completes (.assignRetry n) s (fun t => t = s)) ∧
    (entryState s n.val = 1 ∨ entryState s n.val = 2 → 0 < lookupD s.roster.sends n.val 0 → lookupD s.roster.sends n.val 0 < 3 →
      Completes (.assignRetry n) s (fun t => lookupD t.roster.sends n.val 0 = lookupD s.roster.sends n.val 0 + 1 ∧ entryState t n.val = entryState s n.val ∧
        OthersSame n.val s t)) ∧
    (entryState s n.val = 1 → 3 ≤ lookupD s.roster.sends n.val 0 → Completes (.assignRetry n) s (fun t => entryState t n.val = 0 ∧
      rd t (DEV_WRK_UID n.val) = 0 ∧ OthersSame n.val s t)) ∧
    (entryState s n.val = 2 → 3 ≤ lookupD s.roster.sends n.val 0 → Completes (.assignRetry n) s (fun t => entryState t n.val = 3 ∧
      bit (rd t (H_PEND 0x000)) 10 = true ∧ OthersSame n.val s t)) ∧
    (entryState s n.val = 2 → Completes (.rosterBeatTimeout n) s (fun t => entryState t n.val = 3 ∧ rd t (DEV_WRK_UID n.val) = rd s (DEV_WRK_UID n.val) ∧
      bit (rd t (H_PEND 0x000)) 10 = true ∧ OthersSame n.val s t)) ∧
    (entryState s n.val ≠ 2 → Completes (.rosterBeatTimeout n) s (fun t => t = s)) ∧
    (entryState s n.val = 3 → Completes (.rosterHoldExpiry n) s (fun t => entryState t n.val = 0 ∧ rd t (DEV_WRK_UID n.val) = 0 ∧
      bit (rd t (H_PEND 0x000)) 10 = true ∧ OthersSame n.val s t)) ∧
    (entryState s n.val ≠ 3 → Completes (.rosterHoldExpiry n) s (fun t => t = s)))

/-- After R278, R281, R286, R289 to R292. A node owns its twin addresses of both families, and the car-node ones only while active or solo; a request for
an owned address is answered, another passed on. A segment of no accepted source changes nothing; one of several is kept; a single whole one of a higher
sequence that verifies is pending, stored, and owes its churn; a lower one shows OLDER, an invalid one INVALID, and neither is stored; the timeout drops
segments; the manager sends every segment to B1, B2 and T. At a commit the pending configuration comes into force with its AUTH, the management VID stays,
and the manager role follows the curd. -/
def Obligations.TrainConfigurationAndArp : Prop :=
  ((∀ (s : State) (e : AmapEntry), ownEntry s = some e → e.handle < 65536 →
    arpOwner s (numIp e.car (1 + twinNo s)) = some (trainMac (twinNo s) e.handle) ∧ arpOwner s (handleIp e.handle (1 + twinNo s)) = some (trainMac (twinNo s) e.handle) ∧
    arpOwner s (numIp e.car 3) = (if isActive s then some (trainMac 2 e.handle) else none) ∧
    arpOwner s (handleIp e.handle 3) = (if isActive s then some (trainMac 2 e.handle) else none)) ∧
  (∀ (s : State) (p : Port) (ip : BitVec 32) (mac : BitVec 48) (from_ : BitVec 32), s.phase = .running → linkUp s p.val = true →
    (∀ own, arpOwner s ip.toNat = some own → Completes (.arpRequestRx p ip mac from_) s (fun t =>
      t = sendOwn p.val (pcpClass s 0) (arpBytes s mac.toNat 2 own ip.toNat mac.toNat from_.toNat) s)) ∧
    (arpOwner s ip.toNat = none → Completes (.arpRequestRx p ip mac from_) s (fun t =>
      t = enginePath p.val (parseFrame (arpBytes s (2 ^ 48 - 1) 1 mac.toNat from_.toNat 0 ip.toNat) (pvid s p.val) (rd s (PORT_VLAN_DEF_PCP p.val))) true s)))) ∧
  ((∀ (s : State) (g : TcfgSeg) (v : Bool), s.phase = .running → g.crcGood = true → tcfgSource s g = false → Completes (.tcfgRx g v) s (fun t => t = s)) ∧
  (∀ (s : State) (g : TcfgSeg) (v : Bool), s.phase = .running → g.crcGood = true → tcfgSource s g = true → s.tcfg.segs = [] → g.data ≠ [] → g.data.length ≤ 1024 →
    g.index < g.count → g.count ≤ 16 →
    (1 < g.count → Completes (.tcfgRx g v) s (fun t => t.tcfg.segs = [(g.index, g.data)] ∧ t.tcfg.segSeq = g.seq.toNat ∧ t = { s with tcfg := t.tcfg })) ∧
    (∀ c, g.count = 1 → g.total = g.data.length → v = true → parseTcfg g.data = some c → c.seq = g.seq → tcfgSeq s < g.seq.toNat → Completes (.tcfgRx g v) s (fun t =>
      t.tcfg.pend = some c ∧ t.tcfg.inForce = s.tcfg.inForce ∧ t.tcfg.churnDue = true ∧ t.store.tcfg = some c ∧ rd t DEV_TCFG_PEND = c.seq.toNat ∧
      rd t DEV_TCFG_STAT_INVALID = 0 ∧ rd t DEV_TCFG_STAT_OLDER = 0 ∧ bit (rd t (H_PEND 0x000)) 9 = true)) ∧
    (g.count = 1 → g.seq.toNat < tcfgSeq s → Completes (.tcfgRx g v) s (fun t => rd t DEV_TCFG_STAT_OLDER = 1 ∧ bit (rd t (H_PEND 0x000)) 9 = true ∧
      t.store = s.store ∧ newestTcfg t = newestTcfg s)) ∧
    (g.count = 1 → tcfgSeq s < g.seq.toNat → (v = false ∨ parseTcfg g.data = none) → Completes (.tcfgRx g v) s (fun t => rd t DEV_TCFG_STAT_INVALID = 1 ∧
      bit (rd t (H_PEND 0x000)) 9 = true ∧ t.store = s.store ∧ newestTcfg t = newestTcfg s))) ∧
  (∀ s : State, s.phase = .running → Completes .tcfgSegmentTimeout s (fun t => t.tcfg.segs = [] ∧ t = { s with tcfg := t.tcfg } ∧ newestTcfg t = newestTcfg s)) ∧
  (∀ (s : State) (c : TrainConfig), s.phase = .running → s.tcfg.sendDue = true → rdB s DEV_ROLE_SELF = true → rdB s TWIN_STAT_LATE = false → newestTcfg s = some c →
    Completes .tcfgSend s (fun t => t.tcfg.sendDue = false ∧
      t.fwd.frameNo = s.fwd.frameNo + (c.bytes.length + 1023) / 1024 * ([0, 1, 14].filter (linkUp s)).length)) ∧
  (∀ s : State, s.phase = .running → (s.tcfg.sendDue = false ∨ rdB s DEV_ROLE_SELF = false) → Completes .tcfgSend s (fun t => t = s)) ∧
  (∀ (s : State) (k : Curd) (c : TrainConfig), s.phase = .running → s.churn.relayOnly = false → churnPhase s = 4 → s.churn.accepted = some k → s.churn.deferred = none →
    Completes .commitInstant s (fun t =>
      (s.tcfg.pend = some c → t.tcfg.inForce = some c ∧ t.tcfg.pend = none ∧ rd t DEV_TCFG = c.seq.toNat ∧ rd t DEV_TCFG_PEND = 0 ∧
        rd t CHURN_CTL_AUTH = (if c.auth then 1 else 0)) ∧ mgmtVid t = mgmtVid s ∧
      (∀ m w, managerOf k (match s.tcfg.inForce with | none => [] | some c => c.mgrEligible) = some (m, w) → rd t DEV_ROLE_HANDLE = m.handle.toNat ∧
        rdB t DEV_ROLE_TWIN = w ∧ rdB t DEV_ROLE_SELF = decide (m.uid = s.fuses.uid ∧ w = s.fuses.twinId)))))
/-! ## Train time (11_train_time.md) -/

/-- After R157, R314, R315, R317 to R322. CMP_ARM and CMP_DISARM are WRONG_STATE for another than the holder; an armed line use with a period below 20,000
ns is BAD_ARG, a target less than 2,000 ns ahead TOO_LATE; otherwise the comparator is armed as written and nothing else changes. A held target within 2 s
is armed; a comparator fires only where its target is reached, shows and counts it, and goes on by its period or is disarmed. An edge that is not selected
shows its level alone; a selected one counts, raises its event, and is stamped, or overruns within 20 ns; a shadow's own edge does neither. -/
def Obligations.ComparatorsAndCaptures : Prop :=
  (∀ (t : Take) (s : State) (c : Cmd), Taken cmpArmSpec t s c →
    (holds s c.path (cmpRes (c.u 0x08 1)) = false → Answers (.cmpArm t) s c stWRONG_STATE [] (fun u => u = startOf cmpArmSpec t c s)) ∧
    (holds s c.path (cmpRes (c.u 0x08 1)) = true → c.u 0x09 1 = 1 → lineUse (cmpUse s (c.u 0x08 1)) = true → c.u 0x18 4 < 20000 →
      Answers (.cmpArm t) s c stBAD_ARG [] (fun u => u = startOf cmpArmSpec t c s)) ∧
    (holds s c.path (cmpRes (c.u 0x08 1)) = true → (c.u 0x09 1 = 0 ∨ lineUse (cmpUse s (c.u 0x08 1)) = false ∨ 20000 ≤ c.u 0x18 4) →
      (c.u 0x10 8 < nowNs s + 2000 → Answers (.cmpArm t) s c stTOO_LATE [] (fun u => u = startOf cmpArmSpec t c s)) ∧
      (nowNs s + 2000 ≤ c.u 0x10 8 → Answers (.cmpArm t) s c stOK [] (fun u =>
        rd u (TRIG_CMP_ARMED (c.u 0x08 1)) = 1 ∧ rd u (TRIG_CMP_PERIODIC (c.u 0x08 1)) = c.u 0x09 1 ∧ rd u (TRIG_CMP_FIRES (c.u 0x08 1)) = 0 ∧
        rd u (TRIG_TGT (c.u 0x08 1)) = c.u 0x10 8 ∧ cmpPeriod u (c.u 0x08 1) = (if c.u 0x09 1 = 1 then c.u 0x18 4 else 0) ∧
        rd u (TRIG_CMP_HELD_TCS (c.u 0x08 1)) = (if nowNs s + 2000000000 < c.u 0x10 8 then 1 else 0) ∧
        u = { startOf cmpArmSpec t c s with regs := u.regs, time := u.time } ∧
        RegsBut [TRIG_CMP_ARMED (c.u 0x08 1), TRIG_CMP_PERIODIC (c.u 0x08 1), TRIG_CMP_FIRES (c.u 0x08 1), TRIG_TGT (c.u 0x08 1),
          TRIG_CMP_HELD_TCS (c.u 0x08 1)] (startOf cmpArmSpec t c s) u)))) ∧
  (∀ (t : Take) (s : State) (c : Cmd), Taken cmpDisarmSpec t s c →
    (holds s c.path (cmpRes (c.u 0x08 1)) = false → Answers (.cmpDisarm t) s c stWRONG_STATE [] (fun u => u = startOf cmpDisarmSpec t c s)) ∧
    (holds s c.path (cmpRes (c.u 0x08 1)) = true → Answers (.cmpDisarm t) s c stOK
      (le 1 (if s.time.firedSince.contains (c.u 0x08 1) then 1 else 0)) (fun u => rd u (TRIG_CMP_ARMED (c.u 0x08 1)) = 0 ∧
        u = { startOf cmpDisarmSpec t c s with regs := u.regs, time := u.time } ∧
        RegsBut [TRIG_CMP_ARMED (c.u 0x08 1), TRIG_CMP_PERIODIC (c.u 0x08 1), TRIG_CMP_HELD_TCS (c.u 0x08 1)] (startOf cmpDisarmSpec t c s) u))) ∧
  (∀ (s : State) (c : Fin 32), s.phase = .running →
    (cmpArmed s c.val = true → rdB s (TRIG_CMP_HELD_TCS c.val) = true → rd s (TRIG_TGT c.val) ≤ nowNs s + 2000000000 → Completes (.cmpHeldArm c) s (fun t =>
      rd t (TRIG_CMP_HELD_TCS c.val) = 0 ∧ RegsBut [TRIG_CMP_HELD_TCS c.val] s t ∧ UnitsSame s t)) ∧
    (nowNs s + 2000000000 < rd s (TRIG_TGT c.val) → Completes (.cmpHeldArm c) s (fun t => t = s)) ∧
    ((cmpArmed s c.val = false ∨ rdB s (TRIG_CMP_HELD_TCS c.val) = true ∨ cmpReached (nowNs s) (rd s (TRIG_TGT c.val)) = false) →
      Completes (.cmpFire c) s (fun t => t = s)) ∧
    (∀ u, cmpArmed s c.val = true → rdB s (TRIG_CMP_HELD_TCS c.val) = false → cmpReached (nowNs s) (rd s (TRIG_TGT c.val)) = true →
      cmpUse s c.val = some u → (lineUse (some u) = true → c.val ∈ s.time.passed) → Completes (.cmpFire c) s (fun t =>
        bit (rd t TRIG_FIRED) c.val = true ∧ rd t (TRIG_CMP_FIRES c.val) = (rd s (TRIG_CMP_FIRES c.val) + 1) % 2 ^ 16 ∧
        (u = 0x14 → bit (rd t (H_PEND 0x031)) (c.val / 4) = true ∧ t.out.length ≤ s.out.length + 16 ∧ t.bar2 = s.bar2 ∧ t.load = s.load ∧ t.mbus = s.mbus ∧
          t.tlg = s.tlg) ∧
        (rdB s (TRIG_CMP_PERIODIC c.val) = true → cmpArmed t c.val = true ∧ rd t (TRIG_TGT c.val) = (rd s (TRIG_TGT c.val) + cmpPeriod s c.val) % 2 ^ 64) ∧
        (rdB s (TRIG_CMP_PERIODIC c.val) = false → cmpArmed t c.val = false ∧ rd t (TRIG_TGT c.val) = rd s (TRIG_TGT c.val)) ∧
        (∀ n : Fin 8, u = 1 + n.val → bit t.time.trig.toNat n.val = (if rdB s (TRIG_OUT_TOGGLE n.val) then !bit s.time.trig.toNat n.val else true))))) ∧
  (∀ (s : State) (n : Fin 8) (e : CapEdge), s.phase = .running →
    (edgeSelected s n.val e.rising = false → Completes (.captureEdge n e) s (fun t => t = wrBit s TRIG_CAPSTAT_LEVEL n.val e.rising)) ∧
    (edgeSelected s n.val e.rising = true → role s = 1 → Completes (.captureEdge n e) s (fun t => t.events = s.events ∧ t.twin = s.twin ∧
      RegsBut [TRIG_CAPSTAT_LEVEL, TIME_CAPSKEW] s t)) ∧
    (edgeSelected s n.val e.rising = true → role s ≠ 1 → Completes (.captureEdge n e) s (fun t => bit (rd t (H_PEND 0x031)) (8 + n.val) = true ∧
      rd t (TRIG_CAP_CNT n.val) = (rd s (TRIG_CAP_CNT n.val) + 1) % 2 ^ 32 ∧
      t.twin.own = (if role s = 0 then s.twin.own ++ [⟨5, .capture n e, true⟩] else s.twin.own) ∧
      (20 ≤ (e.stamp.toNat + 2 ^ 64 - rd s (TRIG_CAP n.val)) % 2 ^ 64 → rd t (TRIG_CAP n.val) = e.stamp.toNat ∧
        rd t (TRIG_CAP_FLG_RISING n.val) = (if e.rising then 1 else 0) ∧ rd t (TRIG_CAP_FLG_HALF n.val) = (if e.half then 1 else 0) ∧
        rd t TRIG_CAPSTAT_OVERRUN = rd s TRIG_CAPSTAT_OVERRUN) ∧
      (rd s (TRIG_CAP n.val) ≠ 0 → (e.stamp.toNat + 2 ^ 64 - rd s (TRIG_CAP n.val)) % 2 ^ 64 < 20 → rd t (TRIG_CAP n.val) = rd s (TRIG_CAP n.val) ∧
        bit (rd t TRIG_CAPSTAT_OVERRUN) n.val = true) ∧
      RegsBut ([TRIG_CAPSTAT_LEVEL, TRIG_CAPSTAT_OVERRUN, TRIG_CAP_CNT n.val, TRIG_CAP n.val, TRIG_CAP_FLG_RISING n.val, TRIG_CAP_FLG_HALF n.val] ++
        eventFields 0x031) s t)))

/-- After R303, R304, R306, R307. A Sync that is not on the slave port of an enabled domain changes nothing; one that is counts as good within SYNC_THR,
synchronizes at the sixteenth, ends synchronization at the second beyond ten times it, shows its offset and is relayed once train time is stepped; a new
grandmaster is shown with its event. An Announce sets the slave port or makes the node the grandmaster; the grandmaster sends on every port; a receipt
timeout ends synchronization, and the last Announce the grandmaster. The third good exchange shows the link delay and whether it is asCapable. -/
def Obligations.GptpDomains : Prop :=
  (∀ (s : State) (d : Fin 2) (p : Port) (m : SyncMeas), s.phase = .running →
    ((rdB s (TIME_DOM_EN d.val) = false ∨ gptpPort s p.val = false ∨ gmSelf s d.val = true ∨ (domSt s d.val).slave ≠ p.val) →
      Completes (.syncRx d p m) s (fun t => t = s)) ∧
    (rdB s (TIME_DOM_EN d.val) = true → gptpPort s p.val = true → (domSt s d.val).known = true → gmSelf s d.val = false → (domSt s d.val).slave = p.val →
      m.followUp = true →
      (rd s (TIME_GM d.val) = m.gm.toNat →
        (15 ≤ (domSt s d.val).good → m.servo.natAbs ≤ syncThr s → Completes (.syncRx d p m) s (fun t => domSync t d.val = true ∧
          (domSync s d.val = false → bit (rd t (H_PEND 0x030)) d.val = true))) ∧
        (m.servo.natAbs ≤ syncThr s → Completes (.syncRx d p m) s (fun t => (domSt t d.val).good = min 16 ((domSt s d.val).good + 1))) ∧
        (1 ≤ (domSt s d.val).bad → 10 * syncThr s < m.servo.natAbs → Completes (.syncRx d p m) s (fun t => domSync t d.val = false)) ∧
        (rdB s TIME_STAT_STEPPED = true → Completes (.syncRx d p m) s (fun t => rd t (TIME_OFF d.val) = s32 m.offset ∧ t.time.ns = s.time.ns ∧
          ∀ q : Port, gptpPort s q.val = true → q ≠ p → .gptp q.val d.val 0 0 ∈ t.out))) ∧
      (rd s (TIME_GM d.val) ≠ m.gm.toNat → Completes (.syncRx d p m) s (fun t => domSync t d.val = false ∧ rd t (TIME_GM d.val) = m.gm.toNat ∧
        bit (rd t (H_PEND 0x030)) (5 + d.val) = true)))) ∧
  (∀ (s : State) (d : Fin 2) (p : Port) (a : AnnounceMsg), s.phase = .running →
    ((rdB s (TIME_DOM_EN d.val) = false ∨ gptpPort s p.val = false) → Completes (.announceRx d p a) s (fun t => t = s)) ∧
    (rdB s (TIME_DOM_EN d.val) = true → gptpPort s p.val = true → a.self = true → rdB s (TIME_DOM_GM_CAP d.val) = true →
      Completes (.announceRx d p a) s (fun t => gmSelf t d.val = true ∧ rd t (TIME_GM d.val) = clockIdentity ∧ (domSt t d.val).known = true)) ∧
    (rdB s (TIME_DOM_EN d.val) = true → gptpPort s p.val = true → a.self = false → Completes (.announceRx d p a) s (fun t =>
      gmSelf t d.val = false ∧ (domSt t d.val).slave = a.slave.val ∧ (domSt t d.val).known = true ∧
      ((domSt s d.val).known = true → rd s (TIME_GM d.val) ≠ a.gm.toNat → rd t (TIME_GM d.val) = a.gm.toNat ∧ domSync t d.val = false ∧
        bit (rd t (H_PEND 0x030)) (5 + d.val) = true)))) ∧
  (∀ (s : State) (d : Fin 2) (announce : Bool), s.phase = .running →
    (rdB s (TIME_DOM_EN d.val) = true → gmSelf s d.val = true → Completes (.syncInterval d announce) s (fun t => t = { s with out := t.out } ∧
      ∀ q : Port, gptpPort s q.val = true → .gptp q.val d.val (if announce then 1 else 0) (ownClass s d.val) ∈ t.out)) ∧
    (gmSelf s d.val = false → Completes (.syncInterval d false) s (fun t => t = s))) ∧
  (∀ (s : State) (d : Fin 2), s.phase = .running →
    (gmSelf s d.val = true → Completes (.syncReceiptTimeout d) s (fun t => t = s) ∧ ∀ a, Completes (.announceReceiptTimeout d a) s (fun t => t = s)) ∧
    (gmSelf s d.val = false → Completes (.syncReceiptTimeout d) s (fun t => domSync t d.val = false ∧ (domSt t d.val).good = 0 ∧
      rd t (TIME_GM d.val) = rd s (TIME_GM d.val) ∧ (domSync s d.val = true → bit (rd t (H_PEND 0x030)) d.val = true))) ∧
    (gmSelf s d.val = false → (domSt s d.val).known = true → Completes (.announceReceiptTimeout d none) s (fun t => domSync t d.val = false ∧
      (domSt t d.val).known = false ∧ rd t (TIME_GM d.val) = 0 ∧ bit (rd t (H_PEND 0x030)) (5 + d.val) = true))) ∧
  (∀ (s : State) (p : Port) (ok : Bool) (delay : Fin 16777216), s.phase = .running →
    (gptpOn s p.val = false → Completes (.pdelayExchange p ok delay) s (fun t => t = s)) ∧
    (gptpOn s p.val = true →
      Completes (.pdelayExchange p false delay) s (fun t => lookupD t.time.pdelay p.val 0 = 0 ∧ t = { s with time := t.time }) ∧
      (lookupD s.time.pdelay p.val 0 < 2 → Completes (.pdelayExchange p true delay) s (fun t => t = { s with time := t.time } ∧
        lookupD t.time.pdelay p.val 0 = lookupD s.time.pdelay p.val 0 + 1)) ∧
      (2 ≤ lookupD s.time.pdelay p.val 0 → Completes (.pdelayExchange p true delay) s (fun t =>
        rd t (TIME_LINKDLY p.val) = mdiDelay s p.val delay.val ∧ rd t (TIME_LINKDLY_VALID p.val) = 1 ∧
        rd t (TIME_LINKDLY_ASCAPABLE p.val) = (if rd s TIME_DLYLIM * 10 < mdiDelay s p.val delay.val then 0 else 1) ∧
        (rd s TIME_DLYLIM * 10 < mdiDelay s p.val delay.val → bit (rd t (H_PEND 0x030)) 9 = true) ∧
        RegsBut ([TIME_LINKDLY p.val, TIME_LINKDLY_VALID p.val, TIME_LINKDLY_ASCAPABLE p.val] ++ eventFields 0x030) s t))))

/-- After R301, R308 to R312. TIME_SELECT commits its setting; the loss of the preferred domain selects the other one with a slew where it is synchronized,
and begins HOLDOVER where it is not; REVERT brings the preferred one back; none of these moves the counter after the step. A slew's end raises SLEW_DONE at
the rate in force. A PPS edge makes an armed load the one step; later ones keep the counter, and change the rate of a grandmaster alone, within ±250 ppm. A
load is armed only before the step. Twin skew shows after three measurements beyond 100 ns and goes after three within 50 ns; it changes no role. -/
def Obligations.TrainTimeFollows : Prop :=
  (∀ (t : Take) (s : State) (c : Cmd), Taken timeSelectSpec t s c → Answers (.timeSelect t) s c stOK [] (fun u =>
    rd u TIME_CTL_SELECT = c.u 0x08 1 ∧ rdShadow u TIME_CTL_SELECT = c.u 0x08 1 ∧ (c.u 0x08 1 ≤ 1 → selDom u = c.u 0x08 1) ∧
    (rdB s TIME_STAT_STEPPED = true → u.time.ns = s.time.ns) ∧ u.claims = s.claims)) ∧
  (∀ (s : State) (d : Fin 2), s.phase = .running → rdB s TIME_STAT_STEPPED = true → 2 ≤ rd s TIME_CTL_SELECT → rd s TIME_CTL_PREF = d.val →
    selDom s = d.val → gmSelf s d.val = false →
    (domSync s (1 - d.val) = true → Completes (.syncReceiptTimeout d) s (fun t => selDom t = 1 - d.val ∧ rdB t TIME_STAT_SLEWING = true ∧
      rdB t TIME_STAT_HOLDOVER = false ∧ bit (rd t (H_PEND 0x030)) 2 = true ∧ t.time.ns = s.time.ns)) ∧
    (domSync s (1 - d.val) = false → Completes (.syncReceiptTimeout d) s (fun t => selDom t = d.val ∧ rdB t TIME_STAT_HOLDOVER = true ∧
      (rdB s TIME_STAT_HOLDOVER = false → bit (rd t (H_PEND 0x030)) 7 = true ∧ t.time.incr = clampIncr (domSt s d.val).incr) ∧ t.time.ns = s.time.ns))) ∧
  (∀ s : State, s.phase = .running → rd s TIME_CTL_PREF < 2 →
    (2 ≤ rd s TIME_CTL_SELECT → domSync s (rd s TIME_CTL_PREF) = true → selDom s ≠ rd s TIME_CTL_PREF → rdB s TIME_STAT_STEPPED = true →
      Completes .revertTimerExpiry s (fun t => selDom t = rd s TIME_CTL_PREF ∧ bit (rd t (H_PEND 0x030)) 2 = true ∧ rdB t TIME_STAT_SLEWING = true ∧
        t.time.ns = s.time.ns)) ∧
    ((rd s TIME_CTL_SELECT ≤ 1 ∨ domSync s (rd s TIME_CTL_PREF) = false) → Completes .revertTimerExpiry s (fun t => t = s))) ∧
  (∀ s : State, s.phase = .running →
    (rdB s TIME_STAT_SLEWING = true → Completes .slewDone s (fun t => rd t TIME_STAT_SLEWING = 0 ∧ bit (rd t (H_PEND 0x030)) 3 = true ∧
      t.time = { s.time with incr := clampIncr (domSt s (selDom s)).incr } ∧ RegsBut (TIME_STAT_SLEWING :: eventFields 0x030) s t)) ∧
    (rdB s TIME_STAT_SLEWING = false → Completes .slewDone s (fun t => t = s))) ∧
  (∀ (s : State) (d : Fin 2) (inTime : Bool), s.phase = .running →
    ((rdB s (TIME_DOM_EN d.val) = false ∨ rdB s (TIME_DOM_PPS_EN d.val) = false) → Completes (.ppsEdge d inTime) s (fun t => t = s)) ∧
    (∀ sec, rdB s (TIME_DOM_EN d.val) = true → rdB s (TIME_DOM_PPS_EN d.val) = true → rdB s TIME_STAT_STEPPED = false → s.time.load = some sec →
      sec < 2 ^ 48 → Completes (.ppsEdge d inTime) s (fun t => t.time.ns = sec * 1000000000 ∧ rd t TIME_STAT_STEPPED = 1 ∧ t.time.load = none ∧
        bit (rd t (H_PEND 0x030)) 4 = true)) ∧
    (rdB s (TIME_DOM_EN d.val) = true → rdB s (TIME_DOM_PPS_EN d.val) = true → rdB s TIME_STAT_STEPPED = true →
      Completes (.ppsEdge d inTime) s (fun t => t.time.ns = s.time.ns ∧ (domSt t d.val).pps = inTime ∧ t.regs = s.regs ∧
        (gmSelf s d.val = true → selDom s = d.val → nominalIncr - nominalIncr / 4000 ≤ t.time.incr ∧ t.time.incr ≤ nominalIncr + nominalIncr / 4000) ∧
        ((gmSelf s d.val = false ∨ selDom s ≠ d.val) → t.time.incr = s.time.incr))) ∧
    Completes (.ppsStop d) s (fun t => (domSt t d.val).pps = false ∧ ownClass t d.val = (if gmSelf s d.val then 248 else 0) ∧ t.regs = s.regs ∧
      t.time.ns = s.time.ns ∧ t.time.incr = s.time.incr)) ∧
  (∀ (s : State) (i : Initiator) (v : Word), WriteActs s i 0x030 0x120 → rd s TIME_GM_SEC_HI < 2 ^ 16 →
    (rdB s TIME_STAT_STEPPED = false → Completes (.timeGmSecWrite i v) s (fun t => t.time.load = some (rd s TIME_GM_SEC_HI * 2 ^ 32 + v.toNat) ∧
      rd t TIME_GM_SEC_LO = v.toNat ∧ RegsBut (TIME_GM_SEC_LO :: checkFields 0x030) s t)) ∧
    (rdB s TIME_STAT_STEPPED = true → Completes (.timeGmSecWrite i v) s (fun t => t.time = s.time ∧ RegsBut (checkFields 0x030) s t))) ∧
  (∀ (s : State) (diff : Int), s.phase = .running →
    ((joined s = false ∨ tUp s = false) → Completes (.twinSkewMeasure diff) s (fun t => t = s)) ∧
    (joined s = true → tUp s = true →
      (100 < diff.natAbs → 2 ≤ s.time.skewHi → Completes (.twinSkewMeasure diff) s (fun t => rdB t TIME_STAT_TWIN_SKEW = true ∧
        (rdB s TIME_STAT_TWIN_SKEW = false → bit (rd t (H_PEND 0x030)) 8 = true) ∧ role t = role s ∧ t.twin = s.twin)) ∧
      (diff.natAbs ≤ 50 → 2 ≤ s.time.skewLo → Completes (.twinSkewMeasure diff) s (fun t => rd t TIME_STAT_TWIN_SKEW = 0 ∧
        RegsBut [TIME_STAT_TWIN_SKEW] s t)) ∧
      (50 < diff.natAbs → diff.natAbs ≤ 100 → Completes (.twinSkewMeasure diff) s (fun t => t.regs = s.regs ∧ t.time.skewHi = 0 ∧ t.time.skewLo = 0)) ∧
      (s.time.skewHi < 2 → s.time.skewLo < 2 → Completes (.twinSkewMeasure diff) s (fun t => t.regs = s.regs))))

/-! ## Telegram engine (12_telegram_engine.md) -/

/-- After R158, R328, R332 to R336, R347. PUB_SET needs the comparator and TLG_ENABLE an entry; each changes one entry and no other; ROUTE_SET keeps 2,048
copies in all, and is NO_RESOURCE beyond. A doorbell takes the whole dataset of its area, or, with a bad check, changes no entry and counts. A due release
of a fenced node's control telegram, of one within 125 µs of the last, or of one without a destination sends nothing and counts; one that is sent advances
its sequence, and its SSC with SDT. -/
def Obligations.Publications : Prop :=
  (∀ (t : Take) (s : State) (c : Cmd), Taken pubSetSpec t s c →
    (holdsCmp s c.path (c.u 0x0E 1) 0x11 = true → Answers (.pubSet t) s c stOK [] (fun u => ∃ p, pubAt u (c.u 0x08 2) = some p ∧ p.enabled = false ∧ p.seq = 0 ∧ p.ssc = 0 ∧
      p.cmp = c.u 0x0E 1 ∧ p.kind = c.u 0x0F 1 ∧ p.comId = c.u 0x10 4 ∧ p.len = c.u 0x1A 2 ∧ p.divider = max 1 (c.u 0x22 2) ∧
      (∀ n, n ≠ c.u 0x08 2 → pubAt u n = pubAt s n) ∧ u = { startOf pubSetSpec t c s with tlg := { s.tlg with pubs := u.tlg.pubs } })) ∧
    (holdsCmp s c.path (c.u 0x0E 1) 0x11 = false → Answers (.pubSet t) s c stWRONG_STATE [] (fun u => u = startOf pubSetSpec t c s))) ∧
  (∀ (t : Take) (s : State) (c : Cmd), Taken tlgEnableSpec t s c →
    (c.u 0x08 1 = 0 → pubAt s (c.u 0x0A 2) = none → Answers (.tlgEnable t) s c stWRONG_STATE [] (fun u => u = startOf tlgEnableSpec t c s)) ∧
    (∀ p, c.u 0x08 1 = 0 → pubAt s (c.u 0x0A 2) = some p → Answers (.tlgEnable t) s c stOK [] (fun u =>
      pubAt u (c.u 0x0A 2) = some { p with enabled := decide (c.u 0x0C 1 = 1) } ∧ (∀ n, n ≠ c.u 0x0A 2 → pubAt u n = pubAt s n) ∧ u.tlg.subs = s.tlg.subs)) ∧
    (c.u 0x08 1 = 1 → subAt s (c.u 0x0A 2) = none → Answers (.tlgEnable t) s c stWRONG_STATE [] (fun u => u = startOf tlgEnableSpec t c s)) ∧
    (∀ x, c.u 0x08 1 = 1 → subAt s (c.u 0x0A 2) = some x → Answers (.tlgEnable t) s c stOK [] (fun u => ∃ y, subAt u (c.u 0x0A 2) = some y ∧
      y.enabled = decide (c.u 0x0C 1 = 1) ∧ y.slots = x.slots ∧ y.newest = x.newest ∧ y.claimed = x.claimed ∧
      (∀ n, n ≠ c.u 0x0A 2 → subAt u n = subAt s n) ∧ u.tlg.pubs = s.tlg.pubs))) ∧
  (∀ (t : Take) (s : State) (c : Cmd), Taken routeSetSpec t s c →
    (bit (c.u 0x0C 1) 0 = true → 2048 < (eraseK s.tlg.routes (c.u 0x08 2)).foldl (fun a x => a + x.2.fields.length) (c.u 0x12 1) →
      Answers (.routeSet t) s c stNO_RESOURCE [] (fun u => u = startOf routeSetSpec t c s)) ∧
    (bit (c.u 0x0C 1) 0 = true → (eraseK s.tlg.routes (c.u 0x08 2)).foldl (fun a x => a + x.2.fields.length) (c.u 0x12 1) ≤ 2048 →
      Answers (.routeSet t) s c stOK [] (fun u => u.tlg.routes.lookup (c.u 0x08 2) = some (parseRoute (slice c.desc 0x0C 48)) ∧
        (∀ n, n ≠ c.u 0x08 2 → u.tlg.routes.lookup n = s.tlg.routes.lookup n) ∧ u.tlg.pubs = s.tlg.pubs ∧ u.tlg.subs = s.tlg.subs)) ∧
    (bit (c.u 0x0C 1) 0 = false → Answers (.routeSet t) s c stOK [] (fun u => u.tlg.routes.lookup (c.u 0x08 2) = none ∧
      (∀ n, n ≠ c.u 0x08 2 → u.tlg.routes.lookup n = s.tlg.routes.lookup n)))) ∧
  (∀ (s : State) (i : Initiator) (v : Word) (p : PubSt), WriteActs s i 0x038 0x040 → pubAt s (v.toNat % 2048) = some p →
    Completes (.tlgPubdbWrite i v true) s (fun t => rd t TLG_PUBDB_CHK_ERR = 0 ∧
      pubAt t (v.toNat % 2048) = some { p with data := bar2Read s (0x3200000 + v.toNat % 2048 * 0x600) (if p.sdt then p.len - 16 else p.len) } ∧
      (∀ n, n ≠ v.toNat % 2048 → pubAt t n = pubAt s n) ∧ t.bar2 = s.bar2) ∧
    Completes (.tlgPubdbWrite i v false) s (fun t => rd t TLG_PUBDB_CHK_ERR = 1 ∧ t.tlg = s.tlg ∧ rd t (TLG_CNT 14) = (rd s (TLG_CNT 14) + 1) % 2 ^ 32 ∧
      bit (rd t (H_PEND 0x038)) 9 = true ∧ t.bar2 = s.bar2)) ∧
  (∀ (s : State) (n : Nat) (p : PubSt), pubAt s n = some p → p.enabled = true → tlgOn s = true → p.divider ≤ p.fires + 1 →
    (p.control = true → isFenced s = true → rd (releasePub n s) (TLG_CNT 3) = (rd s (TLG_CNT 3) + 1) % 2 ^ 32 ∧ (releasePub n s).fwd = s.fwd ∧
      (releasePub n s).out = s.out) ∧
    (p.control = false → (∀ l, p.lastSend = some l → nowNs s < l + 125000 → rd (releasePub n s) (TLG_CNT 1) = (rd s (TLG_CNT 1) + 1) % 2 ^ 32 ∧
        bit (rd (releasePub n s) (H_PEND 0x038)) 5 = true ∧ (releasePub n s).fwd = s.fwd) ∧
      ((∀ l, p.lastSend = some l → l + 125000 ≤ nowNs s) →
        (pubDest s p = none → rd (releasePub n s) (TLG_CNT 2) = (rd s (TLG_CNT 2) + 1) % 2 ^ 32 ∧ bit (rd (releasePub n s) (H_PEND 0x038)) 6 = true ∧
          (releasePub n s).fwd = s.fwd) ∧
        (pubDest s p ≠ none → ownEntry s ≠ none → rd (releasePub n s) (TLG_CNT 0) = (rd s (TLG_CNT 0) + 1) % 2 ^ 32 ∧
          ∃ q, pubAt (releasePub n s) n = some q ∧ q.seq = (p.seq + 1) % 2 ^ 32 ∧ q.lastSend = some (nowNs s) ∧ q.data = p.data ∧
            q.ssc = if p.sdt then (p.ssc + 1) % 2 ^ 32 else p.ssc))))

/-- The bytes of slot k of subscription n (R341). -/
def InSlot (n k a : Nat) : Prop := 0x2000000 + (n * 3 + k) * 0x600 ≤ a ∧ a < 0x2000000 + (n * 3 + k + 1) * 0x600

/-- A new slot of subscription n was written with the flags: it is the lowest that was neither newest nor claimed, it is newest now, and device memory outside it is as before. -/
def NewSlot (n flags : Nat) (u : SubSt) (s t : State) : Prop :=
  ∃ v, subAt t n = some v ∧ v.newest = some (freeSlot u) ∧ v.claimed = u.claimed ∧ v.newer = u.claimed.isSome ∧
    leAt (bar2Read t (0x2000000 + (n * 3 + freeSlot u) * 0x600) 8) 6 1 = flags ∧
    (∀ a, ¬ InSlot n (freeSlot u) a → memRead t.bar2 a = memRead s.bar2 a)

/-- After R158, R337, R338, R340 to R344. SUB_SET empties one subscription; a claim pins the newest slot and a 0 frees it. The slot written is the lowest
that is neither newest nor claimed. The checks of a telegram come in the order stated, each with its counter; a wrong length, a bad SDT, a bad inner check
and an accepted telegram each write one slot with its flags, the others write nothing; a repeat is dropped; a timeout writes a slot once. -/
def Obligations.Subscriptions : Prop :=
  (∀ (t : Take) (s : State) (c : Cmd), Taken subSetSpec t s c → Answers (.subSet t) s c stOK [] (fun u => ∃ x, subAt u (c.u 0x08 2) = some x ∧ x.enabled = false ∧
    x.newest = none ∧ x.claimed = none ∧ x.slots = [] ∧ x.accepts = 0 ∧ x.lastSeq = none ∧ x.comId = c.u 0x10 4 ∧ x.len = c.u 0x1A 2 ∧ x.timeout = c.u 0x20 4 ∧
    (∀ n, n ≠ c.u 0x08 2 → subAt u n = subAt s n) ∧ u = { startOf subSetSpec t c s with tlg := { s.tlg with subs := u.tlg.subs } })) ∧
  (∀ (s : State) (i : Initiator) (n : Fin 512) (x : SubSt), WriteActs s i 0x039 (0x800 + 4 * n.val) → subAt s (512 * rd s TLGW_WBASE + n.val) = some x →
    Completes (.tlgClaimWrite i n true) s (fun t => (∃ y, subAt t (512 * rd s TLGW_WBASE + n.val) = some y ∧ y.newer = false ∧ y.newest = x.newest ∧ y.slots = x.slots ∧
      y.claimed = some (x.newest.getD 3) ∧ y.claimTwin = s.fuses.twinId) ∧ t.bar2 = s.bar2) ∧
    Completes (.tlgClaimWrite i n false) s (fun t => (∃ y, subAt t (512 * rd s TLGW_WBASE + n.val) = some y ∧ y.newer = false ∧ y.newest = x.newest ∧
      y.slots = x.slots ∧ y.claimed = none) ∧ t.bar2 = s.bar2)) ∧
  (∀ (u : SubSt), freeSlot u < 3 ∧ u.newest ≠ some (freeSlot u) ∧ u.claimed ≠ some (freeSlot u) ∧
    ∀ k, k < freeSlot u → u.newest = some k ∨ u.claimed = some k) ∧
  (∀ (s : State) (e : Fin 4) (x : Telegram), s.phase = .running →
    (tlgOn s = false → Completes (.telegramRx e x) s (fun t => rd t (TLG_CNT 17) = (rd s (TLG_CNT 17) + 1) % 2 ^ 32 ∧ t.tlg = s.tlg ∧ t.bar2 = s.bar2)) ∧
    (tlgOn s = true → (x.msgType ≠ 0x5064 ∨ x.version.toNat / 256 ≠ 1) → Completes (.telegramRx e x) s (fun t =>
      rd t (TLG_CNT 6) = (rd s (TLG_CNT 6) + 1) % 2 ^ 32 ∧ t.tlg = s.tlg ∧ t.bar2 = s.bar2)) ∧
    (tlgOn s = true → x.msgType = 0x5064 → x.version.toNat / 256 = 1 → (x.hdrGood = false ∨ 1432 < x.datasetLen ∨ x.udpLen ≠ 48 + x.datasetLen) →
      Completes (.telegramRx e x) s (fun t => rd t (TLG_CNT 7) = (rd s (TLG_CNT 7) + 1) % 2 ^ 32 ∧ t.tlg = s.tlg ∧ t.bar2 = s.bar2)) ∧
    (tlgOn s = true → x.msgType = 0x5064 → x.version.toNat / 256 = 1 → x.hdrGood = true → x.datasetLen ≤ 1432 → x.udpLen = 48 + x.datasetLen →
      (s.tlg.subs.find? (fun u => subMatches s e.val x u.2) = none → Completes (.telegramRx e x) s (fun t => rd t (TLG_CNT 8) = (rd s (TLG_CNT 8) + 1) % 2 ^ 32 ∧
        bit (rd t (H_PEND 0x038)) 4 = true ∧ t.tlg = s.tlg ∧ t.bar2 = s.bar2)) ∧
      (∀ n u, s.tlg.subs.find? (fun u => subMatches s e.val x u.2) = some (n, u) →
        (u.len ≠ 0 → u.len ≠ x.datasetLen → u.lastValid.length ≤ 1432 → Completes (.telegramRx e x) s (fun t => rd t (TLG_CNT 12) = (rd s (TLG_CNT 12) + 1) % 2 ^ 32 ∧
          NewSlot n (8 + if u.zero then 32 else 0) u s t)) ∧
        ((u.len = 0 ∨ u.len = x.datasetLen) →
          (u.topo = true → topoPasses s x.etbTopo.toNat = false → Completes (.telegramRx e x) s (fun t => rd t (TLG_CNT 9) = (rd s (TLG_CNT 9) + 1) % 2 ^ 32 ∧
            bit (rd t (H_PEND 0x038)) 3 = true ∧ t.tlg = s.tlg ∧ t.bar2 = s.bar2)) ∧
          ((u.topo = false ∨ topoPasses s x.etbTopo.toNat = true) →
            (u.gen = true → genPasses s x = false → Completes (.telegramRx e x) s (fun t => rd t (TLG_CNT 10) = (rd s (TLG_CNT 10) + 1) % 2 ^ 32 ∧
              bit (rd t (H_PEND 0x038)) 2 = true ∧ t.tlg = s.tlg ∧ t.bar2 = s.bar2)) ∧
            ((u.gen = false ∨ genPasses s x = true) →
              (u.sdt = true → x.sdtGood = false → u.lastValid.length ≤ 1432 → Completes (.telegramRx e x) s (fun t => rd t (TLG_CNT 11) = (rd s (TLG_CNT 11) + 1) % 2 ^ 32 ∧
                bit (rd t (H_PEND 0x038)) 1 = true ∧ NewSlot n (4 + if u.zero then 32 else 0) u s t)) ∧
              ((u.sdt = false ∨ x.sdtGood = true) →
                (∀ l, u.lastSeq = some l → l < 2 ^ 32 → (l + 2 ^ 32 - x.seq.toNat) % 2 ^ 32 ≤ 16 → Completes (.telegramRx e x) s (fun t =>
                  rd t (TLG_CNT 5) = (rd s (TLG_CNT 5) + 1) % 2 ^ 32 ∧ t.tlg = s.tlg ∧ t.bar2 = s.bar2)) ∧
                (isRepeat u x.seq.toNat = false → x.innerGood = false → u.lastValid.length ≤ 1432 → Completes (.telegramRx e x) s (fun t =>
                  rd t (TLG_CNT 14) = (rd s (TLG_CNT 14) + 1) % 2 ^ 32 ∧ bit (rd t (H_PEND 0x038)) 9 = true ∧ NewSlot n (16 + if u.zero then 32 else 0) u s t)) ∧
                (isRepeat u x.seq.toNat = false → x.innerGood = true → Completes (.telegramRx e x) s (fun t =>
                  rd t (TLG_CNT 4) = (rd s (TLG_CNT 4) + 1) % 2 ^ 32 ∧ rd t SLEEP_STAT_FW_RUN = 0 ∧ NewSlot n 1 u s t ∧
                  (u.event = true → bit (rd t (H_PEND 0x038)) (10 + e.val) = true) ∧
                  bar2Read t (0x2000000 + (n * 3 + freeSlot u) * 0x600 + 0x40) x.datasetLen = padTo x.datasetLen x.dataset))))))))) ∧
  (∀ (s : State) (n : Fin 4096) (u : SubSt), s.phase = .running → subAt s n.val = some u →
    (u.enabled = true → u.timeout ≠ 0 → u.running = true → tlgOn s = true → u.lastValid.length ≤ 1432 → Completes (.subscriptionTimeout n) s (fun t =>
      rd t (TLG_CNT 13) = (rd s (TLG_CNT 13) + 1) % 2 ^ 32 ∧ bit (rd t (H_PEND 0x038)) 0 = true ∧ NewSlot n.val (2 + if u.zero then 32 else 0) u s t ∧
      ∀ v, subAt t n.val = some v → v.running = false)) ∧
    ((u.enabled = false ∨ u.timeout = 0 ∨ u.running = false ∨ tlgOn s = false) → Completes (.subscriptionTimeout n) s (fun t => t = s)))


/-- Device memory of channel m (R356): 1 MiB. -/
def InChannel (m a : Nat) : Prop := 0x3800000 + m * 0x100000 ≤ a ∧ a < 0x3800000 + (m + 1) * 0x100000

/-- The object and the queues of t are those of s in everything that a reception may change. -/
def NothingReceived (m : Nat) (s t : State) : Prop :=
  t.bar2 = s.bar2 ∧ t.tlg = s.tlg ∧ (mbusSt t m).objs = (mbusSt s m).objs ∧ rd t (MBUS_CNT m 0) = rd s (MBUS_CNT m 0) ∧
  ∀ k, k < 256 → rd t (MBW_O_NEW m k) = rd s (MBW_O_NEW m k) ∧ ∀ q : Fin 4, rd t (MBUS_QTAIL m q.val) = rd s (MBUS_QTAIL m q.val)

/-- After R353 to R360, R364, R370, R371. MB_TIMING needs the channel OFF; MB_OBJ_SET refuses a duplicate or reserved identifier and otherwise sets one
object and clears its state, with a frame on the bus going on. A frame on a channel that does not take part changes nothing, on a shadow nothing is
received; a failed inner check counts; a good one goes to its object with its data, NEW and LOST, or to each matching queue with room, or counts as
unmatched or full. Queue heads do not pass the tail; flags clear by 1; a transmit doorbell takes the data and, with SEND, requests the transmission, and
with a bad check changes nothing and counts. -/
def Obligations.MessageObjects : Prop :=
  (∀ (t : Take) (s : State) (c : Cmd), Taken mbTimingSpec t s c →
    ((pageSt s (0x040 + c.u 0x08 1)).en ≠ .off → Answers (.mbTiming t) s c stWRONG_STATE [] (fun u => u = startOf mbTimingSpec t c s)) ∧
    ((pageSt s (0x040 + c.u 0x08 1)).en = .off → Answers (.mbTiming t) s c stOK [] (fun u => (∀ k : Fin 8, rd u (MBUS_TIMING (c.u 0x08 1) k.val) = c.u (0x0C + 4 * k.val) 4) ∧
      u = { startOf mbTimingSpec t c s with regs := u.regs } ∧ RegsBut ((List.range 8).map (MBUS_TIMING (c.u 0x08 1))) (startOf mbTimingSpec t c s) u))) ∧
  (∀ (t : Take) (sof : Bool) (s : State) (c : Cmd) (o : CanObj), Taken (mbObjSetSpec sof) t s c → o = parseObj (slice c.desc 0x0C 32) →
    (c.u 0x0C 1 % 2 = 1 → (objDup s (c.u 0x08 1) (c.u 0x0A 2) o = true ∨ objReserved s (c.u 0x08 1) (c.u 0x0A 2) o = true) →
      Answers (.mbObjSet t sof) s c stBAD_ARG [] (fun u => u = startOf (mbObjSetSpec sof) t c s)) ∧
    ((c.u 0x0C 1 % 2 = 0 ∨ (objDup s (c.u 0x08 1) (c.u 0x0A 2) o = false ∧ objReserved s (c.u 0x08 1) (c.u 0x0A 2) o = false)) →
      Answers (.mbObjSet t sof) s c stOK [] (fun u => objAt u (c.u 0x08 1) (c.u 0x0A 2) = (if c.u 0x0C 1 % 2 = 1 then some o else none) ∧
        (∀ k, k ≠ c.u 0x0A 2 → objAt u (c.u 0x08 1) k = objAt s (c.u 0x08 1) k) ∧
        rd u (MBW_O_NEW (c.u 0x08 1) (c.u 0x0A 2)) = 0 ∧ rd u (MBW_O_LOST (c.u 0x08 1) (c.u 0x0A 2)) = 0 ∧ rd u (MBW_O_CLASHES (c.u 0x08 1) (c.u 0x0A 2)) = 0 ∧
        (objRun u (c.u 0x08 1) (c.u 0x0A 2)).count = 0 ∧ (objRun u (c.u 0x08 1) (c.u 0x0A 2)).lost = 0 ∧
        (rdB s (MBW_O_TX_PEND (c.u 0x08 1) (c.u 0x0A 2)) = true → onWire s (c.u 0x08 1) (c.u 0x0A 2) sof = false →
          rd u (MBW_O_TX_PEND (c.u 0x08 1) (c.u 0x0A 2)) = 0 ∧ rd u (MBW_O_TX_RESULT (c.u 0x08 1) (c.u 0x0A 2)) = 2) ∧
        (onWire s (c.u 0x08 1) (c.u 0x0A 2) sof = true → txEntry s (c.u 0x08 1) (c.u 0x0A 2) ≠ none → rd u (MBW_O_TX_PEND (c.u 0x08 1) (c.u 0x0A 2)) = rd s (MBW_O_TX_PEND (c.u 0x08 1) (c.u 0x0A 2)) ∧
          txEntry u (c.u 0x08 1) (c.u 0x0A 2) = txEntry s (c.u 0x08 1) (c.u 0x0A 2)) ∧
        (∀ a, (a < objArea (c.u 0x08 1) (c.u 0x0A 2) + 0x20 ∨ objArea (c.u 0x08 1) (c.u 0x0A 2) + 0x28 ≤ a) → memRead u.bar2 a = memRead s.bar2 a)))) ∧
  (∀ (s : State) (m : Fin 4) (f : CanFrame), s.phase = .running → f.data.length ≤ (if f.format.val = 2 then 2048 else 64) →
    ((onBus s m.val = false ∨ fmtOn s m.val f.format.val = false) → Completes (.canFrameRx m f) s (fun t => t = s)) ∧
    (onBus s m.val = true → fmtOn s m.val f.format.val = true →
      (role s = 1 → Completes (.canFrameRx m f) s (fun t => NothingReceived m.val s t ∧ t.twin = s.twin)) ∧
      (role s ≠ 1 → f.innerGood = false → Completes (.canFrameRx m f) s (fun t => rd t (MBUS_CNT m.val 13) = (rd s (MBUS_CNT m.val 13) + 1) % 2 ^ 32 ∧
        rd t (MBUS_CNT m.val 0) = rd s (MBUS_CNT m.val 0) ∧ bit (rd t (H_PEND (0x040 + m.val))) 14 = true ∧ t.tlg = s.tlg ∧
        (rxObject s m.val f = none → t.bar2 = s.bar2) ∧ ∀ k, k < 256 → rd t (MBW_O_NEW m.val k) = rd s (MBW_O_NEW m.val k))) ∧
      (role s ≠ 1 → f.innerGood = true → rdB s (SLEEP_BUSCTL_RING_EN m.val) = false →
        (∀ k o, rxObject s m.val f = some (k, o) → k < 256 → Completes (.canFrameRx m f) s (fun t => rd t (MBW_O_NEW m.val k) = 1 ∧
          rd t (MBW_O_LOST m.val k) = (if rdB s (MBW_O_NEW m.val k) then 1 else rd s (MBW_O_LOST m.val k)) ∧
          rd t (MBUS_CNT m.val 0) = (rd s (MBUS_CNT m.val 0) + 1) % 2 ^ 32 ∧ rd t (MBUS_CNT m.val 1) = (rd s (MBUS_CNT m.val 1) + 1) % 2 ^ 32 ∧
          bar2Read t (objArea m.val k + 0x40) f.data.length = f.data ∧ (o.event = true → bit (rd t (H_PEND (0x040 + m.val))) 0 = true) ∧
          (∀ a, ¬ InChannel m.val a → memRead t.bar2 a = memRead s.bar2 a) ∧
          (role s = 0 → t.twin.own = s.twin.own ++ [⟨5, .can m f, true⟩]))) ∧
        (rxObject s m.val f = none → filterQueues s m.val f = [] → Completes (.canFrameRx m f) s (fun t =>
          rd t (MBUS_CNT m.val 3) = (rd s (MBUS_CNT m.val 3) + 1) % 2 ^ 32 ∧ t.bar2 = s.bar2)) ∧
        (∀ q : Fin 4, rxObject s m.val f = none → q.val ∈ filterQueues s m.val f → (f.format.val = 2 → f.data.length ≤ 1920) →
          ((rd s (MBUS_QTAIL m.val q.val) + 128 - rd s (MBUS_QHEAD m.val q.val)) % 128 = 64 → Completes (.canFrameRx m f) s (fun t =>
            rd t (MBUS_QTAIL m.val q.val) = rd s (MBUS_QTAIL m.val q.val) ∧ bit (rd t (H_PEND (0x040 + m.val))) 7 = true)) ∧
          ((rd s (MBUS_QTAIL m.val q.val) + 128 - rd s (MBUS_QHEAD m.val q.val)) % 128 ≠ 64 → Completes (.canFrameRx m f) s (fun t =>
            rd t (MBUS_QTAIL m.val q.val) = (rd s (MBUS_QTAIL m.val q.val) + 1) % 128 ∧ bit (rd t (H_PEND (0x040 + m.val))) (1 + q.val) = true ∧
            bar2Read t (objArea m.val (64 * q.val + rd s (MBUS_QTAIL m.val q.val) % 64) + 0x880) f.data.length = f.data)))))) ∧
  (∀ (s : State) (i : Initiator) (m q : Fin 4) (v : Word), WriteActs s i (0x040 + m.val) (0x084 + 8 * q.val) → Completes (.mbusQheadWrite i m q v) s (fun t =>
    rd t (MBUS_QHEAD m.val q.val) = (if (v.toNat % 128 + 128 - rd s (MBUS_QHEAD m.val q.val)) % 128 ≤
      (rd s (MBUS_QTAIL m.val q.val) + 128 - rd s (MBUS_QHEAD m.val q.val)) % 128 then v.toNat % 128 else rd s (MBUS_QHEAD m.val q.val)) ∧
    RegsBut (MBUS_QHEAD m.val q.val :: checkFields (0x040 + m.val)) s t)) ∧
  (∀ (s : State) (i : Initiator) (m : Fin 4) (k : Fin 256) (v : Word), WriteActs s i (0x044 + m.val) (0x040 + 4 * k.val) → rd s (MBW_O_NEW m.val k.val) ≤ 1 →
    rd s (MBW_O_LOST m.val k.val) ≤ 1 → Completes (.mbwFlagClear i m k v) s (fun t =>
      rd t (MBW_O_NEW m.val k.val) = (if bit v.toNat 31 then 0 else rd s (MBW_O_NEW m.val k.val)) ∧
      rd t (MBW_O_LOST m.val k.val) = (if bit v.toNat 30 then 0 else rd s (MBW_O_LOST m.val k.val)) ∧
      RegsBut ([MBW_O_NEW m.val k.val, MBW_O_LOST m.val k.val] ++ checkFields (0x044 + m.val)) s t)) ∧
  (∀ (s : State) (i : Initiator) (m : Fin 4) (v : Word) (o : CanObj), WriteActs s i (0x040 + m.val) 0x06C → objAt s m.val (v.toNat % 256) = some o → o.tx = true →
    Completes (.mbusTxdbDoorbell i m v true) s (fun t => rd t (MBUS_TXDB_CHK_ERR m.val) = 0 ∧ t.bar2 = s.bar2 ∧
      (objRun t m.val (v.toNat % 256)).data = txdbData s m.val v.toNat ∧
      (bits v.toNat 27 16 = 0 → txdbData s m.val v.toNat = bar2Read s (0x3800000 + m.val * 0x100000 + v.toNat % 256 * 0x1000 + 0x40) o.len) ∧
      (bit v.toNat 8 = true → rdB s (MBW_O_STOPPED m.val (v.toNat % 256)) = false → rd t (MBW_O_TX_PEND m.val (v.toNat % 256)) = 1 ∧ (mbusSt t m.val).commanded < 2) ∧
      (bit v.toNat 8 = false → rd t (MBW_O_TX_PEND m.val (v.toNat % 256)) = rd s (MBW_O_TX_PEND m.val (v.toNat % 256))) ∧
      (∀ k, k ≠ v.toNat % 256 → objRun t m.val k = objRun s m.val k)) ∧
    Completes (.mbusTxdbDoorbell i m v false) s (fun t => rd t (MBUS_TXDB_CHK_ERR m.val) = 1 ∧ t.mbus = s.mbus ∧ t.bar2 = s.bar2 ∧
      rd t (MBUS_CNT m.val 13) = (rd s (MBUS_CNT m.val 13) + 1) % 2 ^ 32 ∧ bit (rd t (H_PEND (0x040 + m.val))) 14 = true)) ∧
  (∀ (s : State) (i : Initiator) (m : Fin 4) (v : Word), WriteActs s i (0x040 + m.val) 0x070 → Completes (.mbusTxidWrite i m v) s (fun t =>
    rd t (MBUS_TXID_ID m.val) = v.toNat % 2 ^ 29 ∧ rdB t (MBUS_TXID_IDE m.val) = bit v.toNat 29 ∧ rdB t (MBUS_TXID_RTR m.val) = bit v.toNat 30 ∧
    rdB t (MBUS_TXID_APPLY m.val) = bit v.toNat 31 ∧ t.mbus = s.mbus ∧
    RegsBut ([MBUS_TXID_ID m.val, MBUS_TXID_IDE m.val, MBUS_TXID_RTR m.val, MBUS_TXID_APPLY m.val] ++ checkFields (0x040 + m.val)) s t))

/-- After R354, R362, R363, R366 to R369, R371, R372, R377. MB_SCHED_LOAD makes a good matrix wait for its comparator and is BAD_ARG otherwise; MB_CANCEL
removes a request that is not on the bus, and owes its response for one that is; MB_CLASH_REARM frees a stopped object. A sent frame, an error, a lost
arbitration, the third clash and a failed check set TX_RESULT, TEC and counts as stated. Bus-off recovery, integration, the timeouts, over-temperature and
VCAN show in MBUS_STAT with XCVR; a woken channel is normal again with its event. A window opens and ends as the matrix says, with SCHED where its frame
was missing or overran. -/
def Obligations.MessageBusControl : Prop :=
  (∀ (t : Take) (s : State) (c : Cmd) (x : Matrix) (k : Nat), Taken mbSchedLoadSpec t s c → k = rd s (MBUS_CTL_SCHED_CMP (c.u 0x08 1)) →
    x = parseMatrix (bar2Read s (hqBase (c.u 0x09 1)) (8 * c.u 0x0B 1 + c.u 0x0A 1 * c.u 0x0B 1)) (c.u 0x0A 1) (c.u 0x0B 1) →
    ((holdsCmp s c.path k 0x10 = false ∨ windowsOk x.windows = false ∨ (List.range (c.u 0x0A 1 * c.u 0x0B 1)).all (cellOk s (c.u 0x08 1) x) = false) →
      Answers (.mbSchedLoad t) s c stBAD_ARG [] (fun u => u = startOf mbSchedLoadSpec t c s)) ∧
    (holdsCmp s c.path k 0x10 = true → cmpArmed s k = true → rdB s (TRIG_CMP_PERIODIC k) = true → windowsOk x.windows = true →
      (List.range (c.u 0x0A 1 * c.u 0x0B 1)).all (cellOk s (c.u 0x08 1) x) = true → Accepts mbSchedLoadSpec (.mbSchedLoad t) s c (fun u =>
        (mbusSt u (c.u 0x08 1)).loaded = some x ∧ (mbusSt u (c.u 0x08 1)).matrix = (mbusSt s (c.u 0x08 1)).matrix ∧
        rd u (MBUS_SCHED_WAITING (c.u 0x08 1)) = 1))) ∧
  (∀ (t : Take) (sof : Bool) (s : State) (c : Cmd), Taken (mbCancelSpec sof) t s c →
    (rdB s (MBW_O_TX_PEND (c.u 0x08 1) (c.u 0x0A 2)) = false → openWindow s (c.u 0x08 1) = none → (objRun s (c.u 0x08 1) (c.u 0x0A 2)).sof = false →
      Answers (.mbCancel t sof) s c stOK (le 1 2) (fun u => u = startOf (mbCancelSpec sof) t c s)) ∧
    (rdB s (MBW_O_TX_PEND (c.u 0x08 1) (c.u 0x0A 2)) = true → onWire s (c.u 0x08 1) (c.u 0x0A 2) sof = false →
      (openWindow s (c.u 0x08 1) ≠ some (0, c.u 0x0A 2) → Answers (.mbCancel t sof) s c stOK (le 1 0) (fun u =>
        rd u (MBW_O_TX_PEND (c.u 0x08 1) (c.u 0x0A 2)) = 0 ∧ rd u (MBW_O_TX_RESULT (c.u 0x08 1) (c.u 0x0A 2)) = 2 ∧
        rd u (MBUS_CNT (c.u 0x08 1) 17) = (rd s (MBUS_CNT (c.u 0x08 1) 17) + 1) % 2 ^ 32)) ∧
      (openWindow s (c.u 0x08 1) = some (0, c.u 0x0A 2) → (mbusSt s (c.u 0x08 1)).winSent = false →
        rd s (MBW_O_TX_PEND (c.u 0x08 1) (c.u 0x0A 2)) = 1 → Answers (.mbCancel t sof) s c stOK (le 1 0) (fun u =>
        rd u (MBW_O_TX_PEND (c.u 0x08 1) (c.u 0x0A 2)) = 1 ∧ rd u (MBW_O_TX_RESULT (c.u 0x08 1) (c.u 0x0A 2)) = 2 ∧
        (mbusSt u (c.u 0x08 1)).winSent = true))) ∧
    (rdB s (MBW_O_TX_PEND (c.u 0x08 1) (c.u 0x0A 2)) = true → onWire s (c.u 0x08 1) (c.u 0x0A 2) sof = true → Completes (.mbCancel t sof) s (fun u =>
      u.regs = (startOf (mbCancelSpec sof) t c s).regs ∧ u.bar2 = s.bar2 ∧ responseOwed u t.path = true ∧ cancelWaits u (c.u 0x08 1) (c.u 0x0A 2) = true))) ∧
  (∀ (t : Take) (s : State) (c : Cmd), Taken mbClashRearmSpec t s c →
    (rdB s (MBW_O_STOPPED (c.u 0x08 1) (c.u 0x0A 2)) = true → Answers (.mbClashRearm t) s c stOK [] (fun u =>
      rd u (MBW_O_STOPPED (c.u 0x08 1) (c.u 0x0A 2)) = 0 ∧ rd u (MBW_O_CLASHES (c.u 0x08 1) (c.u 0x0A 2)) = 0 ∧
      RegsBut [MBW_O_STOPPED (c.u 0x08 1) (c.u 0x0A 2), MBW_O_CLASHES (c.u 0x08 1) (c.u 0x0A 2)] (startOf mbClashRearmSpec t c s) u)) ∧
    (rdB s (MBW_O_STOPPED (c.u 0x08 1) (c.u 0x0A 2)) = false → Answers (.mbClashRearm t) s c stWRONG_STATE [] (fun u => u = startOf mbClashRearmSpec t c s))) ∧
  (∀ (s : State) (m : Fin 4) (r : CanTxEnd) (o : CanObj), s.phase = .running →
    ((txEntry s m.val r.obj.val = none ∨ (txEntry s m.val r.obj.val = some o ∧ txPossible s m.val r.obj.val o = false)) → Completes (.canTxEnd m r) s (fun t => t = s)) ∧
    (txEntry s m.val r.obj.val = some o → txPossible s m.val r.obj.val o = true → rd s (MBUS_STAT_TEC m.val) < 248 →
      (r.result = .sent → Completes (.canTxEnd m r) s (fun t => rd t (MBW_O_TX_PEND m.val r.obj.val) = 0 ∧ rd t (MBW_O_TX_RESULT m.val r.obj.val) = 1 ∧
        rd t (MBW_O_CLASHES m.val r.obj.val) = 0 ∧ rd t (MBUS_CNT m.val 7) = (rd s (MBUS_CNT m.val 7) + 1) % 2 ^ 32 ∧
        rd t (MBUS_STAT_TEC m.val) = rd s (MBUS_STAT_TEC m.val) - 1 ∧ (o.event = true → bit (rd t (H_PEND (0x040 + m.val))) 5 = true) ∧
        ∃ ident, .can m.val ident o.format (objData o (objRun s m.val r.obj.val)) ∈ t.out)) ∧
      (r.result = .error ∨ r.result = .arbLost → Completes (.canTxEnd m r) s (fun t =>
        rd t (MBW_O_TX_RESULT m.val r.obj.val) = (if r.result = .error then 3 else 4) ∧
        rd t (MBUS_STAT_TEC m.val) = (if r.result = .error then rd s (MBUS_STAT_TEC m.val) + 8 else rd s (MBUS_STAT_TEC m.val)) ∧
        (singleTry s m.val o = true → rd t (MBW_O_TX_PEND m.val r.obj.val) = 0 ∧ bit (rd t (H_PEND (0x040 + m.val))) 6 = true) ∧
        (singleTry s m.val o = false → cancelWaits s m.val r.obj.val = false → rd t (MBW_O_TX_PEND m.val r.obj.val) = rd s (MBW_O_TX_PEND m.val r.obj.val)))) ∧
      (r.result = .clash → rd s (MBW_O_CLASHES m.val r.obj.val) = 2 → Completes (.canTxEnd m r) s (fun t => rd t (MBW_O_CLASHES m.val r.obj.val) = 3 ∧
        rd t (MBUS_CNT m.val 10) = (rd s (MBUS_CNT m.val 10) + 1) % 2 ^ 32 ∧ rd t (MBUS_STAT_TEC m.val) = rd s (MBUS_STAT_TEC m.val) + 8 ∧
        bit (rd t (H_PEND (0x040 + m.val))) 8 = true ∧ rd t (MBW_O_TX_RESULT m.val r.obj.val) = 3 ∧
        (o.clashStop = true → rd t (MBW_O_STOPPED m.val r.obj.val) = 1 ∧ rd t (MBW_O_TX_PEND m.val r.obj.val) = 0))) ∧
      (r.result = .checkFail → Completes (.canTxEnd m r) s (fun t => rd t (MBW_O_TX_RESULT m.val r.obj.val) = 5 ∧ rd t (MBW_O_TX_PEND m.val r.obj.val) = 0 ∧
        bit (rd t (H_PEND (0x040 + m.val))) 14 = true)))) ∧
  (∀ (s : State) (m : Fin 4), s.phase = .running →
    (rd s (MBUS_STAT_ERR_STATE m.val) = 2 → (mbusSt s m.val).recovering = true → Completes (.busOffRecoveryDone m) s (fun t =>
      rd t (MBUS_STAT_ERR_STATE m.val) = 0 ∧ rd t (MBUS_STAT_TEC m.val) = 0 ∧ rd t (MBUS_STAT_REC m.val) = 0 ∧ bit (rd t (H_PEND (0x040 + m.val))) 11 = true ∧
      RegsBut ([MBUS_STAT_ERR_STATE m.val, MBUS_STAT_TEC m.val, MBUS_STAT_REC m.val] ++ eventFields (0x040 + m.val)) s t)) ∧
    ((rd s (MBUS_STAT_ERR_STATE m.val) ≠ 2 ∨ (mbusSt s m.val).recovering = false) → Completes (.busOffRecoveryDone m) s (fun t => t = s)) ∧
    ((pageSt s (0x040 + m.val)).en = .on → xcvrRx s m.val = true → rdB s (MBUS_STAT_VCAN_LOW m.val) = false → Completes (.canIntegrated m) s (fun t =>
      rd t (MBUS_STAT_SYNCED m.val) = 1 ∧ rd t (MBUS_STAT_BUS_DOM m.val) = 0 ∧ RegsBut [MBUS_STAT_SYNCED m.val, MBUS_STAT_BUS_DOM m.val] s t)) ∧
    ((xcvrRx s m.val = false ∨ (pageSt s (0x040 + m.val)).en = .off) → Completes (.canIntegrated m) s (fun t => t = s)) ∧
    Completes (.txdDominantTimeout m) s (fun t => rd t (MBUS_STAT_TXD_TMO m.val) = 1 ∧ bit (rd t (H_PEND (0x040 + m.val))) 15 = true ∧ xcvrTx t m.val = false) ∧
    Completes (.busDominantTimeout m) s (fun t => rd t (MBUS_STAT_BUS_DOM m.val) = 1 ∧ rd t (MBUS_STAT_SYNCED m.val) = 0 ∧ bit (rd t (H_PEND (0x040 + m.val))) 15 = true ∧
      RegsBut ([MBUS_STAT_BUS_DOM m.val, MBUS_STAT_SYNCED m.val] ++ eventFields (0x040 + m.val)) s t) ∧
    Completes (.xcvrOvertemp m) s (fun t => rd t (MBUS_STAT_THERMAL m.val) = 1 ∧ bit (rd t (H_PEND (0x040 + m.val))) 15 = true ∧ xcvrTx t m.val = false ∧
      xcvrRx t m.val = xcvrRx s m.val) ∧
    Completes (.xcvrThermalRecovery m) s (fun t => t = wr s (MBUS_STAT_THERMAL m.val) 0) ∧
    (rdB s (MBUS_STAT_VCAN_LOW m.val) = false → Completes .vcanLow s (fun t => rd t (MBUS_STAT_VCAN_LOW m.val) = 1 ∧ rd t (MBUS_STAT_SYNCED m.val) = 0 ∧
      bit (rd t (H_PEND (0x040 + m.val))) 15 = true)) ∧
    Completes .vcanInRange s (fun t => rd t (MBUS_STAT_VCAN_LOW m.val) = 0 ∧ RegsBut ([0, 1, 2, 3].map MBUS_STAT_VCAN_LOW) s t) ∧
    (isActive s = true → Completes (.canTakeoverUngate m) s (fun t => rd t (MBUS_STAT_TX_GATED m.val) = (if (mbusSt s m.val).listen then 1 else 0) ∧
      (mbusSt t m.val).gated = false ∧ RegsBut [MBUS_STAT_TX_GATED m.val] s t)) ∧
    (isActive s = false → Completes (.canTakeoverUngate m) s (fun t => t = s)) ∧
    ((mbusSt s m.val).commanded < 2 → Completes (.canWake m) s (fun t => t = s)) ∧
    (2 ≤ (mbusSt s m.val).commanded → Completes (.canWake m) s (fun t => (mbusSt t m.val).commanded = 0 ∧ bit (rd t (H_PEND 0x048)) 4 = true ∧
      (bit (rd s SLEEP_WAKE_EN) (4 + m.val) = true → rd s SLEEP_STAT_PHASE ≠ 2 → rd t SLEEP_STAT_CAUSE = 2 ∧ bit (rd t (H_PEND 0x048)) 6 = true)))) ∧
  (∀ (s : State) (i : Initiator) (m : Fin 4) (v : Word), WriteActs s i (0x040 + m.val) 0x074 →
    (v.toNat % 2 = 1 → rd s (MBUS_STAT_ERR_STATE m.val) = 2 → Completes (.mbusRecoverWrite i m v) s (fun t => (mbusSt t m.val).recovering = true ∧
      RegsBut (checkFields (0x040 + m.val)) s t)) ∧
    ((v.toNat % 2 = 0 ∨ rd s (MBUS_STAT_ERR_STATE m.val) ≠ 2) → Completes (.mbusRecoverWrite i m v) s (fun t => t.mbus = s.mbus ∧
      RegsBut (checkFields (0x040 + m.val)) s t))) ∧
  (∀ (s : State) (m : Fin 4) (w : Fin 64), s.phase = .running →
    (∀ x, (mbusSt s m.val).matrix = some x → scheduled s m.val = true → pageOn s (0x040 + m.val) = true → w.val < x.windows.length →
      Completes (.schedWindowOpen m w) s (fun t => (mbusSt t m.val).window = some w.val ∧ (mbusSt t m.val).winSent = false ∧
        rd t (MBUS_SCHED_WINDOW m.val) = w.val ∧ RegsBut [MBUS_SCHED_WINDOW m.val] s t)) ∧
    (scheduled s m.val = false → Completes (.schedWindowOpen m w) s (fun t => t = s)) ∧
    (∀ b, (mbusSt s m.val).window ≠ some w.val → Completes (.schedWindowEnd m w b) s (fun t => t = s)) ∧
    (∀ k, (mbusSt s m.val).window = some w.val → openWindow s m.val = some (0, k) →
      (k ≠ 0xFF → (mbusSt s m.val).winSent = false → isFenced s = false → Completes (.schedWindowEnd m w none) s (fun t => (mbusSt t m.val).window = none ∧
        rd t (MBW_O_TX_RESULT m.val k) = 6 ∧ rd t (MBUS_CNT m.val 14) = (rd s (MBUS_CNT m.val 14) + 1) % 2 ^ 32 ∧ bit (rd t (H_PEND (0x040 + m.val))) 12 = true)) ∧
      ((mbusSt s m.val).winSent = true → Completes (.schedWindowEnd m w none) s (fun t => (mbusSt t m.val).window = none ∧ t.regs = s.regs)) ∧
      (∀ b : Fin 256, onWire s m.val b.val true = true → Completes (.schedWindowEnd m w (some b)) s (fun t => (mbusSt t m.val).window = none ∧
        rd t (MBUS_CNT m.val 15) = (rd s (MBUS_CNT m.val 15) + 1) % 2 ^ 32 ∧ rd t (MBUS_CNT m.val 14) = rd s (MBUS_CNT m.val 14) ∧
        bit (rd t (H_PEND (0x040 + m.val))) 12 = true ∧ (objRun t m.val b.val).sof = true))))

/-! ## Sleep and wake (14_sleep_and_wake.md) -/

/-- Train sleep is in its prepare window with this instant (R383, R389). -/
def Preparing (instant : Nat) (t : State) : Prop :=
  rd t SLEEP_STAT_PHASE = 1 ∧ rd t SLEEP_COMMIT = instant % 2 ^ 64 ∧ bit (rd t (H_PEND 0x048)) 0 = true ∧ ∃ seq, t.sleep.order = some (seq, instant)

/-- Train sleep was aborted for the cause: AWAKE, no instant, no order (R385). -/
def Aborted (cause : Nat) (t : State) : Prop :=
  rd t SLEEP_STAT_PHASE = 0 ∧ rd t SLEEP_COMMIT = 0 ∧ rd t SLEEP_STAT_CAUSE = cause ∧ bit (rd t (H_PEND 0x048)) 1 = true ∧ t.sleep.order = none

/-- Park entry, Steps 1 and 2 of R90, has begun: PARKING, no drive-enable, every transceiver to sleep, the wake latch armed with the requests held (R385). -/
def Parking (s t : State) : Prop :=
  rd t SLEEP_STAT_PHASE = 2 ∧ rd t SLEEP_COMMIT = 0 ∧ rd t TWIN_STAT_DRIVE_EN = 0 ∧ t.park.armed = true ∧ t.park.latch = s.sleep.heldWake ∧ t.sleep.order = none ∧ t.sleep.parkAt = none ∧
  (∀ m : Fin 4, (mbusSt t m.val).commanded = 3) ∧ t.park.railEn = s.park.railEn ∧ t.phase = s.phase

/-- After R90, R161, R379 to R386, R389, R390, R392. The commands of the SLEEP group with their refusals; a frame that R379 does not accept changes
nothing; an accepted TOKEN shows its exclusions and is not accepted again; an ORDER leads to PREPARE, or to EXCLUDED on an excluded car; an ABORT of the
same sequence aborts. A returned round orders sleep with every car's consent, feeds the awake timer with some and stops it with none; a wake request aborts
until 2 ms before the instant and is held after; at the instant, and at that of SLEEP_PARK (1 µs after the command where it names none), Park entry begins.
-/
def Obligations.TrainSleep : Prop :=
  (∀ (t : Take) (s : State) (c : Cmd), Taken sleepConsentSpec t s c →
    ((rdB s SLEEP_CTL_CONSENT = false ∨ c.u 0x08 1 = 1) → Answers (.sleepConsent t) s c stOK [] (fun u => rd u SLEEP_CTL_CONSENT = c.u 0x08 1 ∧
      u.sleep = s.sleep ∧ RegsBut (SLEEP_CTL_CONSENT :: checkFields 0x048) (startOf sleepConsentSpec t c s) u)) ∧
    (rdB s SLEEP_CTL_CONSENT = true → c.u 0x08 1 = 0 → rd s SLEEP_STAT_PHASE ≠ 2 → Answers (.sleepConsent t) s c stOK [] (fun u => rd u SLEEP_CTL_CONSENT = 0 ∧
      rd u SLEEP_STAT_CAUSE = 3 ∧ bit (rd u (H_PEND 0x048)) 6 = true))) ∧
  (∀ (t : Take) (s : State) (c : Cmd), Taken sleepOrderSpec t s c → c.u 0x08 1 = 0 →
    ((managerHere s = false ∨ rd s SLEEP_STAT_PHASE ≠ 0) → Answers (.sleepOrder t) s c stWRONG_STATE [] (fun u => u = startOf sleepOrderSpec t c s)) ∧
    (managerHere s = true → rd s SLEEP_STAT_PHASE = 0 →
      (c.u 0x10 8 ≠ 0 → c.u 0x10 8 < nowNs s + prepareNs s → Answers (.sleepOrder t) s c stTOO_LATE [] (fun u => u = startOf sleepOrderSpec t c s)) ∧
      ((c.u 0x10 8 = 0 ∨ nowNs s + prepareNs s ≤ c.u 0x10 8) → (ownCar s = 0 ∨ bit (rd s SLEEP_EXCL) (ownCar s - 1) = false) →
        Accepts sleepOrderSpec (.sleepOrder t) s c (Preparing (wholeMs (if c.u 0x10 8 = 0 then nowNs s + prepareNs s else c.u 0x10 8)))))) ∧
  (∀ (t : Take) (s : State) (c : Cmd), Taken sleepParkSpec t s c →
    (c.u 0x10 8 ≠ 0 → c.u 0x10 8 < nowNs s → Answers (.sleepPark t) s c stTOO_LATE [] (fun u => u = startOf sleepParkSpec t c s)) ∧
    ((c.u 0x10 8 = 0 ∨ nowNs s ≤ c.u 0x10 8) → Answers (.sleepPark t) s c stOK [] (fun u => u = { startOf sleepParkSpec t c s with sleep :=
      { s.sleep with parkAt := some (if c.u 0x10 8 = 0 then nowNs s + 1000 else c.u 0x10 8) } }))) ∧
  (∀ (t : Take) (s : State) (c : Cmd), Taken sleepTimesSpec t s c → Answers (.sleepTimes t) s c stOK [] (fun u => rd u SLEEP_AWAKE = c.u 0x08 4 ∧
    rd u SLEEP_WIN_PREPARE = c.u 0x0C 2 ∧ rd u SLEEP_WIN_FALSE_WAKE = c.u 0x0E 2 ∧
    RegsBut ([SLEEP_AWAKE, SLEEP_WIN_PREPARE, SLEEP_WIN_FALSE_WAKE] ++ checkFields 0x048) (startOf sleepTimesSpec t c s) u)) ∧
  (∀ (s : State) (f : SleepFrame), s.phase = .running →
    ((sleepAccepts s 0x09 f = false ∨ f.originUid = ownUid s) → Completes (.tokenRx f) s (fun t => t = s)) ∧
    (sleepAccepts s 0x09 f = true → f.originUid ≠ ownUid s → Completes (.tokenRx f) s (fun t => rd t SLEEP_EXCL = f.excluded.toNat ∧
      t.sleep.seen.lookup (sleepKey 0x09 f) = some f.seq.toNat ∧ rd t SLEEP_STAT_PHASE = rd s SLEEP_STAT_PHASE ∧ sleepAccepts t 0x09 f = false)) ∧
    (sleepAccepts s 0x0A f = false → Completes (.orderRx f) s (fun t => t = s)) ∧
    (sleepAccepts s 0x0A f = true → rd s SLEEP_STAT_PHASE = 0 → Completes (.orderRx f) s (fun t => rd t SLEEP_EXCL = f.excluded.toNat ∧
      ((ownCar s = 0 ∨ bit f.excluded.toNat (ownCar s - 1) = false) → Preparing f.field40.toNat t) ∧
      (ownCar s ≠ 0 → bit f.excluded.toNat (ownCar s - 1) = true → rd t SLEEP_STAT_PHASE = 3 ∧ bit (rd t (H_PEND 0x048)) 2 = true))) ∧
    (sleepAccepts s 0x0B f = false → Completes (.abortRx f) s (fun t => t = s)) ∧
    (∀ seq instant, sleepAccepts s 0x0B f = true → s.sleep.order = some (seq, instant) → rd s SLEEP_STAT_PHASE = 1 →
      (seq = f.seq.toNat → Completes (.abortRx f) s (Aborted f.cause.toNat)) ∧
      (seq ≠ f.seq.toNat → Completes (.abortRx f) s (fun t => rd t SLEEP_STAT_PHASE = 1 ∧ t.sleep.order = s.sleep.order)))) ∧
  (∀ s : State, s.phase = .running →
    ((managerHere s = false ∨ rdB s SLEEP_CTL_RING_EN = false ∨ isActive s = false ∨ rd s SLEEP_STAT_PHASE ≠ 0) → Completes .ringRound s (fun t => t = s)) ∧
    (managerHere s = true → rdB s SLEEP_CTL_RING_EN = true → isActive s = true → rd s SLEEP_STAT_PHASE = 0 → ownCar s ≠ 0 → Completes .ringRound s (fun t =>
      t.sleep.round = s.sleep.round + 1)) ∧
    (s.sleep.roundOut = true → Completes .roundLost s (fun t => t.sleep.roundOut = false ∧ bit (rd t (H_PEND 0x048)) 7 = true ∧
      RegsBut (eventFields 0x048) s t)) ∧
    (s.sleep.roundOut = false → Completes .roundLost s (fun t => t = s)) ∧
    ((managerHere s = false ∨ s.sleep.timer = none) → Completes .awakeTimerExpiry s (fun t => t = s)) ∧
    (managerHere s = true → s.sleep.timer ≠ none → rd s SLEEP_EXCL < 2 ^ 64 → carCount s ≤ 64 → Completes .awakeTimerExpiry s (fun t => t.sleep.timer = none ∧
      bit (rd t (H_PEND 0x048)) 2 = true ∧ ∀ c, c < carCount s → bit s.sleep.consentSeen.toNat c = false → bit (rd t SLEEP_EXCL) c = true))) ∧
  (∀ (s : State) (b : BitVec 64), s.phase = .running →
    ((managerHere s = false ∨ s.sleep.roundOut = false ∨ rd s SLEEP_STAT_PHASE ≠ 0) → Completes (.roundReturn b) s (fun t => t = s)) ∧
    (managerHere s = true → s.sleep.roundOut = true → rd s SLEEP_STAT_PHASE = 0 →
      ((b.toNat ||| rd s SLEEP_EXCL) &&& allCars s = allCars s → (ownCar s = 0 ∨ bit (rd s SLEEP_EXCL) (ownCar s - 1) = false) →
        Completes (.roundReturn b) s (fun t => Preparing (wholeMs (nowNs s + prepareNs s)) t ∧ t.sleep.timer = none ∧ t.sleep.roundOut = false)) ∧
      ((b.toNat ||| rd s SLEEP_EXCL) &&& allCars s = 0 → allCars s ≠ 0 → Completes (.roundReturn b) s (fun t => t.sleep.timer = none ∧ t.regs = s.regs)) ∧
      ((b.toNat ||| rd s SLEEP_EXCL) &&& allCars s ≠ 0 → (b.toNat ||| rd s SLEEP_EXCL) &&& allCars s ≠ allCars s → Completes (.roundReturn b) s (fun t =>
        t.sleep.timer = some (s.sleep.timer.getD (nowNs s)) ∧ t.regs = s.regs)))) ∧
  (∀ (s : State) (src : WakeSrc) (partner : Bool), s.phase = .running → bit (rd s SLEEP_WAKE_EN) (wakeBit src) = true →
    (rd s SLEEP_STAT_PHASE = 0 → Completes (.wakeRequest (.input src true partner)) s (fun t => rd t SLEEP_STAT_CAUSE = 1 ∧ rd t SLEEP_STAT_FW_RUN = 0 ∧
      rd t SLEEP_STAT_PHASE = 0 ∧ bit (rd t (H_PEND 0x048)) 6 = true ∧ consents t = false)) ∧
    (∀ seq instant, rd s SLEEP_STAT_PHASE = 1 → s.sleep.order = some (seq, instant) →
      (nowNs s + 2000000 ≤ instant → Completes (.wakeRequest (.input src true partner)) s (Aborted 1)) ∧
      (instant < nowNs s + 2000000 → Completes (.wakeRequest (.input src true partner)) s (fun t => rd t SLEEP_STAT_PHASE = 1 ∧ t.sleep.order = s.sleep.order ∧
        bit t.sleep.heldWake.toNat (wakeBit src) = true))) ∧
    Completes (.wakeRequest (.input src false partner)) s (fun t => t.regs = s.regs ∧ t = { s with sleep := t.sleep })) ∧
  (∀ s : State, s.phase = .running →
    (s.sleep.order = none → Completes .sleepCommitInstant s (fun t => t = s)) ∧
    (∀ seq instant, s.sleep.order = some (seq, instant) →
      (rd s SLEEP_STAT_PHASE = 1 → Completes .sleepCommitInstant s (Parking s)) ∧
      (rd s SLEEP_STAT_PHASE = 3 → Completes .sleepCommitInstant s (fun t => rd t SLEEP_STAT_PHASE = 3 ∧ t.sleep.order = none ∧ t.park = s.park))) ∧
    (s.sleep.parkAt ≠ none → rd s SLEEP_STAT_PHASE ≠ 2 → Completes .parkCommandInstant s (Parking s)) ∧
    (s.sleep.parkAt = none → Completes .parkCommandInstant s (fun t => t = s)) ∧
    (rd s SLEEP_STAT_FW_RUN = 0 → Completes .falseWakeExpiry s (fun t => t = s)) ∧
    (rd s SLEEP_STAT_FW_RUN ≠ 0 → Completes .falseWakeExpiry s (fun t => rd t SLEEP_STAT_FW_RUN = 0 ∧ bit (rd t (H_PEND 0x048)) 5 = true ∧
      t.sleep.parkAt = some (nowNs s + 1000) ∧ t.park = s.park)))

/-- After R376, R377, R386, R387, R391. XCVR_SET commands a state, applied as listen-only where the role gates it and as standby after R18; an enabled
source sets the armed wake latch, and drives WAKE_TL where TL_FWD says so; a pulse is written by a driving node and ends. A ring without fitting objects
shows RING_ERR; with them it shows its consents, opens the window where every worker and the host consent, and sends the token; at the window's end the
channel is due to sleep, and 1 ms later sleeps; a woken bus without a frame goes back. -/
def Obligations.BusSleepAndWakeLatch : Prop :=
  (∀ (t : Take) (s : State) (c : Cmd), Taken xcvrSetSpec t s c → Answers (.xcvrSet t) s c stOK [] (fun u => (mbusSt u (c.u 0x08 1)).commanded = c.u 0x09 1 ∧
    rd u (SLEEP_BUSCTL_XSTATE (c.u 0x08 1)) = (if s.line.r18 then 2 else if roleGated s = true ∧ c.u 0x09 1 = 0 then 1 else c.u 0x09 1) ∧
    (mbusSt u (c.u 0x08 1)).ringPrep = none ∧ (2 ≤ (mbusSt s (c.u 0x08 1)).commanded → c.u 0x09 1 ≤ 1 → bit (rd u (H_PEND 0x048)) 4 = true ∧
      rd u (MBUS_STAT_SYNCED (c.u 0x08 1)) = 0))) ∧
  (∀ (s : State) (src : WakeSrc),
    (s.park.armed = false → Completes (.wakeInPark src) s (fun t => t = s)) ∧
    (s.park.armed = true → s.phase ≠ .running →
      (bit s.park.wakeEn.toNat (wakeBit src) = true → Completes (.wakeInPark src) s (fun t => bit t.park.latch.toNat (wakeBit src) = true ∧
        t.park.tlPulse = (s.park.tlPulse || (decide (wakeBit src ≠ 0) && bit s.park.tlFwd.toNat (wakeBit src))) ∧ t.phase = s.phase ∧
        (wakeBit src = 0 → rd t DEV_RSTCAUSE_WAKE_TL = 1) ∧ (wakeBit src = 3 → rd t DEV_RSTCAUSE_WAKE_LEAD = 1))) ∧
      (bit s.park.wakeEn.toNat (wakeBit src) = false → Completes (.wakeInPark src) s (fun t => t = s))) ∧
    (s.park.armed = true → s.phase = .running → bit (rd s SLEEP_WAKE_EN) (wakeBit src) = true → Completes (.wakeInPark src) s (fun t =>
      bit t.park.latch.toNat (wakeBit src) = true))) ∧
  (∀ (s : State) (i : Initiator), WriteActs s i 0x048 0x060 → rd s SLEEP_WAKE_EN < 2 ^ 8 → rd s SLEEP_WAKE_TL_FWD < 2 ^ 8 → rd s SLEEP_WAKE_TL_WIDTH < 2 ^ 13 →
    Completes (.tlPulseWrite i) s (fun t => t.park = (if isActive s then { s.park with tlPulse := true } else s.park) ∧ RegsBut (checkFields 0x048) s t)) ∧
  (∀ s : State, Completes .tlPulseEnd s (fun t => t = { s with park := { s.park with tlPulse := false } })) ∧
  (∀ (s : State) (m : Fin 4), s.phase = .running →
    ((rdB s (SLEEP_BUSCTL_RING_EN m.val) = false ∨ pageOn s (0x040 + m.val) = false) → Completes (.busRingRound m) s (fun t => t = s)) ∧
    (rdB s (SLEEP_BUSCTL_RING_EN m.val) = true → pageOn s (0x040 + m.val) = true → (mbusSt s m.val).commanded < 2 → (mbusSt s m.val).ringSleep = false →
      (ringObjectsOk s m.val = false → Completes (.busRingRound m) s (fun t => rd t (SLEEP_BUSCTL_RING_ERR m.val) = 1 ∧ t.mbus = s.mbus ∧
        RegsBut [SLEEP_BUSCTL_RING_ERR m.val] s t)) ∧
      (ringObjectsOk s m.val = true →
        ((mbusSt s m.val).ringPrep = none → Completes (.busRingRound m) s (fun t => rd t (SLEEP_BUSCTL_RING_ERR m.val) = 0 ∧
          rd t (SLEEP_BUSCON m.val) = (mbusSt s m.val).ringNow.toNat ∧ (mbusSt t m.val).ringRound = (mbusSt s m.val).ringRound + 1 ∧
          ((mbusSt s m.val).ringRound ≠ 0 → rdB s (SLEEP_BUSCTL_HOST_OK m.val) = true →
            (mbusSt s m.val).ringNow.toNat &&& channelWorkers s m.val = channelWorkers s m.val → (mbusSt t m.val).ringPrep = some (wholeMs (nowNs s + prepareNs s))) ∧
          (rdB s (SLEEP_BUSCTL_HOST_OK m.val) = false → (mbusSt t m.val).ringPrep = none) ∧
          (isActive s = true → rdB s (MBW_O_STOPPED m.val (rd s (SLEEP_BUSCTL_TOBJ m.val))) = false →
            rd t (MBW_O_TX_PEND m.val (rd s (SLEEP_BUSCTL_TOBJ m.val))) = 1))) ∧
        (∀ x, (mbusSt s m.val).ringPrep = some x → x ≤ nowNs s → Completes (.busRingRound m) s (fun t => (mbusSt t m.val).ringSleep = true ∧
          (mbusSt t m.val).ringPrep = none)) ∧
        (∀ x, (mbusSt s m.val).ringPrep = some x → nowNs s < x → Completes (.busRingRound m) s (fun t => (mbusSt t m.val).ringSleep = false ∧
          (mbusSt t m.val).ringPrep = some x)))) ∧
    ((mbusSt s m.val).ringSleep = true → Completes (.busSleepEntry m) s (fun t => (mbusSt t m.val).commanded = sleepState s m.val ∧ (mbusSt t m.val).ringSleep = false ∧
      bit (rd t (H_PEND 0x048)) 3 = true ∧ (s.line.r18 = false → rd t (SLEEP_BUSCTL_XSTATE m.val) = sleepState s m.val % 4))) ∧
    ((mbusSt s m.val).ringSleep = false → Completes (.busSleepEntry m) s (fun t => t = s)) ∧
    ((mbusSt s m.val).wokenIdle = true → Completes (.busFalseWake m) s (fun t => (mbusSt t m.val).commanded = sleepState s m.val ∧ (mbusSt t m.val).wokenIdle = false ∧
      RegsBut [SLEEP_BUSCTL_XSTATE m.val] s t)) ∧
    ((mbusSt s m.val).wokenIdle = false → Completes (.busFalseWake m) s (fun t => t = s)))

/-! ## Load channels (15_load_channels.md) -/

/-- Outside the registers of these pages and the masked vectors, every register reads as before, and of the units only the load channels, the recorder and the pages' checks
can differ, with the entries of the node's own contribution to the journal. -/
def OnlyLoad (pages : List Nat) (s t : State) : Prop :=
  (∀ f : Fld, keyPage f.key ∉ pages → f.key ≠ BRG_MSIX_PBA.key → rd t f = rd s f) ∧
  t = { s with regs := t.regs, events := t.events, vecs := t.vecs, irq := t.irq, out := t.out, load := t.load, rcd := t.rcd, twin := t.twin, pages := t.pages }

/-- The machine of channel n governs and is now in state st, with its BUSY; the higher channel of a pair shows the same (R396, R399). -/
def InState (n st : Nat) (t : State) : Prop :=
  ∀ k ∈ lchBoth t n, rd t (LCH_STAT_STATE k) = st ∧ rd t (LCH_STAT_BUSY k) = (if st = 1 ∨ st = 3 ∨ st = 7 then 1 else 0)

/-- An occurrence in the joined contribution, or none on a node alone. -/
def Journaled (i : JItem) (s t : State) : Prop :=
  t.twin = if joined s then { s.twin with own := s.twin.own ++ [⟨5, i, true⟩] } else s.twin

/-- An enable v written on the governing channel n (R103, R399). -/
def EnActs (n : Nat) (v : Bool) (s t : State) : Prop :=
  (rd s (LCH_STAT_STATE n) = 0 → v = true → rd s (LCH_STAT_FAULT n) = 2 → rd t (LCH_STAT_STATE n) = 0 ∧ rd t (LCH_CTL_EN n) = 0) ∧
  (rd s (LCH_STAT_STATE n) = 0 → v = true → rd s (LCH_STAT_FAULT n) ≠ 2 → groupUsable s (lchGroup n) = true → InState n 1 t) ∧
  (rd s (LCH_STAT_STATE n) = 0 → v = true → rd s (LCH_STAT_FAULT n) ≠ 2 → groupUsable s (lchGroup n) = false → InState n 6 t ∧ rd t (LCH_STAT_FAULT n) = 5) ∧
  ((rd s (LCH_STAT_STATE n) = 1 ∨ rd s (LCH_STAT_STATE n) = 3 ∨ rd s (LCH_STAT_STATE n) = 7) → rd t (LCH_STAT_STATE n) = rd s (LCH_STAT_STATE n) ∧
    (lchSt t n).held = some v ∧ rd t (LCH_STAT_HELD n) = 1 ∧ (rd s (LCH_STAT_STATE n) = 3 → rd t (LCH_STAT_TRIPPED n) = 0)) ∧
  ((rd s (LCH_STAT_STATE n) = 2 ∨ rd s (LCH_STAT_STATE n) = 6) → v = false → InState n 3 t) ∧
  (rd s (LCH_STAT_STATE n) = 4 → v = false → InState n 0 t) ∧
  ((rd s (LCH_STAT_STATE n) = 2 ∨ rd s (LCH_STAT_STATE n) = 4 ∨ rd s (LCH_STAT_STATE n) = 6) → v = true → rd t (LCH_STAT_STATE n) = rd s (LCH_STAT_STATE n)) ∧
  (rd s (LCH_STAT_STATE n) = 0 → v = false → rd t (LCH_STAT_STATE n) = 0) ∧
  (rd s (LCH_STAT_STATE n) = 5 → rd t (LCH_STAT_STATE n) = 5) ∧
  ((rd s (LCH_STAT_STATE n) ≠ 0 ∨ v = false ∨ rd s (LCH_STAT_FAULT n) ≠ 2) → rd t (LCH_CTL_EN n) = if v then 1 else 0)

/-- After R103, R162, R396, R399 to R402. The enable written by LCH_SET or LCH_CTL acts in each of the eight states as stated; a start, a demagnetization,
a stop, a trip, a thermal latch, a retry, the end of an inrush window and the count's reset move the governing channel as stated: a stop that a trip caused
leads to a retry while the count allows it and to OFF after, a held request replaces it, a set latch wins; LCH_CLEAR clears counts and cooled latches of
the channels named. Outside the pages named nothing but events, load state, recorder and own journal entries changes. -/
def Obligations.ChannelMachine : Prop :=
  (∀ (t : Take) (s : State) (c : Cmd), Taken lchSetSpec t s c → ∃ res, Answers (.lchSet t) s c stOK res (fun u =>
    (∀ n ∈ maskChannels s (c.u 0x08 2), EnActs n (decide (c.u 0x0A 1 = 1)) s u ∧ rd u (LCH_CTL_DUTY n) = c.u 0x0C 2) ∧
    (∀ n, n < 16 → lchLead s n = n → n ∉ maskChannels s (c.u 0x08 2) → rd u (LCH_STAT_STATE n) = rd s (LCH_STAT_STATE n) ∧ rd u (LCH_CTL_EN n) = rd s (LCH_CTL_EN n) ∧
      rd u (LCH_CTL_DUTY n) = rd s (LCH_CTL_DUTY n)) ∧
    (∀ n, n < 16 → bit (leAt res 0 2) n = decide (n ∈ maskChannels s (c.u 0x08 2) ∧ rdB u (LCH_STAT_HELD n) = true)) ∧ OnlyLoad [0x051] (startOf lchSetSpec t c s) u)) ∧
  (∀ (s : State) (i : Initiator) (n : Fin 16) (v : Word), WriteActs s i 0x051 (0x100 + 0x20 * n.val) →
    (lchLead s n.val ≠ n.val → Completes (.lchCtlEnWrite i n v) s (fun t => RegsBut (checkFields 0x051) s t ∧ t.load = s.load)) ∧
    (lchLead s n.val = n.val → Completes (.lchCtlEnWrite i n v) s (fun t => EnActs n.val (bit v.toNat 31) s t ∧ rd t (LCH_CTL_DUTY n.val) = v.toNat % 2 ^ 14 ∧
      (∀ f : Fld, keyPage f.key ≠ 0x051 → f.key ≠ BRG_MSIX_PBA.key → rd t f = rd s f)))) ∧
  (∀ (s : State) (n : Fin 16), s.phase = .running →
    ((rd s (LCH_STAT_STATE n.val) ≠ 1 ∨ lchLead s n.val ≠ n.val) → Completes (.channelStartComplete n) s (fun t => t = s)) ∧
    (rd s (LCH_STAT_STATE n.val) = 1 → lchLead s n.val = n.val → Completes (.channelStartComplete n) s (fun t =>
      InState n.val (if (lchSt s n.val).held = some false then 3 else 2) t ∧ rd t (LCH_STAT_HELD n.val) = 0 ∧ (lchSt t n.val).held = none ∧ OnlyLoad [0x051] s t)) ∧
    (rd s (LCH_STAT_STATE n.val) = 3 → Completes (.demagEnd n) s (fun t => t = setLch n.val { lchSt s n.val with demagDone := true } s)) ∧
    (rd s (LCH_STAT_STATE n.val) ≠ 3 → Completes (.demagEnd n) s (fun t => t = s)) ∧
    ((rd s (LCH_STAT_STATE n.val) ≠ 3 ∨ lchLead s n.val ≠ n.val ∨ (lchSt s n.val).demagDone = false) → Completes (.channelStopComplete n) s (fun t => t = s)) ∧
    (rd s (LCH_STAT_STATE n.val) = 3 → lchLead s n.val = n.val → (lchSt s n.val).demagDone = true →
      ((∃ k ∈ lchBoth s n.val, rdB s (LCH_STAT_LATCH k) = true) → Completes (.channelStopComplete n) s (fun t => InState n.val 5 t ∧ rd t (LCH_STAT_HELD n.val) = 0 ∧
        rd t (LCH_STAT_TRIPPED n.val) = 0 ∧ rd t (LCH_STAT_COUNT n.val) = rd s (LCH_STAT_COUNT n.val) ∧ OnlyLoad [0x051] s t)) ∧
      ((∀ k ∈ lchBoth s n.val, rdB s (LCH_STAT_LATCH k) = false) →
        (rdB s (LCH_STAT_TRIPPED n.val) = true → rd s (LCH_STAT_COUNT n.val) < rd s (LCH_CFG_RETRY_MAX n.val) → Completes (.channelStopComplete n) s (fun t =>
          InState n.val 4 t ∧ rd t (LCH_STAT_HELD n.val) = 0 ∧ rd t (LCH_STAT_TRIPPED n.val) = 0 ∧ rd t (LCH_CTL_EN n.val) = rd s (LCH_CTL_EN n.val) ∧
          (lchSt t n.val).retryDue = some (max (nowNs s) ((lchSt s n.val).offAt + retryDelay s n.val)) ∧ OnlyLoad [0x051] s t)) ∧
        (rdB s (LCH_STAT_TRIPPED n.val) = true → rd s (LCH_CFG_RETRY_MAX n.val) ≤ rd s (LCH_STAT_COUNT n.val) → Completes (.channelStopComplete n) s (fun t =>
          InState n.val 0 t ∧ rd t (LCH_CTL_EN n.val) = 0 ∧ rd t (LCH_STAT_FAULT n.val) = 2 ∧ bit (rd t (LCH_FAULT n.val)) 1 = true ∧
          bit (rd t (H_PEND 0x051)) n.val = true ∧ OnlyLoad [0x051, 0x068] s t)) ∧
        (rdB s (LCH_STAT_TRIPPED n.val) = false → (lchSt s n.val).held = some true → Completes (.channelStopComplete n) s (fun t =>
          InState n.val (if groupUsable s (lchGroup n.val) then 1 else 6) t ∧ rd t (LCH_STAT_HELD n.val) = 0 ∧ rd t (LCH_STAT_COUNT n.val) = rd s (LCH_STAT_COUNT n.val) ∧
          OnlyLoad [0x051] s t)) ∧
        (rdB s (LCH_STAT_TRIPPED n.val) = false → (lchSt s n.val).held ≠ some true → Completes (.channelStopComplete n) s (fun t =>
          InState n.val 0 t ∧ rd t (LCH_STAT_HELD n.val) = 0 ∧ rd t (LCH_CTL_EN n.val) = rd s (LCH_CTL_EN n.val) ∧ OnlyLoad [0x051] s t)))) ∧
    (lchDriven s n.val = false → Completes (.channelTrip n) s (fun t => t = s) ∧ Completes (.thermalShutdown n) s (fun t => t = s)) ∧
    (lchDriven s n.val = true → (rd s (LCH_STAT_STATE (lchLead s n.val)) = 1 ∨ rd s (LCH_STAT_STATE (lchLead s n.val)) = 2) →
      Completes (.channelTrip n) s (fun t => InState (lchLead s n.val) 3 t ∧ rd t (LCH_STAT_FAULT n.val) = 1 ∧ bit (rd t (LCH_FAULT n.val)) 0 = true ∧
        rd t (LCH_CNT_TRIPS n.val) = min (rd s (LCH_CNT_TRIPS n.val) + 1) 65535 ∧ bit (rd t (H_PEND 0x051)) n.val = true ∧
        ((lchSt s (lchLead s n.val)).held = none → rd t (LCH_STAT_TRIPPED (lchLead s n.val)) = 1) ∧
        (∀ b, (lchSt s (lchLead s n.val)).held = some b → (lchSt t (lchLead s n.val)).held = some b ∧
          rd t (LCH_STAT_TRIPPED (lchLead s n.val)) = rd s (LCH_STAT_TRIPPED (lchLead s n.val))) ∧ Journaled (.trip n false) s t ∧ OnlyLoad [0x051] s t) ∧
      Completes (.thermalShutdown n) s (fun t => InState (lchLead s n.val) 3 t ∧ rd t (LCH_STAT_LATCH n.val) = 1 ∧ rd t (LCH_STAT_FAULT n.val) = 3 ∧
        bit (rd t (LCH_FAULT n.val)) 2 = true ∧ bit (rd t (H_PEND 0x051)) n.val = true ∧ Journaled (.trip n true) s t ∧ OnlyLoad [0x051, 0x068] s t)) ∧
    ((rd s (LCH_STAT_STATE n.val) ≠ 4 ∨ lchLead s n.val ≠ n.val) → Completes (.retryDue n) s (fun t => t = s)) ∧
    (rd s (LCH_STAT_STATE n.val) = 4 → lchLead s n.val = n.val →
      (groupUsable s (lchGroup n.val) = false → Completes (.retryDue n) s (fun t => InState n.val 6 t ∧ rd t (LCH_STAT_FAULT n.val) = 5 ∧
        rd t (LCH_STAT_COUNT n.val) = rd s (LCH_STAT_COUNT n.val) ∧ OnlyLoad [0x051] s t)) ∧
      (groupUsable s (lchGroup n.val) = true → clusterBusy s n.val = true → Completes (.retryDue n) s (fun t => t.regs = s.regs ∧ (lchSt t n.val).dueNow = true)) ∧
      (groupUsable s (lchGroup n.val) = true → clusterBusy s n.val = false → Completes (.retryDue n) s (fun t => InState n.val 1 t ∧
        rd t (LCH_STAT_COUNT n.val) = (rd s (LCH_STAT_COUNT n.val) + 1) % 8 ∧ rd t (LCH_CNT_RETRIES n.val) = min (rd s (LCH_CNT_RETRIES n.val) + 1) 65535 ∧
        rd t (LCH_STAT_INRUSH n.val) = (if inrushUs s n.val = 0 then 0 else 1) ∧ OnlyLoad [0x051] s t))) ∧
    (lchPaired s n.val = false → Completes (.inrushWindowEnd n) s (fun t => rd t (LCH_STAT_INRUSH n.val) = 0 ∨ ((lchSt s n.val).dueNow = true ∧ rd s (LCH_STAT_STATE n.val) = 4))) ∧
    (∀ k, lchPaired s n.val = false → k < 16 → k ≠ n.val → lchGroup k = lchGroup n.val → (lchSt s k).dueNow = true → rd s (LCH_STAT_STATE k) = 4 → lchLead s k = k →
      clusterBusy (wr s (LCH_STAT_INRUSH n.val) 0) k = false → groupUsable s (lchGroup k) = true → Completes (.inrushWindowEnd n) s (fun t => InState k 1 t ∧
        rd t (LCH_STAT_COUNT k) = (rd s (LCH_STAT_COUNT k) + 1) % 8)) ∧
    (rd s (LCH_STAT_STATE n.val) ≠ 2 → Completes (.retryCountReset n) s (fun t => t = s)) ∧
    (rd s (LCH_STAT_STATE n.val) = 2 → lchLead s n.val = n.val → Completes (.retryCountReset n) s (fun t => rd t (LCH_STAT_COUNT n.val) = 0 ∧
      (lchPaired s n.val = false → t = wr s (LCH_STAT_COUNT n.val) 0)))) ∧
  (∀ (t : Take) (s : State) (c : Cmd), Taken lchClearSpec t s c → ∃ res, Answers (.lchClear t) s c stOK res (fun u =>
    (∀ n, n < 16 → bit (c.u 0x08 2) n = true → lchPaired s n = false →
      (c.u 0x0A 1 = 2 → rd u (LCH_STAT_COUNT n) = 0 ∧ rd u (LCH_STAT_FAULT n) = (if rd s (LCH_STAT_FAULT n) = 2 then 0 else rd s (LCH_STAT_FAULT n)) ∧
        rd u (LCH_STAT_STATE n) = rd s (LCH_STAT_STATE n) ∧ rd u (LCH_STAT_LATCH n) = rd s (LCH_STAT_LATCH n)) ∧
      (c.u 0x0A 1 = 1 ∨ c.u 0x0A 1 = 3 → rdB s (LCH_STAT_LATCH n) = true → coolEnough s n = false → rd u (LCH_STAT_LATCH n) = rd s (LCH_STAT_LATCH n) ∧
        rd u (LCH_STAT_STATE n) = rd s (LCH_STAT_STATE n) ∧ bit (leAt res 0 2) n = true) ∧
      (c.u 0x0A 1 = 1 → rdB s (LCH_STAT_LATCH n) = true → coolEnough s n = true → rd s (LCH_STAT_STATE n) = 5 → rd u (LCH_STAT_LATCH n) = 0 ∧ bit (leAt res 0 2) n = false ∧
        (rdB s (LCH_CTL_EN n) = false → InState n 0 u) ∧
        (rdB s (LCH_CTL_EN n) = true → rd s (LCH_STAT_COUNT n) < rd s (LCH_CFG_RETRY_MAX n) → InState n 4 u ∧ (lchSt u n).retryDue = some (nowNs s + retryDelay s n)) ∧
        (rdB s (LCH_CTL_EN n) = true → rd s (LCH_CFG_RETRY_MAX n) ≤ rd s (LCH_STAT_COUNT n) → InState n 0 u ∧ rd u (LCH_CTL_EN n) = 0 ∧ rd u (LCH_STAT_FAULT n) = 2)) ∧
      (c.u 0x0A 1 = 3 → rdB s (LCH_STAT_LATCH n) = true → coolEnough s n = true → rd s (LCH_STAT_STATE n) = 5 → rdB s (LCH_CTL_EN n) = true →
        rd s (LCH_CFG_RETRY_MAX n) ≠ 0 → InState n 4 u ∧ rd u (LCH_STAT_COUNT n) = 0)) ∧
    (∀ n, n < 16 → bit (c.u 0x08 2) n = false → lchPaired s n = false → rd u (LCH_STAT_STATE n) = rd s (LCH_STAT_STATE n) ∧ rd u (LCH_STAT_COUNT n) = rd s (LCH_STAT_COUNT n) ∧
      rd u (LCH_STAT_LATCH n) = rd s (LCH_STAT_LATCH n)) ∧ OnlyLoad [0x051, 0x068] (startOf lchClearSpec t c s) u))

/-- After R162, R396, R398, R404 to R407, R410 to R414. LCH_CONFIG and LCH_FW_TEST need channels that are OFF; LCH_PROFILE writes one user profile;
ISNS_SELECT needs the claim; a free-wheel test completes and takes a held request. A group's loss puts its running channels in SUPPLY_OFF and its return
starts them; PGND loss takes every group; a conversion writes CODE and MA and detects an open load; imbalance and a failed segment show their faults; the
duty follows the supply where it is compensated; the loss budget counts its excess and sheds one channel, by SHED, loss and number. -/
def Obligations.LoadSupervision : Prop :=
  (∀ (t : Take) (s : State) (c : Cmd), Taken lchConfigSpec t s c →
    ((rd s (LCH_STAT_STATE (c.u 0x08 1)) ≠ 0 ∨ ((c.u 0x12 1 = 1 ∨ lchPaired s (c.u 0x08 1) = true) ∧ rd s (LCH_STAT_STATE (lchMate (c.u 0x08 1))) ≠ 0)) →
      Answers (.lchConfig t) s c stWRONG_STATE [] (fun u => u = startOf lchConfigSpec t c s)) ∧
    (rd s (LCH_STAT_STATE (c.u 0x08 1)) = 0 → ((c.u 0x12 1 = 0 ∧ lchPaired s (c.u 0x08 1) = false) ∨ rd s (LCH_STAT_STATE (lchMate (c.u 0x08 1))) = 0) →
      Answers (.lchConfig t) s c stOK [] (fun u =>
      (∀ n, (n = c.u 0x08 1 ∨ (c.u 0x12 1 = 1 ∧ n = lchMate (c.u 0x08 1))) → rd u (LCH_CFG_TYPE n) = c.u 0x09 1 ∧ rd u (LCH_CFG_WIRING n) = c.u 0x0A 1 ∧
        rd u (LCH_CFG_PWM_FREQ n) = c.u 0x0C 2 ∧ rd u (LCH_OL_THR n) = c.u 0x0E 2 ∧ rd u (LCH_OL_TIME n) = c.u 0x10 2 ∧ rd u (LCH_CFG_PAR n) = c.u 0x12 1 ∧
        rd u (LCH_CFG_COMP n) = (if c.u 0x09 1 = 0 ∨ c.u 0x09 1 = 3 then 1 else 0)) ∧
      (∀ n, n < 16 → n ≠ c.u 0x08 1 → n ≠ lchMate (c.u 0x08 1) → rd u (LCH_CFG_TYPE n) = rd s (LCH_CFG_TYPE n) ∧ rd u (LCH_CFG_PAR n) = rd s (LCH_CFG_PAR n)) ∧
      OnlyLoad [0x051] (startOf lchConfigSpec t c s) u))) ∧
  (∀ (t : Take) (s : State) (c : Cmd), Taken lchProfileSpec t s c → Answers (.lchProfile t) s c stOK [] (fun u =>
    u.load.profiles.lookup (8 + c.u 0x08 1) = some (profilePoints c) ∧ (∀ k, k ≠ 8 + c.u 0x08 1 → u.load.profiles.lookup k = s.load.profiles.lookup k) ∧
    u = { startOf lchProfileSpec t c s with load := { s.load with profiles := u.load.profiles } })) ∧
  (∀ (t : Take) (s : State) (c : Cmd), Taken lchFwTestSpec t s c →
    (rd s (LCH_STAT_STATE (lchLead s (c.u 0x08 1))) ≠ 0 → Answers (.lchFwTest t) s c stWRONG_STATE [] (fun u => u = startOf lchFwTestSpec t c s)) ∧
    (rd s (LCH_STAT_STATE (lchLead s (c.u 0x08 1))) = 0 → Accepts lchFwTestSpec (.lchFwTest t) s c (fun u => InState (lchLead s (c.u 0x08 1)) 7 u ∧
      OnlyLoad [0x051] (startOf lchFwTestSpec t c s) u))) ∧
  (∀ (s : State) (n : Fin 16) (absent : Bool) (us : Fin 65536) (a : Accepted), s.phase = .running → findAccepted s 0x0A04 (.fwTest n.val) = some a →
    rd s (LCH_STAT_STATE (lchLead s n.val)) = 7 → ∃ u, exec (.fwTestComplete n absent us) s = .next (complete a stOK (le 1 (if absent then 1 else 0) ++ zeros 3 ++ le 2 us.val) u) ∧
      bit (rd u (H_PEND 0x050)) 7 = true ∧ (absent = true → bit (rd u (LCH_FAULT n.val)) 7 = true) ∧ rd u (LCH_STAT_HELD (lchLead s n.val)) = 0 ∧
      InState (lchLead s n.val) (if (lchSt s (lchLead s n.val)).held = some true then (if groupUsable s (lchGroup (lchLead s n.val)) then 1 else 6) else 0) u ∧
      OnlyLoad [0x050, 0x051] s u) ∧
  (∀ (t : Take) (s : State) (c : Cmd), Taken isnsSelectSpec t s c →
    (∀ k, holds s c.path 0x400 = true → claimOf s 0x400 = some k → k.use = 0 → Answers (.isnsSelect t) s c stOK [] (fun u => rd u LOAD_ISNS_CHANNEL = c.u 0x08 1 ∧
      rd u LOAD_ISNS_CLAIMED = 1 ∧ rd u LOAD_ISNS_BALL = 0 ∧ u.load.isns = c.u 0x08 1 ∧
      RegsBut [LOAD_ISNS_CHANNEL, LOAD_ISNS_CLAIMED, LOAD_ISNS_BALL] (startOf isnsSelectSpec t c s) u)) ∧
    ((holds s c.path 0x400 = false ∨ ∀ k, claimOf s 0x400 = some k → k.use ≠ 0) → Answers (.isnsSelect t) s c stWRONG_STATE [] (fun u => u = startOf isnsSelectSpec t c s))) ∧
  (∀ (s : State) (v : BitVec 4), s.phase = .running → Completes (.selChange v) s (fun t => rd t LOAD_ISNS_SEL = v.toNat ∧ t.line.sel = v ∧
    (∀ k, claimOf s 0x400 = some k → k.use = 1 → (claimOf s 0x110).isSome = true → ballReady s 4 = true → rd t LOAD_ISNS_CHANNEL = v.toNat) ∧
    (claimOf s 0x400 = none → rd t LOAD_ISNS_CHANNEL = 0xFF) ∧ RegsBut [LOAD_ISNS_SEL, LOAD_ISNS_CHANNEL, LOAD_ISNS_CLAIMED, LOAD_ISNS_BALL] s t)) ∧
  (∀ (s : State) (g : Fin 4) (why : GroupFault), s.phase = .running → Completes (.groupUnusable g why) s (fun t => groupUsable t g.val = false ∧
    (why = .absent → rd t (LOAD_GRPSTAT_PRESENT g.val) = 0 ∧ bit (rd t (H_PEND 0x050)) 0 = true) ∧
    (why = .overVolt → rd t (LOAD_GRPSTAT_OVER g.val) = 1 ∧ bit (rd t (H_PEND 0x050)) 1 = true) ∧
    (why = .reversed → rd t (LOAD_GRPSTAT_REVERSE g.val) = 1 ∧ bit (rd t (H_PEND 0x050)) 4 = true) ∧
    (∀ n ∈ groupChannels s g.val, (rd s (LCH_STAT_STATE n) = 1 ∨ rd s (LCH_STAT_STATE n) = 2) → (lchSt s n).held ≠ some false → InState n 6 t ∧ rd t (LCH_STAT_FAULT n) = 5) ∧
    (∀ n, n < 16 → lchLead s n = n → (lchGroup n ≠ g.val ∨ (rd s (LCH_STAT_STATE n) ≠ 1 ∧ rd s (LCH_STAT_STATE n) ≠ 2)) →
      rd t (LCH_STAT_STATE n) = rd s (LCH_STAT_STATE n)) ∧ OnlyLoad [0x050, 0x051] s t)) ∧
  (∀ (s : State) (g : Fin 4), s.phase = .running →
    (s.load.pgnd = false → Completes (.groupUsable g) s (fun t => t = s)) ∧
    (s.load.pgnd = true → Completes (.groupUsable g) s (fun t => groupUsable t g.val = true ∧ rd t (LOAD_GRPSTAT_PRESENT g.val) = 1 ∧ rd t (LOAD_GRPSTAT_OVER g.val) = 0 ∧
      rd t (LOAD_GRPSTAT_REVERSE g.val) = 0 ∧ (∀ n ∈ groupChannels s g.val, rd s (LCH_STAT_STATE n) = 6 → rdB s (LCH_CTL_EN n) = true → InState n 1 t ∧
        rd t (LCH_STAT_COUNT n) = rd s (LCH_STAT_COUNT n)) ∧ OnlyLoad [0x050, 0x051] s t)) ∧
    (bit s.load.usable.toNat g.val = false → ∀ b, Completes (.groupVoltageChange g b) s (fun t => t = s)) ∧
    (bit s.load.usable.toNat g.val = true → ∀ b, Completes (.groupVoltageChange g b) s (fun t => rd t (LOAD_GRPSTAT_UNDER g.val) = (if b = .under then 1 else 0) ∧
      rd t (LOAD_GRPSTAT_SURGE g.val) = (if b = .surge then 1 else 0) ∧ (b = .surge → bit (rd t (H_PEND 0x050)) 2 = true) ∧ t.load = s.load ∧
      RegsBut ([LOAD_GRPSTAT_UNDER g.val, LOAD_GRPSTAT_SURGE g.val] ++ eventFields 0x050) s t))) ∧
  (∀ s : State, s.phase = .running →
    (s.load.pgnd = false → Completes .pgndLost s (fun t => t = s)) ∧
    (s.load.pgnd = true → Completes .pgndLost s (fun t => rd t LOAD_STAT_PGND_LOST = 1 ∧ bit (rd t (H_PEND 0x050)) 3 = true ∧ t.line.bypOn = false ∧
      (∀ g, groupUsable t g = false) ∧ (∀ n, n < 16 → lchLead s n = n → rdB s (LCH_CTL_EN n) = true → InState n 6 t ∧ rd t (LCH_STAT_FAULT n) = 6 ∧
        bit (rd t (LCH_FAULT n)) 4 = true ∧ bit (rd t (LCH_FAULT n)) 5 = true) ∧
      (∀ n, n < 16 → lchPaired s n = false → rdB s (LCH_CTL_EN n) = false → rd t (LCH_STAT_FAULT n) = rd s (LCH_STAT_FAULT n)))) ∧
    Completes .pgndRestored s (fun t => rd t LOAD_STAT_PGND_LOST = 0 ∧ t.load.pgnd = true ∧ t.load.usable = s.load.usable ∧
      t.line.bypOn = (!s.line.r18 && !s.line.r19) ∧ RegsBut [LOAD_STAT_PGND_LOST] s t) ∧
    Completes .takeoverTripEnd s (fun t => t = { s with load := { s.load with takeover := false } })) ∧
  (∀ (s : State) (a : AdcSample), s.phase = .running →
    (a.aligned ≠ rdB s LOAD_CTL_ADC_ALIGN → Completes (.adcSample a) s (fun t => t = s)) ∧
    (a.aligned = true → rdB s LOAD_CTL_ADC_ALIGN = true → a.sinceUs < 100 → Completes (.adcSample a) s (fun t => rd t LOAD_STAT_ADC_SKIP = 1 ∧
      bit (rd t (H_PEND 0x050)) 10 = true ∧ RegsBut (LOAD_STAT_ADC_SKIP :: eventFields 0x050) s t)) ∧
    (a.aligned = rdB s LOAD_CTL_ADC_ALIGN → (a.aligned = false ∨ 100 ≤ a.sinceUs) → Completes (.adcSample a) s (fun t =>
      (∀ n, n < 16 → rd t (LCH_CUR_CODE n) = ((a.codes[n]?).getD 0).toNat ∧ rd t (LCH_CUR_MA n) = min 65535 (((a.codes[n]?).getD 0).toNat * lchLsb n / 1000)) ∧
      (∀ n, n < 16 → rd t (LCH_STAT_STATE n) = rd s (LCH_STAT_STATE n)) ∧
      (∀ n, n < 16 → lchDriven s n = true → rd s (LCH_STAT_STATE n) = 2 → bit a.onPhase.toNat n = true → rdB s (LCH_STAT_INRUSH n) = false → rd s (LCH_OL_THR n) ≠ 0 →
        codeMa n ((a.codes[n]?).getD 0).toNat < olThreshold s n → olSamples s n ≤ (lchSt s n).olBelow + 1 → (lchSt s n).openLoad = false →
        rd t (LCH_STAT_FAULT n) = 4 ∧ (lchSt t n).openLoad = true) ∧ OnlyLoad [0x051] s t))) ∧
  (∀ (s : State) (n : Fin 16) (beyond : Bool), s.phase = .running →
    ((rd s (LCH_CFG_WIRING n.val) ≠ 1 ∨ joined s = false ∨ rdB s (LCH_STAT_INRUSH n.val) = true ∨ (lchSt s n.val).imb = beyond) → Completes (.imbalance n beyond) s (fun t => t = s)) ∧
    (rd s (LCH_CFG_WIRING n.val) = 1 → joined s = true → rdB s (LCH_STAT_INRUSH n.val) = false → (lchSt s n.val).imb = !beyond → Completes (.imbalance n beyond) s (fun t =>
      (lchSt t n.val).imb = beyond ∧ (beyond = true → rd t (LCH_STAT_FAULT n.val) = 9 ∧ bit (rd t (LCH_FAULT n.val)) 8 = true ∧ bit (rd t (H_PEND 0x050)) 9 = true) ∧
      (beyond = false → rd t (LCH_STAT_FAULT n.val) = (if rd s (LCH_STAT_FAULT n.val) = 9 then 0 else rd s (LCH_STAT_FAULT n.val))) ∧
      (∀ k, k < 16 → rd t (LCH_STAT_STATE k) = rd s (LCH_STAT_STATE k)) ∧ OnlyLoad [0x050, 0x051, 0x068] s t))) ∧
  (∀ (s : State) (n : Fin 16) (seg : Fin 9), s.phase = .running → Completes (.segmentFail n seg) s (fun t => bit (rd t (LCH_STAT_SEG_OK n.val)) seg.val = false ∧
    (∀ k, k ≠ seg.val → bit (rd t (LCH_STAT_SEG_OK n.val)) k = bit (rd s (LCH_STAT_SEG_OK n.val) % 2 ^ 9) k) ∧ rd t (LCH_STAT_DERATED n.val) = 1 ∧
    rd t (LCH_STAT_FAULT n.val) = 10 ∧ bit (rd t (H_PEND 0x050)) 8 = true ∧ (n.val, seg.val) ∈ t.store.segs ∧ (role s = 0 → t.rsv.drillAsked = true) ∧
    (∀ k, k < 16 → rd t (LCH_STAT_STATE k) = rd s (LCH_STAT_STATE k)))) ∧
  (∀ (s : State) (n : Fin 16) (vg : Fin 65536), s.phase = .running → Completes (.pwmPeriodStart n vg) s (fun t => rd t (LOAD_VHV (lchGroup n.val)) = vg.val ∧
    ((rd s (LCH_STAT_STATE n.val) = 1 ∨ rd s (LCH_STAT_STATE n.val) = 2) →
      (rdB s (LCH_CFG_COMP (lchLead s n.val)) = false → rd t (LCH_PWR_DUTY n.val) = min 10000 (rd s (LCH_CTL_DUTY (lchLead s n.val)))) ∧
      (rdB s (LCH_CFG_COMP (lchLead s n.val)) = true → vg.val ≠ 0 → rd t (LCH_PWR_DUTY n.val) =
        min 10000 (min 10000 (rd s (LCH_CTL_DUTY (lchLead s n.val))) * rd s LOAD_CTL_VREF ^ 2 / vg.val ^ 2))) ∧
    RegsBut [LOAD_VHV (lchGroup n.val), LCH_PWR_DUTY n.val] s t)) ∧
  (∀ (s : State) (l : LossSample) (total : Nat), s.phase = .running → total = l.loss.foldl (· + ·) 0 → (∀ x ∈ l.loss, x < 65536) →
    (role s ≠ 1 → total ≤ budgetMw s → Completes (.budgetUpdate l) s (fun t => t.load.excess = 0 ∧ rd t LOAD_STAT_BUDGET = 0 ∧ rd t LOAD_STAT_LOSS = min 65535 total ∧
      (∀ n, n < 16 → rd t (LCH_PWR_LOSS n) = (l.loss[n]?).getD 0 ∧ rd t (LCH_STAT_STATE n) = rd s (LCH_STAT_STATE n)))) ∧
    (role s ≠ 1 → budgetMw s < total → s.load.excess = 0 → Completes (.budgetUpdate l) s (fun t => t.load.excess = 1 ∧ rd t LOAD_STAT_BUDGET = 1 ∧
      bit (rd t (H_PEND 0x050)) 5 = true ∧ ∀ n, n < 16 → rd t (LCH_STAT_STATE n) = rd s (LCH_STAT_STATE n))) ∧
    (∀ n u, role s ≠ 1 → budgetMw s < total → s.load.excess % 10 = 0 → s.load.excess ≠ 0 → u = forEach (List.range 16) (fun n t => wr t (LCH_PWR_LOSS n) ((l.loss[n]?).getD 0)) s →
      shedChoice u = some n → Completes (.budgetUpdate l) s (fun t => InState n 3 t ∧ rd t (LCH_CTL_EN n) = 0 ∧ rd t (LCH_STAT_FAULT n) = 7 ∧
        bit (rd t (H_PEND 0x050)) 6 = true)) ∧
    (role s = 1 → Completes (.budgetUpdate l) s (fun t => t.load = s.load ∧ ∀ n, n < 16 → rd t (LCH_STAT_STATE n) = rd s (LCH_STAT_STATE n)))) ∧
  (∀ (s : State) (n : Nat), shedChoice s = some n → n ∈ shedCandidates s ∧ ∀ k ∈ shedCandidates s, rd s (LCH_CFG_SHED n) ≤ rd s (LCH_CFG_SHED k) ∧
    (rd s (LCH_CFG_SHED k) = rd s (LCH_CFG_SHED n) → machineLoss s k ≤ machineLoss s n ∧ (machineLoss s k = machineLoss s n → k ≤ n)))

/-! ## The twin pair (16_twin_pair.md) -/

/-- The node took the fenced role (R419, R440): FAIL_N, no drive-enable, FENCED and ROLE, nothing of the journal left. -/
def WasFenced (t : State) : Prop :=
  role t = 3 ∧ t.twin.failN = true ∧ rd t TWIN_STAT_DRIVE_EN = 0 ∧ rd t TWIN_STAT_IN_STEP = 0 ∧ bit (rd t (H_PEND 0x058)) 4 = true ∧
  bit (rd t (H_PEND 0x058)) 0 = true ∧ t.twin.own = [] ∧ t.twin.partner = none ∧ t.twin.fencing = false ∧ t.twin.rejoinFrom = none

/-- The node decided to fence (R427): FENCE_OUT_N is asserted and the arbitration runs where FENCE_IN_N was not asserted, and it is fenced where it was. -/
def Fences (s t : State) : Prop :=
  (rdB s TWIN_STAT_FENCE_IN = false → rd t TWIN_STAT_FENCE_OUT = 1 ∧ t.twin.fencing = true ∧ role t = role s ∧ rd t TWIN_STAT_IN_STEP = 0 ∧ t.twin.drillAt = none) ∧
  (rdB s TWIN_STAT_FENCE_IN = true → WasFenced t)

/-- A copy of the contribution arrived on a lane that is up. -/
def goodCopy (b : JBlock) (s : State) : Bool := (rdB s TWIN_STAT_LANE0_UP && b.lane0Good) || (rdB s TWIN_STAT_LANE1_UP && b.lane1Good)

/-- After R164, R419, R422, R423, R425 to R428, R430, R432, R440. A solo node ticks alone; a joined one applies a block once it holds its partner's; an
empty equal block leaves the pair in step; a difference fences the node whose fault history is the only one, and the shadow where that does not decide. A
bad block counts, one of an older generation is discarded, one of a newer fences, one of the own is held. The second miss of the active, the third of the
shadow, and PFAIL_N start the arbitration; FENCE_IN fences; TWIN_FENCE fences from the active and is nothing on a solo node. Of the writes of a block, that
of LOAD_BUDGET is stated. -/
def Obligations.TwinJournalAndFence : Prop :=
  (∀ (s : State) (e : Bool), s.phase = .running →
    (role s = 2 → Completes (.blockApply e) s (fun t => t.twin.tick = s.twin.tick + 1 ∧ rd t TWIN_TICK = s.twin.tick % 2 ^ 64 ∧ RegsBut [TWIN_TICK] s t ∧
      t.twin.matched = (if s.twin.rejoinFrom.isSome then (if e then s.twin.matched + 1 else 0) else s.twin.matched))) ∧
    (role s ≠ 2 → (joined s = false ∨ s.twin.partner = none) → Completes (.blockApply e) s (fun t => t = s)) ∧
    (∀ b, joined s = true → s.twin.partner = some b → b.entries = [] → s.twin.own = [] →
      (e = true → Completes (.blockApply true) s (fun t => t.twin.tick = s.twin.tick + 1 ∧ rd t TWIN_TICK = s.twin.tick % 2 ^ 64 ∧ t.twin.partner = none ∧
        rd t TWIN_STAT_IN_STEP = 1 ∧ role t = role s ∧ rd t TWIN_SEQ = rd s TWIN_SEQ % 2 ^ 64 ∧ t.bar2 = s.bar2 ∧ t.tlg = s.tlg ∧ t.load = s.load)) ∧
      (e = false → Completes (.blockApply false) s (fun t => rd t (TWIN_CNT 2) = (rd s (TWIN_CNT 2) + 1) % 2 ^ 32 ∧
        rd t TWIN_DIVG = s.twin.tick % 2 ^ 64 ∧ bit (rd t (H_PEND 0x058)) 3 = true ∧ rd t TWIN_STAT_IN_STEP = 0 ∧
        (s.twin.fault % 16 ≠ 0 → s.twin.pfault = 0 → WasFenced t) ∧ (s.twin.fault % 16 = 0 → s.twin.pfault ≠ 0 → role t = role s) ∧
        ((s.twin.fault % 16 = 0 ↔ s.twin.pfault = 0) → (role s = 1 → WasFenced t) ∧ (role s = 0 → role t = 0))))) ∧
    (∀ (v : Word), joined s = true → s.twin.partner.map (fun b => b.entries) = some [] → s.twin.own = [⟨4, .write .host 0x050 0x060 v true, true⟩] →
      (pageLocked s 0x050 = false → Completes (.blockApply true) s (fun t => rd t LOAD_BUDGET = v.toNat % 65536 ∧ t.twin.own = [] ∧
        rd t TWIN_SEQ = (rd s TWIN_SEQ + 1) % 2 ^ 64)) ∧
      (pageLocked s 0x050 = true → Completes (.blockApply true) s (fun t => rd t LOAD_BUDGET = rd s LOAD_BUDGET ∧ t.twin.own = [])))) ∧
  (∀ (s : State) (b : JBlock), s.phase = .running →
    (goodCopy b s = false → Completes (.journalBlockRx b) s (fun t => t.twin = s.twin ∧ RegsBut [TWIN_CNT 1] s t)) ∧
    (goodCopy b s = true → tUp s = true → joined s = true → b.role.val ≤ 2 →
      (b.gen.toNat < rd s TWIN_GEN → Completes (.journalBlockRx b) s (fun t => rd t (TWIN_CNT 6) = (rd s (TWIN_CNT 6) + 1) % 2 ^ 32 ∧ t.twin = s.twin ∧ rd t TWIN_STAT_LATE = 0 ∧
        rd t TWIN_STAT_PARTNER_ROLE = b.role.val)) ∧
      (rd s TWIN_GEN < b.gen.toNat → Completes (.journalBlockRx b) s WasFenced) ∧
      (rd s TWIN_GEN = b.gen.toNat → Completes (.journalBlockRx b) s (fun t => t.twin.partner = some b ∧ t.twin.misses = 0 ∧ rd t TWIN_STAT_LATE = 0 ∧
        rd t TWIN_STAT_PARTNER_ROLE = b.role.val ∧ t.twin.own = s.twin.own ∧ role t = role s ∧
        (∀ d, b.drill = some d → role s = 1 → t.twin.drillAt = some d.toNat ∧ rd t TWIN_STAT_DRILL_PEND = 1) ∧
        RegsBut [TWIN_CNT 1, TWIN_STAT_LATE, TWIN_STAT_PARTNER_ROLE, TWIN_STAT_DRILL_PEND] s t))) ∧
    (goodCopy b s = true → tUp s = true → isFenced s = true → Completes (.journalBlockRx b) s (fun t => RegsBut [TWIN_CNT 1, TWIN_STAT_PARTNER_ROLE] s t ∧
      t = { s with regs := t.regs, twin := { s.twin with partnerLinks := t.twin.partnerLinks } })) ∧
    (goodCopy b s = true → tUp s = true → role s = 2 → b.role.val ≤ 2 → rd s TWIN_GEN < b.gen.toNat → Completes (.journalBlockRx b) s WasFenced)) ∧
  (∀ s : State, s.phase = .running →
    (joined s = false → s.twin.rejoinFrom = none → Completes .partnerMiss s (fun t => t = s)) ∧
    (joined s = true → s.twin.misses + 1 < missLimit s → Completes .partnerMiss s (fun t => rd t (TWIN_CNT 0) = (rd s (TWIN_CNT 0) + 1) % 2 ^ 32 ∧
      t.twin.misses = s.twin.misses + 1 ∧ role t = role s ∧ RegsBut [TWIN_CNT 0] s t)) ∧
    (joined s = true → missLimit s ≤ s.twin.misses + 1 → s.twin.fencing = false → Completes .partnerMiss s (fun t => Fences s t ∧ bit (rd t (H_PEND 0x058)) 2 = true)) ∧
    (joined s = false → s.twin.rejoinFrom ≠ none → 2 ≤ s.twin.misses → Completes .partnerMiss s (fun t => t.twin.rejoinFrom = none ∧ rd t TWIN_STAT_TRANSFER = 0 ∧
      bit (rd t (H_PEND 0x058)) 9 = true ∧ rd t TWIN_STAT_FENCE_OUT = rd s TWIN_STAT_FENCE_OUT)) ∧
    (joined s = true → s.twin.fencing = false → Completes .pfailNAssert s (fun t => rd t TWIN_STAT_PFAIL_IN = 1 ∧ Fences s t ∧ bit (rd t (H_PEND 0x058)) 2 = true)) ∧
    (joined s = false → Completes .pfailNAssert s (fun t => t = wr s TWIN_STAT_PFAIL_IN 1)) ∧
    Completes .contributionLate s (fun t => t = if joined s then wr s TWIN_STAT_LATE 1 else s) ∧
    (role s ≤ 2 → Completes .fenceInAssert s (fun t => WasFenced t ∧ rd t TWIN_STAT_FENCE_IN = 1 ∧ rd t TWIN_STAT_FENCE_EFF = 1 ∧
      rd t (TWIN_CNT 5) = (rd s (TWIN_CNT 5) + 1) % 2 ^ 32)) ∧
    (2 < role s → Completes .fenceInAssert s (fun t => t = wr (wr s TWIN_STAT_FENCE_IN 1) TWIN_STAT_FENCE_EFF 1)) ∧
    Completes .fenceInRelease s (fun t => t = wr (wr s TWIN_STAT_FENCE_IN 0) TWIN_STAT_FENCE_EFF 0)) ∧
  (∀ (t : Take) (s : State) (c : Cmd), Taken twinFenceSpec t s c →
    (role s = 0 → s.twin.fencing = false → Answers (.twinFence t) s c stOK [] (Fences s)) ∧
    (role s = 2 → Answers (.twinFence t) s c stOK [] (fun u => u = startOf twinFenceSpec t c s)))

/-- The roles were swapped (R430, R437): one higher generation, kept in the configuration store, one more drill, ROLE. -/
def Swapped (s t : State) : Prop :=
  role t = 1 - role s ∧ rd t TWIN_STAT_PARTNER_ROLE = role s ∧ (rd s TWIN_GEN < 2 ^ 32 - 1 → rd t TWIN_GEN = rd s TWIN_GEN + 1) ∧ t.store.gen = rd t TWIN_GEN ∧
  rd t (TWIN_CNT 7) = (rd s (TWIN_CNT 7) + 1) % 2 ^ 32 ∧ bit (rd t (H_PEND 0x058)) 0 = true ∧ (role s = 1 → ∀ m : Fin 4, (mbusSt t m.val).gated = true)

/-- After R164, R433 to R440. DRILL_PERIOD sets the hours and shows the due time; SWAP_DRILL needs an active node in step and fixes a tick at least 2 away;
a drill runs at a drill point only, swaps the roles, advances the generation and counts; one that fails verification swaps back with its event. TWIN_REJOIN
needs a solo node, a partner out of the pair and T; at tick J the solo node is active and the joiner, loaded from the snapshot, shadow; a timeout ends the
rejoin with its event and keeps the fence. -/
def Obligations.DrillsAndRejoin : Prop :=
  (∀ (t : Take) (s : State) (c : Cmd), Taken drillPeriodSpec t s c → Answers (.drillPeriod t) s c stOK [] (fun u => rd u TWIN_CTL_DRILL_HOURS = c.u 0x08 4 ∧
    (joined s = true → c.u 0x08 4 ≠ 0 → rd u TWIN_DRILL = (s.twin.lastDrill + c.u 0x08 4 * 3600000000000) % 2 ^ 64) ∧ (c.u 0x08 4 = 0 → rd u TWIN_DRILL = 0) ∧
    RegsBut ([TWIN_CTL_DRILL_HOURS, TWIN_DRILL] ++ checkFields 0x058) (startOf drillPeriodSpec t c s) u)) ∧
  (∀ (t : Take) (s : State) (c : Cmd), Taken swapDrillSpec t s c →
    (role s = 0 → rdB s TWIN_STAT_IN_STEP = true → Accepts swapDrillSpec (.swapDrill t) s c (fun u => rd u TWIN_STAT_DRILL_PEND = 1 ∧
      ∃ d, u.twin.drillAt = some d ∧ s.twin.tick + 2 ≤ d ∧ (c.u 0x10 8 ≤ nowNs s → d = s.twin.tick + 2))) ∧
    ((role s ≠ 0 ∨ rdB s TWIN_STAT_IN_STEP = false) → Answers (.swapDrill t) s c stWRONG_STATE [] (fun u => u = startOf swapDrillSpec t c s))) ∧
  (∀ s : State, s.phase = .running →
    (role s = 0 → rdB s TWIN_STAT_IN_STEP = true → rd s TWIN_CTL_DRILL_HOURS ≠ 0 → s.twin.drillAt = none → Completes .drillDue s (fun t =>
      t.twin.drillAt = some (s.twin.tick + 2) ∧ rd t TWIN_STAT_DRILL_PEND = 1 ∧ RegsBut [TWIN_STAT_DRILL_PEND] s t)) ∧
    ((role s ≠ 0 ∨ rdB s TWIN_STAT_IN_STEP = false ∨ rd s TWIN_CTL_DRILL_HOURS = 0) → Completes .drillDue s (fun t => t = s)) ∧
    ((s.twin.drillAt = none ∨ joined s = false ∨ rdB s TWIN_STAT_IN_STEP = false ∨ rdB s TWIN_STAT_TRANSFER = true ∨ churnPhase s = 3 ∨ churnPhase s = 4 ∨
      rd s SLEEP_STAT_PHASE ≠ 0 ∨ (∃ n, n < 16 ∧ (rdB s (LCH_STAT_BUSY n) = true ∨ rdB s (LCH_STAT_INRUSH n) = true))) → Completes .drillTick s (fun t => t = s)) ∧
    (s.twin.drillAt ≠ none → drillPoint s = true → Completes .drillTick s (fun t => Swapped s t ∧ t.twin.drillAt = none ∧ t.twin.drillPhase = 1 ∧
      rd t TWIN_STAT_DRILL_PEND = 0 ∧ (role s = 0 → rd t TWIN_STAT_DRIVE_EN = rd s TWIN_STAT_DRIVE_EN % 2))) ∧
    (∀ f : BitVec 16, s.twin.drillPhase = 0 → Completes (.drillVerify f) s (fun t => t = s)) ∧
    (∀ f : BitVec 16, s.twin.drillPhase ≠ 0 → f &&& s.twin.drillChk = 0 → Completes (.drillVerify f) s (fun t => role t = role s ∧ t.twin.drillPhase = 0 ∧
      bit (rd t (H_PEND 0x058)) 6 = true ∧ rd t TWIN_GEN = rd s TWIN_GEN)) ∧
    (∀ f : BitVec 16, s.twin.drillPhase ≠ 0 → f &&& s.twin.drillChk ≠ 0 → joined s = true → Completes (.drillVerify f) s (fun t => Swapped s t ∧ t.twin.drillPhase = 0 ∧
      bit (rd t (H_PEND 0x058)) 7 = true ∧ rd t (TWIN_CNT 8) = (rd s (TWIN_CNT 8) + 1) % 2 ^ 32)) ∧
    (s.twin.rejoinFrom = none → Completes .rejoinTimeout s (fun t => t = s)) ∧
    (s.twin.rejoinFrom ≠ none → Completes .rejoinTimeout s (fun t => t.twin.rejoinFrom = none ∧ rd t TWIN_STAT_TRANSFER = 0 ∧ role t = role s ∧
      rd t (TWIN_CNT 10) = (rd s (TWIN_CNT 10) + 1) % 2 ^ 32 ∧ bit (rd t (H_PEND 0x058)) 9 = true ∧ rd t TWIN_STAT_FENCE_OUT = rd s TWIN_STAT_FENCE_OUT))) ∧
  (∀ (t : Take) (ok : Bool) (s : State) (c : Cmd), Taken (twinRejoinSpec ok) t s c →
    ((role s ≠ 2 ∨ (rd s TWIN_STAT_PARTNER_ROLE ≠ 3 ∧ rd s TWIN_STAT_PARTNER_ROLE ≠ 4) ∨ tUp s = false) →
      Answers (.twinRejoin t ok) s c stWRONG_STATE [] (fun u => u = startOf (twinRejoinSpec ok) t c s)) ∧
    (role s = 2 → (rd s TWIN_STAT_PARTNER_ROLE = 3 ∨ rd s TWIN_STAT_PARTNER_ROLE = 4) → tUp s = true → ok = true → Accepts (twinRejoinSpec ok) (.twinRejoin t ok) s c
      (fun u => u.twin.rejoinFrom = some (nowNs s) ∧ u.twin.matched = 0 ∧ rd u TWIN_STAT_TRANSFER = 1 ∧ role u = 2 ∧ (∃ x, Output.snapshot x ∈ u.out) ∧
        RegsBut [TWIN_STAT_FENCE_LINE, TWIN_STAT_TRANSFER] (startOf (twinRejoinSpec ok) t c s) u))) ∧
  (∀ (s : State) (x : Option Snapshot), s.phase = .running →
    (role s = 2 → (s.twin.rejoinFrom = none ∨ s.twin.matched < 16) → Completes (.rejoinTickJ x) s (fun t => t = s)) ∧
    (role s = 2 → s.twin.rejoinFrom ≠ none → 16 ≤ s.twin.matched → rd s TWIN_GEN < 2 ^ 32 - 1 → Completes (.rejoinTickJ x) s (fun t => role t = 0 ∧
      rd t TWIN_STAT_FENCE_OUT = 0 ∧ rd t TWIN_STAT_TRANSFER = 0 ∧ rd t TWIN_STAT_IN_STEP = 1 ∧ rd t TWIN_GEN = rd s TWIN_GEN + 1 ∧ t.twin.rejoinFrom = none ∧
      rd t (TWIN_CNT 9) = (rd s (TWIN_CNT 9) + 1) % 2 ^ 32 ∧ bit (rd t (H_PEND 0x058)) 8 = true)) ∧
    (joined s = true → Completes (.rejoinTickJ x) s (fun t => t = s))) ∧
  (∀ (s : State) (x : Snapshot), s.phase = .running → isFenced s = true → x.gen < 2 ^ 32 - 1 → Completes (.rejoinTickJ (some x)) s (fun t => role t = 1 ∧
    t.twin.failN = false ∧ rd t TWIN_GEN = x.gen + 1 ∧ rd t TWIN_STAT_IN_STEP = 1 ∧ t.claims = x.claims ∧ t.load.ch = x.ch ∧ t.twin.tick = x.tick ∧
    t.roster = x.roster ∧ t.tcfg = x.tcfg ∧ t.fuses = s.fuses ∧ t.ports = s.ports ∧ t.time = s.time ∧ bit (rd t (H_PEND 0x058)) 8 = true))

/-! ## Keys, life cycle and attestation (17_keys_life_cycle_attestation.md) -/

/-- After R165, R166, R444, R446 to R449, R453 to R456, R461 to R463. KEY_DERIVE needs a valid parent of usage 0 or 1, a permitted level and an empty
child; KEY_INVALIDATE takes the slot and its descendants; LC_ADVANCE and its token's verdicts move the state as stated, or refuse and count; retirement
leaves no role, drive, key, image or configuration; MAINT ends with its root replaced. A key frame counts only from the manager of the committed curd, and
installs, leaves pending, repeats or counts as stated. ATT_SIGN takes the statement at once, and its end holds it, or discards it where slot 2 has changed.
KEYREQ_RESEND asks again. -/
def Obligations.KeysAndAttestation : Prop :=
  (∀ (t : Take) (s : State) (c : Cmd) (p : Slot), Taken keyDeriveSpec t s c → p = slotAt s (c.u 0x08 1) →
    (p.valid = false → Answers (.keyDerive t) s c stKEY_INVALID [] (fun u => u = startOf keyDeriveSpec t c s)) ∧
    (p.valid = true → (1 < p.usage ∨ deriveMax (c.u 0x09 1) (c.u 0x0A 1) < p.level + 1) → Answers (.keyDerive t) s c stBAD_ARG [] (fun u => u = startOf keyDeriveSpec t c s)) ∧
    (p.valid = true → p.usage ≤ 1 → p.level + 1 ≤ deriveMax (c.u 0x09 1) (c.u 0x0A 1) →
      ((slotAt s (c.u 0x09 1)).valid = true → Answers (.keyDerive t) s c stNO_RESOURCE [] (fun u => u = startOf keyDeriveSpec t c s)) ∧
      ((slotAt s (c.u 0x09 1)).valid = false → Answers (.keyDerive t) s c stOK (le 1 (p.level + 1) ++ zeros 3 ++ le 4 (slotAt s (c.u 0x09 1)).gen) (fun u =>
        slotAt u (c.u 0x09 1) = ⟨true, c.u 0x0A 1, p.level + 1, c.u 0x08 1, (slotAt s (c.u 0x09 1)).gen, slice c.desc 0x0C (c.u 0x0B 1),
          deriveKey p.key (c.u 0x0A 1) (p.level + 1) (slice c.desc 0x0C (c.u 0x0B 1))⟩ ∧
        (∀ n, n ≠ c.u 0x09 1 → slotAt u n = slotAt s n) ∧ bit (rd u KEY_VALID) (c.u 0x09 1) = true ∧ rd u (KEY_CNT 1) = (rd s (KEY_CNT 1) + 1) % 2 ^ 32 ∧
        RegsBut [KEY_VALID, KEY_TKR, KEY_CNT 1] (startOf keyDeriveSpec t c s) u)))) ∧
  (∀ (t : Take) (s : State) (c : Cmd), Taken keyInvalidateSpec t s c →
    ((c.u 0x08 1 ≤ 3 ∨ (6 ≤ c.u 0x08 1 ∧ c.u 0x08 1 ≤ 8)) → Answers (.keyInvalidate t) s c stWRONG_STATE [] (fun u => u = startOf keyInvalidateSpec t c s)) ∧
    ((c.u 0x08 1 = 4 ∨ 16 ≤ c.u 0x08 1 ∨ (c.u 0x08 1 = 5 ∧ (rdB s DEV_ROLE_SELF = false ∨ macsecOn s = false))) → (slotAt s (c.u 0x08 1)).valid = true →
      Answers (.keyInvalidate t) s c stOK (le 1 (descendants s (c.u 0x08 1)).length) (fun u =>
        (∀ n, (n = c.u 0x08 1 ∨ n ∈ descendants s (c.u 0x08 1)) → (slotAt u n).valid = false) ∧
        (slotAt u (c.u 0x08 1)).gen = ((slotAt s (c.u 0x08 1)).gen + 1) % 2 ^ 32 ∧
        (∀ n, n ≠ c.u 0x08 1 → n ∉ descendants s (c.u 0x08 1) → slotAt u n = slotAt s n) ∧ bit (rd u (H_PEND 0x060)) 0 = true ∧ u.fwd = s.fwd))) ∧
  (∀ (t : Take) (s : State) (c : Cmd), Taken lcAdvanceSpec t s c →
    (lcPermitted s (c.u 0x09 1) = false → Answers (.lcAdvance t) s c stWRONG_STATE [] (fun u => u = startOf lcAdvanceSpec t c s)) ∧
    (lcPermitted s (c.u 0x09 1) = true → (c.u 0x0C 4 = 0 ↔ (s.fuses.lc = 3 ∧ c.u 0x09 1 = 2)) →
      Accepts lcAdvanceSpec (.lcAdvance t) s c (fun u => u = startOf lcAdvanceSpec t c s)) ∧
    (lcPermitted s (c.u 0x09 1) = true → ¬ (c.u 0x0C 4 = 0 ↔ (s.fuses.lc = 3 ∧ c.u 0x09 1 = 2)) →
      Answers (.lcAdvance t) s c stBAD_ARG [] (fun u => u = startOf lcAdvanceSpec t c s))) ∧
  (∀ (s : State) (v : TokenVerdict) (a : Accepted), s.phase = .running → findAccepted s 0x0C03 .lifeCycle = some a → lcPermitted s (a.u 0x09 1) = true →
    (s.fuses.lc = 3 → a.u 0x09 1 = 2 → ∃ u, exec (.lcAdvanceDone v) s = .next (complete a stOK (le 1 2) u) ∧ u.fuses.lc = 2 ∧ u.keys.maint = none ∧
      (slotAt u 0).key = s.fuses.fieldStarter ∧ (slotAt u 0).valid = true ∧ bit (rd u (H_PEND 0x060)) 1 = true ∧ bit (rd u (H_PEND 0x060)) 2 = true) ∧
    (¬ (s.fuses.lc = 3 ∧ a.u 0x09 1 = 2) →
      ((v.dieOk = false ∨ v.keyOk = false ∨ v.target.val ≠ a.u 0x09 1 ∨ (a.u 0x09 1 = 3 ∧ maintOk v s = false)) →
        ∃ u, exec (.lcAdvanceDone v) s = .next (complete a stKEY_INVALID [] u) ∧ u.fuses = s.fuses ∧ u.keys = s.keys ∧
          rd u (KEY_CNT 5) = (rd s (KEY_CNT 5) + 1) % 2 ^ 32 ∧ bit (rd u (H_PEND 0x060)) 6 = true) ∧
      (v.dieOk = true → v.keyOk = true → v.target.val = a.u 0x09 1 → (a.u 0x09 1 ≠ 3 ∨ maintOk v s = true) →
        ((v.payloadOk = false ∨ (a.u 0x09 1 = 2 ∧ mapRules (mapWords v.payload) = false)) →
          ∃ u, exec (.lcAdvanceDone v) s = .next (complete a stBAD_ARG [] u) ∧ u.fuses = s.fuses ∧ u.keys = s.keys ∧ bit (rd u (H_PEND 0x060)) 6 = true) ∧
        (v.payloadOk = true → (a.u 0x09 1 ≠ 2 ∨ mapRules (mapWords v.payload) = true) →
          ∃ u, exec (.lcAdvanceDone v) s = .next (complete a stOK (le 1 (a.u 0x09 1)) u) ∧ u.fuses.lc = a.u 0x09 1 ∧ rd u KEY_LC_STATE = a.u 0x09 1 ∧
            bit (rd u (H_PEND 0x060)) 1 = true ∧ u.fuses.ledger = s.fuses.ledger ∧ (a.u 0x09 1 = 2 → u.fuses.map = some (mapWords v.payload)) ∧
            (a.u 0x09 1 = 1 → s.fuses.lc = 1 → u.fuses.enrolled = true) ∧ (a.u 0x09 1 = 3 → (slotAt u 0).valid = true ∧ bit (rd u (H_PEND 0x060)) 2 = true) ∧
            (a.u 0x09 1 = 4 → u.twin.failN = true ∧ rd u TWIN_STAT_DRIVE_EN = 0 ∧ role u = 15 ∧ (∀ n, n < 64 → (slotAt u n).valid = false) ∧
              u.store.slot0 = none ∧ u.store.slot1 = none ∧ u.tcfg.inForce = none ∧ u.fuses.fieldStarter = List.replicate 32 255))))) ∧
  (∀ s : State, s.phase = .running →
    (s.fuses.lc = 3 → Completes .maintExpiry s (fun t => t.fuses.lc = 2 ∧ t.keys.maint = none ∧ t.keys.extest = false ∧ (slotAt t 0).key = s.fuses.fieldStarter ∧
      (∀ n ∈ descendants s 0, (slotAt t n).valid = false) ∧ bit (rd t (H_PEND 0x060)) 2 = true)) ∧
    (s.fuses.lc ≠ 3 → Completes .maintExpiry s (fun t => t = s)) ∧
    (rdB s KEY_SEC_KEYREQ = false → Completes .keyreqResend s (fun t => t = s)) ∧
    (∀ e, rdB s KEY_SEC_KEYREQ = true → amapByHandle s (rd s DEV_ROLE_HANDLE) = some e → Completes .keyreqResend s (fun t => rd t KEY_SEC_KEYREQ = 1 ∧
      rd t (KEY_CNT 2) = (rd s (KEY_CNT 2) + 1) % 2 ^ 32 ∧ (s.keys.tries = 3 → bit (rd t (H_PEND 0x060)) 4 = true) ∧ t.keys.slots = s.keys.slots))) ∧
  (∀ (s : State) (r : KeyReq), s.phase = .running →
    ((r.srcOk = false ∨ rdB s DEV_ROLE_SELF = false ∨ (slotAt s 5).valid = false ∨ amapByUid s r.uid = none) → Completes (.keyreqRx r) s (fun t => t = s)) ∧
    (∀ e, r.srcOk = true → rdB s DEV_ROLE_SELF = true → (slotAt s 5).valid = true → amapByUid s r.uid = some e → Completes (.keyreqRx r) s (fun t =>
      t.keys.slots = s.keys.slots ∧ t.keys.tkrChurn = (s.keys.tkrChurn || decide (r.tkrId.toNat ≠ 0 ∧ r.tkrId.toNat ≠ rd s KEY_TKR))))) ∧
  (∀ (s : State) (k : KeyDist), s.phase = .running →
    ((k.srcOk = false ∨ isManager s k.uid k.twin = false) → Completes (.keydistRx k) s (fun t => t = s)) ∧
    (k.srcOk = true → isManager s k.uid k.twin = true →
      (k.unwrapped = false → Completes (.keydistRx k) s (fun t => rd t (KEY_CNT 4) = (rd s (KEY_CNT 4) + 1) % 2 ^ 32 ∧ RegsBut [KEY_CNT 4] s t ∧ t.keys = s.keys)) ∧
      (k.unwrapped = true → (slotAt s 5).valid = true → rd s KEY_TKR = k.tkrId.toNat → Completes (.keydistRx k) s (fun t => t.keys.slots = s.keys.slots ∧
        t.keys.pendRoot = s.keys.pendRoot ∧ rd t (KEY_CNT 3) = (rd s (KEY_CNT 3) + 1) % 2 ^ 32 ∧ rd t KEY_SEC_KEYREQ = 0)) ∧
      (k.unwrapped = true → (slotAt s 5).valid = true → rd s KEY_TKR ≠ k.tkrId.toNat → Completes (.keydistRx k) s (fun t => t.keys.slots = s.keys.slots ∧
        t.keys.pendRoot = some (k.tkrId.toNat, k.root) ∧ rd t KEY_TKR_PEND = k.tkrId.toNat ∧ bit (rd t (H_PEND 0x060)) 3 = true)) ∧
      (k.unwrapped = true → (slotAt s 5).valid = false → (slotAt s 3).parent = 0xFE → Completes (.keydistRx k) s (fun t => (slotAt t 5).valid = true ∧ (slotAt t 5).key = k.root ∧
        (slotAt t 5).parent = 3 ∧ (slotAt t 5).usage = 3 ∧ rd t KEY_TKR = k.tkrId.toNat ∧ bit (rd t (H_PEND 0x060)) 3 = true)))) ∧
  (∀ (t : Take) (s : State) (c : Cmd), Taken attSignSpec t s c →
    ((slotAt s 2).valid = false → Answers (.attSign t) s c stKEY_INVALID [] (fun u => rd u ATT_FAILS = (rd s ATT_FAILS + 1) % 2 ^ 32 ∧
      bit (rd u (H_PEND 0x061)) 1 = true ∧ u.keys = s.keys)) ∧
    ((slotAt s 2).valid = true → Accepts attSignSpec (.attSign t) s c (fun u => rd u ATT_STAT_SIGNING = 1 ∧ ∃ seq b, u.keys.signing = some (seq, (slotAt s 2).gen, b, c.u 0x28 1) ∧
      seq = (rd s NODE_ATT_SEQ + 1) % 2 ^ 32 ∧ b.length = 768 ∧ leAt b 0 4 = 0x5354424D ∧ leAt b 8 4 = seq ∧ RegsBut [NODE_ATT_SEQ, ATT_STAT_SIGNING] (startOf attSignSpec t c s) u))) ∧
  (∀ (s : State) (a : Accepted) (seq gen : Nat) (b : List Byte) (q : Nat), s.phase = .running → s.keys.signing = some (seq, gen, b, q) → b.length = 768 →
    findAccepted s 0x0D00 .attest = some a →
    (((slotAt s 2).valid = false ∨ (slotAt s 2).gen ≠ gen) → ∃ u, exec .attSignDone s = .next (complete a stKEY_INVALID [] u) ∧ u.keys.statement = s.keys.statement ∧
      rd u (KEY_CNT 6) = (rd s (KEY_CNT 6) + 1) % 2 ^ 32 ∧ rd u ATT_FAILS = (rd s ATT_FAILS + 1) % 2 ^ 32 ∧ bit (rd u (H_PEND 0x061)) 1 = true) ∧
    ((slotAt s 2).valid = true → (slotAt s 2).gen = gen → seq < 2 ^ 32 → ∃ u, exec .attSignDone s = .next (complete a stOK (le 4 5395 ++ le 4 seq) u) ∧
      u.keys.statement = some (seq, b ++ padTo 4627 (Config.sign b)) ∧ rd u ATT_SEQ = seq ∧ rd u ATT_LEN = 5395 ∧ rd u ATT_STAT_HELD = 1 ∧ rd u ATT_STAT_SIGNING = 0 ∧
      bit (rd u (H_PEND 0x061)) 0 = true ∧ (q = 0xFF → u.bar2 = s.bar2)))

/-! ## Recorder and Reserve (18_event_recorder.md, 19_reserve.md) -/

/-- A record that was not held before waits in the buffer (R468, R471, R473). -/
def Recorded (source code : Nat) (payload : List Word) (user : Bool) (s t : State) : Prop :=
  ∃ r, t.rcd.buffer = s.rcd.buffer ++ [(rd s REC_WPOS, r)] ∧ r.source = source ∧ r.code = code ∧ r.payload = payload8 payload ∧ r.user = user ∧ r.rpt = 1 ∧
    r.seq.toNat = rd s REC_SEQ % 2 ^ 32 ∧ r.time.toNat = nowNs s ∧ r.churn.toNat = rd s CHURN_COUNT % 2 ^ 32 ∧ r.unsync = !trainSync s ∧
    r.cellar = decide (rd s REC_WPOS < 16384) ∧ rd t REC_SEQ = (rd s REC_SEQ + 1) % 2 ^ 32 ∧ rd t REC_WPOS = nextPos (rd s REC_WPOS) % 2 ^ 18 ∧
    t.rcd.last = some (rd s REC_WPOS, r) ∧ t.rcd.heldN = 0 ∧ t.rcd.bank0 = s.rcd.bank0 ∧ t.rcd.bank1 = s.rcd.bank1

/-- No occurrence is held, no loss is owed, and a bank takes records. -/
structure Recording (s : State) : Prop where
  held : s.rcd.heldN = 0
  owed : s.rcd.lost = 0
  bank : bothFailed s = false

/-- After R166, R468 to R475, R477 to R479. An occurrence adds to the last record where it coalesces, becomes a record at REC_WPOS where the buffer has
room, and is lost and counted where not; a flush updates the last record. A write takes the oldest record to both banks, once more where a copy differs,
marks a position that fails twice, fails a bank that does not answer, and goes to the partner where both failed. A partner's record takes the next
position, its update the same one. REC_USER, REC_READ, REC_EXPORT and its end for no record and for one answer as stated. -/
def Obligations.Recorder : Prop :=
  (∀ (s : State) (source code : Fin 65536) (p : List Word), s.phase = .running →
    (coalesces s source.val code.val p = true → Completes (.recordOccurrence source code p) s (fun t => t.rcd.heldN = s.rcd.heldN + 1 ∧ t.rcd.buffer = s.rcd.buffer ∧
      t.rcd.last = s.rcd.last ∧ rd t REC_STAT_OPEN = 1 ∧ rd t (REC_CNT 1) = (rd s (REC_CNT 1) + 1) % 2 ^ 32 ∧ RegsBut [REC_STAT_OPEN, REC_CNT 1] s t)) ∧
    (coalesces s source.val code.val p = false → Recording s →
      (s.rcd.buffer.length < 256 → Completes (.recordOccurrence source code p) s (Recorded source.val code.val p false s)) ∧
      (256 ≤ s.rcd.buffer.length → Completes (.recordOccurrence source code p) s (fun t => t.rcd.buffer = s.rcd.buffer ∧ t.rcd.lost = s.rcd.lost + 1 ∧
        rd t (REC_CNT 4) = (rd s (REC_CNT 4) + 1) % 2 ^ 32 ∧ bit (rd t (H_PEND 0x068)) 4 = true ∧ rd t REC_SEQ = rd s REC_SEQ)))) ∧
  (∀ s : State, s.phase = .running →
    ((s.rcd.heldN = 0 ∨ s.rcd.last = none) → Completes .coalesceFlush s (fun t => t = s)) ∧
    (∀ pos r, s.rcd.heldN ≠ 0 → s.rcd.last = some (pos, r) → bothFailed s = false → Completes .coalesceFlush s (fun t =>
      t.rcd.buffer = s.rcd.buffer ++ [(pos, { r with rpt := min (r.rpt + s.rcd.heldN) 0xFFFFFFFF, span := min s.rcd.heldSpan 65535 })] ∧ t.rcd.heldN = 0 ∧
      rd t REC_STAT_OPEN = 0 ∧ rd t REC_SEQ = rd s REC_SEQ ∧ rd t REC_WPOS = rd s REC_WPOS))) ∧
  (∀ (s : State) (w : BankWrites), s.phase = .running →
    (s.rcd.buffer = [] → Completes (.recordWrite w) s (fun t => t = s)) ∧
    (∀ pos r rest, s.rcd.buffer = (pos, r) :: rest → pos ≠ 16383 → rdB s REC_STAT_BANK0_FAIL = false → rdB s REC_STAT_BANK1_FAIL = false →
      (w.answers0 = true → w.answers1 = true → (w.first0 = true ∨ w.second0 = true) → (w.first1 = true ∨ w.second1 = true) →
        rd s (REC_CNT 3) < 2 ^ 32 → Completes (.recordWrite w) s (fun t => t.rcd.buffer = rest ∧ t.rcd.bank0.lookup pos = some r ∧ t.rcd.bank1.lookup pos = some r ∧ t.rcd.bad0 = s.rcd.bad0 ∧ t.rcd.bad1 = s.rcd.bad1 ∧
        rd t (REC_CNT 3) = (rd s (REC_CNT 3) + (if w.first0 then 0 else 1) + (if w.first1 then 0 else 1)) % 2 ^ 32 ∧
        (∀ k, k ≠ pos → t.rcd.bank0.lookup k = s.rcd.bank0.lookup k ∧ t.rcd.bank1.lookup k = s.rcd.bank1.lookup k))) ∧
      (w.answers0 = true → w.answers1 = true → w.first0 = false → w.second0 = false → w.first1 = true → s.rcd.bad0.length < 63 → Completes (.recordWrite w) s (fun t =>
        pos ∈ t.rcd.bad0 ∧ t.rcd.bank0 = s.rcd.bank0 ∧ t.rcd.bank1.lookup pos = some r ∧ bit (rd t (H_PEND 0x068)) 2 = true ∧ rdB t REC_STAT_BANK0_FAIL = false)) ∧
      (w.answers0 = false → w.answers1 = true → w.first1 = true → Completes (.recordWrite w) s (fun t => rdB t REC_STAT_BANK0_FAIL = true ∧
        bit (rd t (H_PEND 0x068)) 0 = true ∧ t.rcd.bank1.lookup pos = some r ∧ t.rcd.bank0 = s.rcd.bank0))) ∧
    (∀ pos r rest, s.rcd.buffer = (pos, r) :: rest → bothFailed s = true → Completes (.recordWrite w) s (fun t => t.rcd.buffer = rest ∧ t.rcd.bank0 = s.rcd.bank0 ∧
      t.rcd.bank1 = s.rcd.bank1 ∧ (tUp s = true → t.out = s.out ++ [.overT 0x0477 (recordBytes r)] ∧ rd t (REC_CNT 5) = (rd s (REC_CNT 5) + 1) % 2 ^ 32) ∧
      (tUp s = false → t.out = s.out ∧ rd t (REC_CNT 4) = (rd s (REC_CNT 4) + 1) % 2 ^ 32)))) ∧
  (∀ (s : State) (r : Record), s.phase = .running →
    (tUp s = false → Completes (.partnerRecordRx r) s (fun t => t = s)) ∧
    (tUp s = true → bothFailed s = true → Completes (.partnerRecordRx r) s (fun t => t = wr s (REC_CNT 4) (rd s (REC_CNT 4) + 1))) ∧
    (tUp s = true → Recording s → s.rcd.buffer.length < 256 → (s.rcd.partnerPos.lookup r.seq.toNat = none ∨ r.rpt ≤ 1) → Completes (.partnerRecordRx r) s (fun t =>
      t.rcd.buffer = s.rcd.buffer ++ [(rd s REC_WPOS, { r with partner := true, cellar := decide (rd s REC_WPOS < 16384) })] ∧ rd t REC_SEQ = rd s REC_SEQ ∧
      rd t REC_WPOS = nextPos (rd s REC_WPOS) % 2 ^ 18 ∧ bit (rd t (H_PEND 0x068)) 5 = true ∧ rd t (REC_CNT 6) = (rd s (REC_CNT 6) + 1) % 2 ^ 32)) ∧
    (∀ pos, tUp s = true → Recording s → s.rcd.partnerPos.lookup r.seq.toNat = some pos → 1 < r.rpt → Completes (.partnerRecordRx r) s (fun t =>
      t.rcd.buffer = s.rcd.buffer ++ [(pos, { r with partner := true, cellar := decide (pos < 16384) })] ∧ rd t REC_WPOS = rd s REC_WPOS))) ∧
  (∀ (t : Take) (s : State) (c : Cmd), Taken recUserSpec t s c →
    (bothFailed s = false → 256 ≤ s.rcd.buffer.length → Answers (.recUser t) s c stBUSY [] (fun u => u = startOf recUserSpec t c s)) ∧
    (Recording s → s.rcd.buffer.length < 256 → Answers (.recUser t) s c stOK (le 4 (rd s REC_SEQ)) (Recorded (match c.path with | .host _ => 0x0300 | _ => 0x0301) (c.u 0x08 2)
      ((List.range 8).map (fun i => BitVec.ofNat 32 (c.u (0x0C + 4 * i) 4))) true s))) ∧
  (∀ (t : Take) (s : State) (c : Cmd), Taken recReadSpec t s c →
    (everWritten s (c.u 0x08 4) = false → Answers (.recRead t) s c stBAD_ARG [] (fun u => u = startOf recReadSpec t c s)) ∧
    (everWritten s (c.u 0x08 4) = true → rdB s (bankFailFld (c.u 0x0C 1)) = true → Answers (.recRead t) s c stOK (le 4 (c.u 0x08 4) ++ le 1 2 ++ zeros 3 ++ zeros 32)
      (fun u => u = startOf recReadSpec t c s)) ∧
    (∀ r, rdB s (bankFailFld (c.u 0x0C 1)) = false → (bankOf s (c.u 0x0C 1)).lookup (c.u 0x08 4) = some r → Answers (.recRead t) s c stOK
      (le 4 (c.u 0x08 4) ++ le 1 1 ++ zeros 3 ++ slice (recordBytes r) (32 * c.u 0x0D 1) 32) (fun u => u = startOf recReadSpec t c s))) ∧
  (∀ (t : Take) (s : State) (c : Cmd), Taken recExportSpec t s c → Accepts recExportSpec (.recExport t) s c (fun u => u = startOf recExportSpec t c s)) ∧
  (∀ (s : State) (a : Accepted), s.phase = .running → findAccepted s 0x0E01 .recExport = some a →
    (a.u 0x08 4 = rd s REC_WPOS → everWritten s (a.u 0x08 4) = false → Completes .recExportDone s (fun t => t = complete a stOK (le 2 0 ++ zeros 2 ++ le 4 (a.u 0x08 4)) s)) ∧
    (∀ r, a.u 0x08 4 ≠ rd s REC_WPOS → a.u 0x0C 2 = 1 → exportCopy s (a.u 0x08 4) = some r → Completes .recExportDone s (fun t =>
      t = complete a stOK (le 2 1 ++ zeros 2 ++ le 4 (nextPos (a.u 0x08 4))) (bar2Write s (hqBase (a.u 0x0E 1)) (recordBytes r)))))

/-- After R166, R480, R481, R483 to R486, R489. RSV_SCHEDULE of one element puts its repair on the list, joins one that is there, and is BUSY on a full
list; a wear sample shows its value, raises WATCH once and at the REPAIR limit schedules, or raises EXHAUSTED; a drill's safe point on the shadow commits a
repair that it allows with one ledger entry, or with a void and a good one where the first does not read back, and leaves one that it does not allow. -/
def Obligations.Reserve : Prop :=
  (∀ (t : Take) (s : State) (c : Cmd) (r : Repair), Taken rsvScheduleSpec t s c → scheduleElements s (c.u 0x08 1) (c.u 0x09 1) = [r] →
    (s.rsv.pend.any (sameElement r) = false → isExhausted s r = false → s.rsv.pend.length < 32 → Accepts rsvScheduleSpec (.rsvSchedule t) s c (fun u =>
      r ∈ u.rsv.pend ∧ u.rsv.pend.length = s.rsv.pend.length + 1 ∧ rd u RSV_STAT_PENDING = s.rsv.pend.length + 1 ∧ bit (rd u (H_PEND 0x070)) 0 = true ∧
      u.fuses = s.fuses)) ∧
    (s.rsv.pend.any (sameElement r) = true → s.rsv.pend.length ≤ 32 → Accepts rsvScheduleSpec (.rsvSchedule t) s c (fun u => u = startOf rsvScheduleSpec t c s)) ∧
    (s.rsv.pend.any (sameElement r) = false → isExhausted s r = false → 32 ≤ s.rsv.pend.length → Answers (.rsvSchedule t) s c stBUSY [] (fun u =>
      u = startOf rsvScheduleSpec t c s))) ∧
  (∀ (s : State) (w : WearSample) (r : Repair), s.phase = .running → r = sramRepair s ⟨w.kind.val, w.inst.toNat, w.element.toNat, if w.column then 2 else 0, w.indicator.val + 1, false⟩ →
    (w.watch = false → w.permille < 1000 → Completes (.wearSample w) s (fun t => t = { s with regs := t.regs } ∧
      RegsBut [RSV_WEAR_VALUE w.indicator.val, RSV_WEAR_ELEMENT w.indicator.val] s t ∧
      (rd s (RSV_WEAR_VALUE w.indicator.val) ≤ w.permille → rd t (RSV_WEAR_VALUE w.indicator.val) = w.permille ∧ rd t (RSV_WEAR_ELEMENT w.indicator.val) = w.element.toNat))) ∧
    (w.watch = true → s.rsv.watched.contains (w.kind.val, w.inst.toNat, w.element.toNat) = false → w.permille < 1000 → Completes (.wearSample w) s (fun t =>
      bit (rd t (H_PEND 0x070)) 2 = true ∧ rd t (RSV_CNT 2) = (rd s (RSV_CNT 2) + 1) % 2 ^ 32 ∧ t.rsv.pend = s.rsv.pend ∧
      t.rsv.watched.contains (w.kind.val, w.inst.toNat, w.element.toNat) = true)) ∧
    (w.watch = false → 1000 ≤ w.permille → s.rsv.pend.any (sameElement r) = false → s.rsv.pend.length < 32 →
      (isExhausted s r = false → Completes (.wearSample w) s (fun t => r ∈ t.rsv.pend ∧ bit (rd t (H_PEND 0x070)) 0 = true)) ∧
      (isExhausted s r = true → Completes (.wearSample w) s (fun t => t.rsv.pend = s.rsv.pend ∧ bit (rd t (H_PEND 0x070)) 3 = true ∧ rd t RSV_STAT_EXHAUSTED = 1)))) ∧
  (∀ (s : State) (drill : Bool) (good : List Bool), s.phase = .running →
    ((drill = true ∧ role s ≠ 1) ∨ (drill = false ∧ rd s SLEEP_STAT_PHASE ≠ 2) → Completes (.reserveSafePoint drill good) s (fun t => t = s)) ∧
    (∀ r, drill = true → role s = 1 → s.rsv.pend = [r] →
      (allowedAt s true r = false → Completes (.reserveSafePoint drill good) s (fun t => t = s)) ∧
      (allowedAt s true r = true → isExhausted s r = false →
        (good = [] ∨ good.head? = some true → Completes (.reserveSafePoint drill good) s (fun t => t.rsv.pend = [] ∧
          t.fuses.ledger = s.fuses.ledger ++ [⟨r.kind, r.inst, r.element, r.flags, r.cause, 0, spareIndex s r, s.store.hours, none⟩] ∧
          bit (rd t (H_PEND 0x070)) 1 = true ∧ rd t (RSV_CNT 0) = (rd s (RSV_CNT 0) + 1) % 2 ^ 32)) ∧
        (good = [false, true] → s.fuses.ledger.length < 255 → Completes (.reserveSafePoint drill good) s (fun t => t.rsv.pend = [] ∧
          t.fuses.ledger = s.fuses.ledger ++ [⟨r.kind, r.inst, r.element, r.flags, r.cause, 0, spareIndex s r, s.store.hours, some s.free⟩,
            ⟨r.kind, r.inst, r.element, r.flags, r.cause, 0, spareIndex s r, s.store.hours, none⟩] ∧ rd t (RSV_CNT 1) = (rd s (RSV_CNT 1) + 1) % 2 ^ 32)))))

/-! ## The queue, the tick, reset, and what every step keeps -/

/-- R129: a locked memory read of a node that serves its bridge is answered with Unsupported Request, and nothing else changes. -/
def Obligations.LockedReadUnsupported : Prop :=
  ∀ s : State, s.phase = .running ∨ s.phase = .halted → Completes .lockedRead s (fun t => t = { s with out := s.out ++ [.pcie 1 0] })

/-- R139: for every row of the catalogue, a fenced node refuses a command that changes state (as the catalogue marks its row) with FENCED and a shadow with
WRONG_STATE, whatever its arguments are; a command that only reads passes on both every check that its descriptor and the state pass. -/
def Obligations.RoleRefusals : Prop :=
  ∀ (i : Instr) (k : CmdSpec) (t : Take) (s : State) (c : Cmd), specOf i = some (k, t) → s.phase = .running →
    headCmd s t.path = some c → readyCmd s c = true → firstChecks t c = none → c.opcode = k.opcode → commandPermitted s c k = true →
    (k.kind = .shared → isFenced s = true → Answers i s c stFENCED [] (fun u => u = popCmd t.path s)) ∧
    (k.kind = .shared → role s = 1 → Answers i s c stWRONG_STATE [] (fun u => u = popCmd t.path s)) ∧
    (k.kind = .rd → role s = 1 ∨ isFenced s = true → reservedZero c.desc (k.used c) = true → c.flags / 4 = 0 → k.argOk s c = true →
      (k.pages s c).any (pageLocked s) = false → objectBusy s (k.obj s c) = false → k.async = false → k.bulk c = none → Taken k t s c)

/-- A step with a command at the front of the queue is that command's effect on the state with the queue's rest. The queue is the model's form of the
commands that the host, the manager, the partner and the environment send. -/
def Obligations.StepRunsFrontCommand : Prop :=
  ∀ (s : State) (c : Instr) (rest : List Instr), step { s with pending := c :: rest } = exec c { s with pending := rest }

/-- That a step on an empty queue stands for a tick is the model's choice (log entry 10). After R2, R46, R301, R361, R487: on a node whose clocks run the
nanosecond counter advances by the increment in force, the four 80 MHz counters by 80, the hold of a released shared ball goes down, the powered hours
count, and no other register or unit changes; a node without clocks idles. -/
def Obligations.EmptyQueueTick : Prop :=
  ∀ s : State, s.pending = [] → ∃ t, step s = .next t ∧
    ((s.phase = .running ∨ s.phase = .halted) →
      t.time.acc = (s.time.acc + 250 * s.time.incr) % 2 ^ 40 ∧
      t.time.ns = (s.time.ns + (s.time.acc + 250 * s.time.incr) / 2 ^ 40) % (2 ^ 48 * 1000000000) ∧
      (∀ m : Fin 4, rd t (MBUS_TS m.val) = (rd s (MBUS_TS m.val) + 80) % 2 ^ (MBUS_TS m.val).w) ∧
      (∀ b : Fin 5, rd t (NODE_BALL_WAIT b.val) = (rd s (NODE_BALL_WAIT b.val) - 1) % 2 ^ (NODE_BALL_WAIT b.val).w) ∧
      t.store.hours = s.store.hours + (if rd s NODE_HOUR_US + 1 < 3600000000 then 0 else 1) ∧
      (∀ f : Fld, (∀ m < 4, f.key ≠ (MBUS_TS m).key) → (∀ b < 5, f.key ≠ (NODE_BALL_WAIT b).key) → f.key ≠ NODE_HOUR_US.key → rd t f = rd s f) ∧
      t = { s with regs := t.regs, time := t.time, store := { s.store with hours := t.store.hours } }) ∧
    (¬ (s.phase = .running ∨ s.phase = .halted) → t = s)

/-- After R75, R80, R81: every register reads its reset value (where the manual gives none, the model's, as the log entries say) and no shadow differs; the
node die is held in reset with POR shown, no link, no semaphore, claim, outstanding or waiting command, BYP_N and outputs off, and device memory reads 0
throughout (log entry 6). -/
def Obligations.ResetState : Prop :=
  State.reset.phase = .reset ∧ State.reset.pending = [] ∧ (∀ f : Fld, rd State.reset f = f.rst ∧ rdShadow State.reset f = f.rst) ∧
  rd State.reset DEV_RSTCAUSE_POR = 1 ∧ (∀ p : Fin 15, linkUp State.reset p.val = false) ∧ (∀ k : Fin 24, rd State.reset (BRG_SEM_HELD k.val) = 0) ∧
  State.reset.line.bypOn = false ∧ State.reset.line.copyOn = 0 ∧ State.reset.line.copyXcvr = [2, 2, 2, 2] ∧ State.reset.claims = [] ∧
  State.reset.accepted = [] ∧ State.reset.remote.waiting = [] ∧ State.reset.remote.flight = [] ∧ State.reset.out = [] ∧
  (∀ a, memRead State.reset.bar2 a = 0)

/-- The life-cycle state never goes back over a burned fuse (R444, R447, R449): from FIELD on there is no way to the states before it, and RETIRED stays. -/
def LcForward (a b : Nat) : Prop := min a 2 ≤ b ∧ (a = 4 → b = 4)

/-- What holds of every state of the node: device memory is in its canonical form, and the life-cycle state is one of the five of R444. -/
def StateInv (s : State) : Prop := Memory.wf s.bar2 = true ∧ s.fuses.lc ≤ 4

/-- Device memory is in its canonical form, and the life-cycle state is one of the five of R444, in the state after reset. -/
def Obligations.ResetMeetsInvariant : Prop := StateInv State.reset

/-- From every state that meets the invariant, a step, whatever command is in front, gives one that meets it; the life-cycle state does not go back over a
burned fuse and RETIRED stays (R444, R447, R449), the ledger keeps every entry in its place (R487), and the queue is what it was without its front. -/
def Obligations.StepKeepsInvariant : Prop :=
  ∀ s t : State, StateInv s → step s = .next t →
    StateInv t ∧ LcForward s.fuses.lc t.fuses.lc ∧ (∃ l, t.fuses.ledger = s.fuses.ledger ++ l) ∧ t.pending = s.pending.tail
end

