-- ==== Sys2Proof/Laws/State.lean ====
section
/-! SUPPORT. What each update of the state leaves unchanged, one lemma per field, and reading what was written: the lemmas by which proofs go past a
record update without unfolding it. -/

namespace Sys2Proof.Machine

/-! ## Tables -/

/-- A removed key is not found. -/
theorem lookupD_eraseK_same {α : Type} (m : List (Nat × α)) (k : Nat) (d : α) : lookupD (eraseK m k) k d = d := by
  induction m with
  | nil => rfl
  | cons h t ih => obtain ⟨j, v⟩ := h; by_cases e : j = k <;> simp [eraseK, lookupD, e, ih]

/-- Removing a key hides no other. -/
theorem lookupD_eraseK_other {α : Type} (m : List (Nat × α)) {k j : Nat} (d : α) (h : j ≠ k) : lookupD (eraseK m k) j d = lookupD m j d := by
  induction m with
  | nil => rfl
  | cons x t ih =>
    obtain ⟨i, v⟩ := x
    by_cases e : i = k
    · simp [eraseK, lookupD, e, ih, Ne.symm h]
    · by_cases e' : i = j
      · simp [eraseK, lookupD, e', h]
      · simp [eraseK, lookupD, e, e', ih]

/-- An inserted key is found. -/
theorem lookupD_insertK_same {α : Type} (m : List (Nat × α)) (k : Nat) (v d : α) : lookupD (insertK m k v) k d = v := by
  induction m with
  | nil => simp [insertK, lookupD]
  | cons x t ih =>
    obtain ⟨i, u⟩ := x
    simp only [insertK]
    split
    · simp [lookupD]
    · split
      · simp [lookupD]
      · simp [lookupD, *]

/-- Inserting a key changes no other. -/
theorem lookupD_insertK_other {α : Type} (m : List (Nat × α)) {k j : Nat} (v d : α) (h : j ≠ k) : lookupD (insertK m k v) j d = lookupD m j d := by
  induction m with
  | nil => simp [insertK, lookupD, Ne.symm h]
  | cons x t ih =>
    obtain ⟨i, u⟩ := x
    simp only [insertK]
    split
    · rename_i e; simp [lookupD, e, Ne.symm h]
    · split
      · simp [lookupD, Ne.symm h]
      · simp only [lookupD, ih]

/-- What was put is read. -/
@[simp] theorem lookupD_putD_same {α : Type} [DecidableEq α] (m : List (Nat × α)) (k : Nat) (v d : α) : lookupD (putD m k v d) k d = v := by
  unfold putD; split
  · rename_i e; rw [lookupD_eraseK_same, e]
  · exact lookupD_insertK_same ..

/-- A put changes no other key. -/
theorem lookupD_putD_other {α : Type} [DecidableEq α] (m : List (Nat × α)) {k j : Nat} (v d e : α) (h : j ≠ k) :
    lookupD (putD m k v d) j e = lookupD m j e := by
  unfold putD; split
  · exact lookupD_eraseK_other m e h
  · exact lookupD_insertK_other m v e h

/-! ## Registers -/

/-- A written field reads as its value cut to its width. -/
@[simp] theorem rd_wr_same (s : State) (f : Fld) (v : Nat) : rd (wr s f v) f = v % 2 ^ f.w := by simp [rd, wr]

/-- A write changes no other field. -/
theorem rd_wr_other (s : State) {f g : Fld} (v : Nat) (h : g.key ≠ f.key) : rd (wr s f v) g = rd s g := by
  simp [rd, wr, lookupD_putD_other _ _ _ _ h]

/-- A written bit reads back. -/
@[simp] theorem rdB_wrB_same (s : State) (f : Fld) (b : Bool) (h : f.w = 1) : rdB (wrB s f b) f = b := by
  cases b <;> simp [rdB, wrB, h]

/-- A write of a bit changes no other field. -/
theorem rd_wrB_other (s : State) {f g : Fld} (b : Bool) (h : g.key ≠ f.key) : rd (wrB s f b) g = rd s g := rd_wr_other s _ h

/-! ## wr -/

@[simp] theorem wr_pending (s : State) (f : Fld) (v : Nat) : (wr s f v).pending = s.pending := rfl
@[simp] theorem wr_phase (s : State) (f : Fld) (v : Nat) : (wr s f v).phase = s.phase := rfl
@[simp] theorem wr_shadow (s : State) (f : Fld) (v : Nat) : (wr s f v).shadow = s.shadow := rfl
@[simp] theorem wr_latch (s : State) (f : Fld) (v : Nat) : (wr s f v).latch = s.latch := rfl
@[simp] theorem wr_pages (s : State) (f : Fld) (v : Nat) : (wr s f v).pages = s.pages := rfl
@[simp] theorem wr_events (s : State) (f : Fld) (v : Nat) : (wr s f v).events = s.events := rfl
@[simp] theorem wr_vecs (s : State) (f : Fld) (v : Nat) : (wr s f v).vecs = s.vecs := rfl
@[simp] theorem wr_irq (s : State) (f : Fld) (v : Nat) : (wr s f v).irq = s.irq := rfl
@[simp] theorem wr_bar2 (s : State) (f : Fld) (v : Nat) : (wr s f v).bar2 = s.bar2 := rfl
@[simp] theorem wr_out (s : State) (f : Fld) (v : Nat) : (wr s f v).out = s.out := rfl
@[simp] theorem wr_free (s : State) (f : Fld) (v : Nat) : (wr s f v).free = s.free := rfl
@[simp] theorem wr_park (s : State) (f : Fld) (v : Nat) : (wr s f v).park = s.park := rfl
@[simp] theorem wr_line (s : State) (f : Fld) (v : Nat) : (wr s f v).line = s.line := rfl
@[simp] theorem wr_clk (s : State) (f : Fld) (v : Nat) : (wr s f v).clk = s.clk := rfl
@[simp] theorem wr_fuses (s : State) (f : Fld) (v : Nat) : (wr s f v).fuses = s.fuses := rfl
@[simp] theorem wr_store (s : State) (f : Fld) (v : Nat) : (wr s f v).store = s.store := rfl
@[simp] theorem wr_claims (s : State) (f : Fld) (v : Nat) : (wr s f v).claims = s.claims := rfl
@[simp] theorem wr_accepted (s : State) (f : Fld) (v : Nat) : (wr s f v).accepted = s.accepted := rfl
@[simp] theorem wr_remote (s : State) (f : Fld) (v : Nat) : (wr s f v).remote = s.remote := rfl
@[simp] theorem wr_semWait (s : State) (f : Fld) (v : Nat) : (wr s f v).semWait = s.semWait := rfl
@[simp] theorem wr_fwd (s : State) (f : Fld) (v : Nat) : (wr s f v).fwd = s.fwd := rfl
@[simp] theorem wr_ports (s : State) (f : Fld) (v : Nat) : (wr s f v).ports = s.ports := rfl
@[simp] theorem wr_churn (s : State) (f : Fld) (v : Nat) : (wr s f v).churn = s.churn := rfl
@[simp] theorem wr_roster (s : State) (f : Fld) (v : Nat) : (wr s f v).roster = s.roster := rfl
@[simp] theorem wr_tcfg (s : State) (f : Fld) (v : Nat) : (wr s f v).tcfg = s.tcfg := rfl
@[simp] theorem wr_time (s : State) (f : Fld) (v : Nat) : (wr s f v).time = s.time := rfl
@[simp] theorem wr_tlg (s : State) (f : Fld) (v : Nat) : (wr s f v).tlg = s.tlg := rfl
@[simp] theorem wr_mbus (s : State) (f : Fld) (v : Nat) : (wr s f v).mbus = s.mbus := rfl
@[simp] theorem wr_sleep (s : State) (f : Fld) (v : Nat) : (wr s f v).sleep = s.sleep := rfl
@[simp] theorem wr_load (s : State) (f : Fld) (v : Nat) : (wr s f v).load = s.load := rfl
@[simp] theorem wr_twin (s : State) (f : Fld) (v : Nat) : (wr s f v).twin = s.twin := rfl
@[simp] theorem wr_keys (s : State) (f : Fld) (v : Nat) : (wr s f v).keys = s.keys := rfl
@[simp] theorem wr_rcd (s : State) (f : Fld) (v : Nat) : (wr s f v).rcd = s.rcd := rfl
@[simp] theorem wr_rsv (s : State) (f : Fld) (v : Nat) : (wr s f v).rsv = s.rsv := rfl

/-! ## wrB -/

@[simp] theorem wrB_pending (s : State) (f : Fld) (b : Bool) : (wrB s f b).pending = s.pending := rfl
@[simp] theorem wrB_phase (s : State) (f : Fld) (b : Bool) : (wrB s f b).phase = s.phase := rfl
@[simp] theorem wrB_shadow (s : State) (f : Fld) (b : Bool) : (wrB s f b).shadow = s.shadow := rfl
@[simp] theorem wrB_latch (s : State) (f : Fld) (b : Bool) : (wrB s f b).latch = s.latch := rfl
@[simp] theorem wrB_pages (s : State) (f : Fld) (b : Bool) : (wrB s f b).pages = s.pages := rfl
@[simp] theorem wrB_events (s : State) (f : Fld) (b : Bool) : (wrB s f b).events = s.events := rfl
@[simp] theorem wrB_vecs (s : State) (f : Fld) (b : Bool) : (wrB s f b).vecs = s.vecs := rfl
@[simp] theorem wrB_irq (s : State) (f : Fld) (b : Bool) : (wrB s f b).irq = s.irq := rfl
@[simp] theorem wrB_bar2 (s : State) (f : Fld) (b : Bool) : (wrB s f b).bar2 = s.bar2 := rfl
@[simp] theorem wrB_out (s : State) (f : Fld) (b : Bool) : (wrB s f b).out = s.out := rfl
@[simp] theorem wrB_free (s : State) (f : Fld) (b : Bool) : (wrB s f b).free = s.free := rfl
@[simp] theorem wrB_park (s : State) (f : Fld) (b : Bool) : (wrB s f b).park = s.park := rfl
@[simp] theorem wrB_line (s : State) (f : Fld) (b : Bool) : (wrB s f b).line = s.line := rfl
@[simp] theorem wrB_clk (s : State) (f : Fld) (b : Bool) : (wrB s f b).clk = s.clk := rfl
@[simp] theorem wrB_fuses (s : State) (f : Fld) (b : Bool) : (wrB s f b).fuses = s.fuses := rfl
@[simp] theorem wrB_store (s : State) (f : Fld) (b : Bool) : (wrB s f b).store = s.store := rfl
@[simp] theorem wrB_claims (s : State) (f : Fld) (b : Bool) : (wrB s f b).claims = s.claims := rfl
@[simp] theorem wrB_accepted (s : State) (f : Fld) (b : Bool) : (wrB s f b).accepted = s.accepted := rfl
@[simp] theorem wrB_remote (s : State) (f : Fld) (b : Bool) : (wrB s f b).remote = s.remote := rfl
@[simp] theorem wrB_semWait (s : State) (f : Fld) (b : Bool) : (wrB s f b).semWait = s.semWait := rfl
@[simp] theorem wrB_fwd (s : State) (f : Fld) (b : Bool) : (wrB s f b).fwd = s.fwd := rfl
@[simp] theorem wrB_ports (s : State) (f : Fld) (b : Bool) : (wrB s f b).ports = s.ports := rfl
@[simp] theorem wrB_churn (s : State) (f : Fld) (b : Bool) : (wrB s f b).churn = s.churn := rfl
@[simp] theorem wrB_roster (s : State) (f : Fld) (b : Bool) : (wrB s f b).roster = s.roster := rfl
@[simp] theorem wrB_tcfg (s : State) (f : Fld) (b : Bool) : (wrB s f b).tcfg = s.tcfg := rfl
@[simp] theorem wrB_time (s : State) (f : Fld) (b : Bool) : (wrB s f b).time = s.time := rfl
@[simp] theorem wrB_tlg (s : State) (f : Fld) (b : Bool) : (wrB s f b).tlg = s.tlg := rfl
@[simp] theorem wrB_mbus (s : State) (f : Fld) (b : Bool) : (wrB s f b).mbus = s.mbus := rfl
@[simp] theorem wrB_sleep (s : State) (f : Fld) (b : Bool) : (wrB s f b).sleep = s.sleep := rfl
@[simp] theorem wrB_load (s : State) (f : Fld) (b : Bool) : (wrB s f b).load = s.load := rfl
@[simp] theorem wrB_twin (s : State) (f : Fld) (b : Bool) : (wrB s f b).twin = s.twin := rfl
@[simp] theorem wrB_keys (s : State) (f : Fld) (b : Bool) : (wrB s f b).keys = s.keys := rfl
@[simp] theorem wrB_rcd (s : State) (f : Fld) (b : Bool) : (wrB s f b).rcd = s.rcd := rfl
@[simp] theorem wrB_rsv (s : State) (f : Fld) (b : Bool) : (wrB s f b).rsv = s.rsv := rfl

/-! ## inc -/

@[simp] theorem inc_pending (s : State) (f : Fld) : (inc s f).pending = s.pending := rfl
@[simp] theorem inc_phase (s : State) (f : Fld) : (inc s f).phase = s.phase := rfl
@[simp] theorem inc_shadow (s : State) (f : Fld) : (inc s f).shadow = s.shadow := rfl
@[simp] theorem inc_latch (s : State) (f : Fld) : (inc s f).latch = s.latch := rfl
@[simp] theorem inc_pages (s : State) (f : Fld) : (inc s f).pages = s.pages := rfl
@[simp] theorem inc_events (s : State) (f : Fld) : (inc s f).events = s.events := rfl
@[simp] theorem inc_vecs (s : State) (f : Fld) : (inc s f).vecs = s.vecs := rfl
@[simp] theorem inc_irq (s : State) (f : Fld) : (inc s f).irq = s.irq := rfl
@[simp] theorem inc_bar2 (s : State) (f : Fld) : (inc s f).bar2 = s.bar2 := rfl
@[simp] theorem inc_out (s : State) (f : Fld) : (inc s f).out = s.out := rfl
@[simp] theorem inc_free (s : State) (f : Fld) : (inc s f).free = s.free := rfl
@[simp] theorem inc_park (s : State) (f : Fld) : (inc s f).park = s.park := rfl
@[simp] theorem inc_line (s : State) (f : Fld) : (inc s f).line = s.line := rfl
@[simp] theorem inc_clk (s : State) (f : Fld) : (inc s f).clk = s.clk := rfl
@[simp] theorem inc_fuses (s : State) (f : Fld) : (inc s f).fuses = s.fuses := rfl
@[simp] theorem inc_store (s : State) (f : Fld) : (inc s f).store = s.store := rfl
@[simp] theorem inc_claims (s : State) (f : Fld) : (inc s f).claims = s.claims := rfl
@[simp] theorem inc_accepted (s : State) (f : Fld) : (inc s f).accepted = s.accepted := rfl
@[simp] theorem inc_remote (s : State) (f : Fld) : (inc s f).remote = s.remote := rfl
@[simp] theorem inc_semWait (s : State) (f : Fld) : (inc s f).semWait = s.semWait := rfl
@[simp] theorem inc_fwd (s : State) (f : Fld) : (inc s f).fwd = s.fwd := rfl
@[simp] theorem inc_ports (s : State) (f : Fld) : (inc s f).ports = s.ports := rfl
@[simp] theorem inc_churn (s : State) (f : Fld) : (inc s f).churn = s.churn := rfl
@[simp] theorem inc_roster (s : State) (f : Fld) : (inc s f).roster = s.roster := rfl
@[simp] theorem inc_tcfg (s : State) (f : Fld) : (inc s f).tcfg = s.tcfg := rfl
@[simp] theorem inc_time (s : State) (f : Fld) : (inc s f).time = s.time := rfl
@[simp] theorem inc_tlg (s : State) (f : Fld) : (inc s f).tlg = s.tlg := rfl
@[simp] theorem inc_mbus (s : State) (f : Fld) : (inc s f).mbus = s.mbus := rfl
@[simp] theorem inc_sleep (s : State) (f : Fld) : (inc s f).sleep = s.sleep := rfl
@[simp] theorem inc_load (s : State) (f : Fld) : (inc s f).load = s.load := rfl
@[simp] theorem inc_twin (s : State) (f : Fld) : (inc s f).twin = s.twin := rfl
@[simp] theorem inc_keys (s : State) (f : Fld) : (inc s f).keys = s.keys := rfl
@[simp] theorem inc_rcd (s : State) (f : Fld) : (inc s f).rcd = s.rcd := rfl
@[simp] theorem inc_rsv (s : State) (f : Fld) : (inc s f).rsv = s.rsv := rfl

/-! ## incBy -/

@[simp] theorem incBy_pending (s : State) (f : Fld) (n : Nat) : (incBy s f n).pending = s.pending := rfl
@[simp] theorem incBy_phase (s : State) (f : Fld) (n : Nat) : (incBy s f n).phase = s.phase := rfl
@[simp] theorem incBy_shadow (s : State) (f : Fld) (n : Nat) : (incBy s f n).shadow = s.shadow := rfl
@[simp] theorem incBy_latch (s : State) (f : Fld) (n : Nat) : (incBy s f n).latch = s.latch := rfl
@[simp] theorem incBy_pages (s : State) (f : Fld) (n : Nat) : (incBy s f n).pages = s.pages := rfl
@[simp] theorem incBy_events (s : State) (f : Fld) (n : Nat) : (incBy s f n).events = s.events := rfl
@[simp] theorem incBy_vecs (s : State) (f : Fld) (n : Nat) : (incBy s f n).vecs = s.vecs := rfl
@[simp] theorem incBy_irq (s : State) (f : Fld) (n : Nat) : (incBy s f n).irq = s.irq := rfl
@[simp] theorem incBy_bar2 (s : State) (f : Fld) (n : Nat) : (incBy s f n).bar2 = s.bar2 := rfl
@[simp] theorem incBy_out (s : State) (f : Fld) (n : Nat) : (incBy s f n).out = s.out := rfl
@[simp] theorem incBy_free (s : State) (f : Fld) (n : Nat) : (incBy s f n).free = s.free := rfl
@[simp] theorem incBy_park (s : State) (f : Fld) (n : Nat) : (incBy s f n).park = s.park := rfl
@[simp] theorem incBy_line (s : State) (f : Fld) (n : Nat) : (incBy s f n).line = s.line := rfl
@[simp] theorem incBy_clk (s : State) (f : Fld) (n : Nat) : (incBy s f n).clk = s.clk := rfl
@[simp] theorem incBy_fuses (s : State) (f : Fld) (n : Nat) : (incBy s f n).fuses = s.fuses := rfl
@[simp] theorem incBy_store (s : State) (f : Fld) (n : Nat) : (incBy s f n).store = s.store := rfl
@[simp] theorem incBy_claims (s : State) (f : Fld) (n : Nat) : (incBy s f n).claims = s.claims := rfl
@[simp] theorem incBy_accepted (s : State) (f : Fld) (n : Nat) : (incBy s f n).accepted = s.accepted := rfl
@[simp] theorem incBy_remote (s : State) (f : Fld) (n : Nat) : (incBy s f n).remote = s.remote := rfl
@[simp] theorem incBy_semWait (s : State) (f : Fld) (n : Nat) : (incBy s f n).semWait = s.semWait := rfl
@[simp] theorem incBy_fwd (s : State) (f : Fld) (n : Nat) : (incBy s f n).fwd = s.fwd := rfl
@[simp] theorem incBy_ports (s : State) (f : Fld) (n : Nat) : (incBy s f n).ports = s.ports := rfl
@[simp] theorem incBy_churn (s : State) (f : Fld) (n : Nat) : (incBy s f n).churn = s.churn := rfl
@[simp] theorem incBy_roster (s : State) (f : Fld) (n : Nat) : (incBy s f n).roster = s.roster := rfl
@[simp] theorem incBy_tcfg (s : State) (f : Fld) (n : Nat) : (incBy s f n).tcfg = s.tcfg := rfl
@[simp] theorem incBy_time (s : State) (f : Fld) (n : Nat) : (incBy s f n).time = s.time := rfl
@[simp] theorem incBy_tlg (s : State) (f : Fld) (n : Nat) : (incBy s f n).tlg = s.tlg := rfl
@[simp] theorem incBy_mbus (s : State) (f : Fld) (n : Nat) : (incBy s f n).mbus = s.mbus := rfl
@[simp] theorem incBy_sleep (s : State) (f : Fld) (n : Nat) : (incBy s f n).sleep = s.sleep := rfl
@[simp] theorem incBy_load (s : State) (f : Fld) (n : Nat) : (incBy s f n).load = s.load := rfl
@[simp] theorem incBy_twin (s : State) (f : Fld) (n : Nat) : (incBy s f n).twin = s.twin := rfl
@[simp] theorem incBy_keys (s : State) (f : Fld) (n : Nat) : (incBy s f n).keys = s.keys := rfl
@[simp] theorem incBy_rcd (s : State) (f : Fld) (n : Nat) : (incBy s f n).rcd = s.rcd := rfl
@[simp] theorem incBy_rsv (s : State) (f : Fld) (n : Nat) : (incBy s f n).rsv = s.rsv := rfl

/-! ## incSat -/

@[simp] theorem incSat_pending (s : State) (f : Fld) : (incSat s f).pending = s.pending := rfl
@[simp] theorem incSat_phase (s : State) (f : Fld) : (incSat s f).phase = s.phase := rfl
@[simp] theorem incSat_shadow (s : State) (f : Fld) : (incSat s f).shadow = s.shadow := rfl
@[simp] theorem incSat_latch (s : State) (f : Fld) : (incSat s f).latch = s.latch := rfl
@[simp] theorem incSat_pages (s : State) (f : Fld) : (incSat s f).pages = s.pages := rfl
@[simp] theorem incSat_events (s : State) (f : Fld) : (incSat s f).events = s.events := rfl
@[simp] theorem incSat_vecs (s : State) (f : Fld) : (incSat s f).vecs = s.vecs := rfl
@[simp] theorem incSat_irq (s : State) (f : Fld) : (incSat s f).irq = s.irq := rfl
@[simp] theorem incSat_bar2 (s : State) (f : Fld) : (incSat s f).bar2 = s.bar2 := rfl
@[simp] theorem incSat_out (s : State) (f : Fld) : (incSat s f).out = s.out := rfl
@[simp] theorem incSat_free (s : State) (f : Fld) : (incSat s f).free = s.free := rfl
@[simp] theorem incSat_park (s : State) (f : Fld) : (incSat s f).park = s.park := rfl
@[simp] theorem incSat_line (s : State) (f : Fld) : (incSat s f).line = s.line := rfl
@[simp] theorem incSat_clk (s : State) (f : Fld) : (incSat s f).clk = s.clk := rfl
@[simp] theorem incSat_fuses (s : State) (f : Fld) : (incSat s f).fuses = s.fuses := rfl
@[simp] theorem incSat_store (s : State) (f : Fld) : (incSat s f).store = s.store := rfl
@[simp] theorem incSat_claims (s : State) (f : Fld) : (incSat s f).claims = s.claims := rfl
@[simp] theorem incSat_accepted (s : State) (f : Fld) : (incSat s f).accepted = s.accepted := rfl
@[simp] theorem incSat_remote (s : State) (f : Fld) : (incSat s f).remote = s.remote := rfl
@[simp] theorem incSat_semWait (s : State) (f : Fld) : (incSat s f).semWait = s.semWait := rfl
@[simp] theorem incSat_fwd (s : State) (f : Fld) : (incSat s f).fwd = s.fwd := rfl
@[simp] theorem incSat_ports (s : State) (f : Fld) : (incSat s f).ports = s.ports := rfl
@[simp] theorem incSat_churn (s : State) (f : Fld) : (incSat s f).churn = s.churn := rfl
@[simp] theorem incSat_roster (s : State) (f : Fld) : (incSat s f).roster = s.roster := rfl
@[simp] theorem incSat_tcfg (s : State) (f : Fld) : (incSat s f).tcfg = s.tcfg := rfl
@[simp] theorem incSat_time (s : State) (f : Fld) : (incSat s f).time = s.time := rfl
@[simp] theorem incSat_tlg (s : State) (f : Fld) : (incSat s f).tlg = s.tlg := rfl
@[simp] theorem incSat_mbus (s : State) (f : Fld) : (incSat s f).mbus = s.mbus := rfl
@[simp] theorem incSat_sleep (s : State) (f : Fld) : (incSat s f).sleep = s.sleep := rfl
@[simp] theorem incSat_load (s : State) (f : Fld) : (incSat s f).load = s.load := rfl
@[simp] theorem incSat_twin (s : State) (f : Fld) : (incSat s f).twin = s.twin := rfl
@[simp] theorem incSat_keys (s : State) (f : Fld) : (incSat s f).keys = s.keys := rfl
@[simp] theorem incSat_rcd (s : State) (f : Fld) : (incSat s f).rcd = s.rcd := rfl
@[simp] theorem incSat_rsv (s : State) (f : Fld) : (incSat s f).rsv = s.rsv := rfl

/-! ## wrBit -/

@[simp] theorem wrBit_pending (s : State) (f : Fld) (b : Nat) (v : Bool) : (wrBit s f b v).pending = s.pending := rfl
@[simp] theorem wrBit_phase (s : State) (f : Fld) (b : Nat) (v : Bool) : (wrBit s f b v).phase = s.phase := rfl
@[simp] theorem wrBit_shadow (s : State) (f : Fld) (b : Nat) (v : Bool) : (wrBit s f b v).shadow = s.shadow := rfl
@[simp] theorem wrBit_latch (s : State) (f : Fld) (b : Nat) (v : Bool) : (wrBit s f b v).latch = s.latch := rfl
@[simp] theorem wrBit_pages (s : State) (f : Fld) (b : Nat) (v : Bool) : (wrBit s f b v).pages = s.pages := rfl
@[simp] theorem wrBit_events (s : State) (f : Fld) (b : Nat) (v : Bool) : (wrBit s f b v).events = s.events := rfl
@[simp] theorem wrBit_vecs (s : State) (f : Fld) (b : Nat) (v : Bool) : (wrBit s f b v).vecs = s.vecs := rfl
@[simp] theorem wrBit_irq (s : State) (f : Fld) (b : Nat) (v : Bool) : (wrBit s f b v).irq = s.irq := rfl
@[simp] theorem wrBit_bar2 (s : State) (f : Fld) (b : Nat) (v : Bool) : (wrBit s f b v).bar2 = s.bar2 := rfl
@[simp] theorem wrBit_out (s : State) (f : Fld) (b : Nat) (v : Bool) : (wrBit s f b v).out = s.out := rfl
@[simp] theorem wrBit_free (s : State) (f : Fld) (b : Nat) (v : Bool) : (wrBit s f b v).free = s.free := rfl
@[simp] theorem wrBit_park (s : State) (f : Fld) (b : Nat) (v : Bool) : (wrBit s f b v).park = s.park := rfl
@[simp] theorem wrBit_line (s : State) (f : Fld) (b : Nat) (v : Bool) : (wrBit s f b v).line = s.line := rfl
@[simp] theorem wrBit_clk (s : State) (f : Fld) (b : Nat) (v : Bool) : (wrBit s f b v).clk = s.clk := rfl
@[simp] theorem wrBit_fuses (s : State) (f : Fld) (b : Nat) (v : Bool) : (wrBit s f b v).fuses = s.fuses := rfl
@[simp] theorem wrBit_store (s : State) (f : Fld) (b : Nat) (v : Bool) : (wrBit s f b v).store = s.store := rfl
@[simp] theorem wrBit_claims (s : State) (f : Fld) (b : Nat) (v : Bool) : (wrBit s f b v).claims = s.claims := rfl
@[simp] theorem wrBit_accepted (s : State) (f : Fld) (b : Nat) (v : Bool) : (wrBit s f b v).accepted = s.accepted := rfl
@[simp] theorem wrBit_remote (s : State) (f : Fld) (b : Nat) (v : Bool) : (wrBit s f b v).remote = s.remote := rfl
@[simp] theorem wrBit_semWait (s : State) (f : Fld) (b : Nat) (v : Bool) : (wrBit s f b v).semWait = s.semWait := rfl
@[simp] theorem wrBit_fwd (s : State) (f : Fld) (b : Nat) (v : Bool) : (wrBit s f b v).fwd = s.fwd := rfl
@[simp] theorem wrBit_ports (s : State) (f : Fld) (b : Nat) (v : Bool) : (wrBit s f b v).ports = s.ports := rfl
@[simp] theorem wrBit_churn (s : State) (f : Fld) (b : Nat) (v : Bool) : (wrBit s f b v).churn = s.churn := rfl
@[simp] theorem wrBit_roster (s : State) (f : Fld) (b : Nat) (v : Bool) : (wrBit s f b v).roster = s.roster := rfl
@[simp] theorem wrBit_tcfg (s : State) (f : Fld) (b : Nat) (v : Bool) : (wrBit s f b v).tcfg = s.tcfg := rfl
@[simp] theorem wrBit_time (s : State) (f : Fld) (b : Nat) (v : Bool) : (wrBit s f b v).time = s.time := rfl
@[simp] theorem wrBit_tlg (s : State) (f : Fld) (b : Nat) (v : Bool) : (wrBit s f b v).tlg = s.tlg := rfl
@[simp] theorem wrBit_mbus (s : State) (f : Fld) (b : Nat) (v : Bool) : (wrBit s f b v).mbus = s.mbus := rfl
@[simp] theorem wrBit_sleep (s : State) (f : Fld) (b : Nat) (v : Bool) : (wrBit s f b v).sleep = s.sleep := rfl
@[simp] theorem wrBit_load (s : State) (f : Fld) (b : Nat) (v : Bool) : (wrBit s f b v).load = s.load := rfl
@[simp] theorem wrBit_twin (s : State) (f : Fld) (b : Nat) (v : Bool) : (wrBit s f b v).twin = s.twin := rfl
@[simp] theorem wrBit_keys (s : State) (f : Fld) (b : Nat) (v : Bool) : (wrBit s f b v).keys = s.keys := rfl
@[simp] theorem wrBit_rcd (s : State) (f : Fld) (b : Nat) (v : Bool) : (wrBit s f b v).rcd = s.rcd := rfl
@[simp] theorem wrBit_rsv (s : State) (f : Fld) (b : Nat) (v : Bool) : (wrBit s f b v).rsv = s.rsv := rfl

/-! ## wrShadow -/

@[simp] theorem wrShadow_pending (s : State) (f : Fld) (v : Nat) : (wrShadow s f v).pending = s.pending := rfl
@[simp] theorem wrShadow_phase (s : State) (f : Fld) (v : Nat) : (wrShadow s f v).phase = s.phase := rfl
@[simp] theorem wrShadow_regs (s : State) (f : Fld) (v : Nat) : (wrShadow s f v).regs = s.regs := rfl
@[simp] theorem wrShadow_latch (s : State) (f : Fld) (v : Nat) : (wrShadow s f v).latch = s.latch := rfl
@[simp] theorem wrShadow_pages (s : State) (f : Fld) (v : Nat) : (wrShadow s f v).pages = s.pages := rfl
@[simp] theorem wrShadow_events (s : State) (f : Fld) (v : Nat) : (wrShadow s f v).events = s.events := rfl
@[simp] theorem wrShadow_vecs (s : State) (f : Fld) (v : Nat) : (wrShadow s f v).vecs = s.vecs := rfl
@[simp] theorem wrShadow_irq (s : State) (f : Fld) (v : Nat) : (wrShadow s f v).irq = s.irq := rfl
@[simp] theorem wrShadow_bar2 (s : State) (f : Fld) (v : Nat) : (wrShadow s f v).bar2 = s.bar2 := rfl
@[simp] theorem wrShadow_out (s : State) (f : Fld) (v : Nat) : (wrShadow s f v).out = s.out := rfl
@[simp] theorem wrShadow_free (s : State) (f : Fld) (v : Nat) : (wrShadow s f v).free = s.free := rfl
@[simp] theorem wrShadow_park (s : State) (f : Fld) (v : Nat) : (wrShadow s f v).park = s.park := rfl
@[simp] theorem wrShadow_line (s : State) (f : Fld) (v : Nat) : (wrShadow s f v).line = s.line := rfl
@[simp] theorem wrShadow_clk (s : State) (f : Fld) (v : Nat) : (wrShadow s f v).clk = s.clk := rfl
@[simp] theorem wrShadow_fuses (s : State) (f : Fld) (v : Nat) : (wrShadow s f v).fuses = s.fuses := rfl
@[simp] theorem wrShadow_store (s : State) (f : Fld) (v : Nat) : (wrShadow s f v).store = s.store := rfl
@[simp] theorem wrShadow_claims (s : State) (f : Fld) (v : Nat) : (wrShadow s f v).claims = s.claims := rfl
@[simp] theorem wrShadow_accepted (s : State) (f : Fld) (v : Nat) : (wrShadow s f v).accepted = s.accepted := rfl
@[simp] theorem wrShadow_remote (s : State) (f : Fld) (v : Nat) : (wrShadow s f v).remote = s.remote := rfl
@[simp] theorem wrShadow_semWait (s : State) (f : Fld) (v : Nat) : (wrShadow s f v).semWait = s.semWait := rfl
@[simp] theorem wrShadow_fwd (s : State) (f : Fld) (v : Nat) : (wrShadow s f v).fwd = s.fwd := rfl
@[simp] theorem wrShadow_ports (s : State) (f : Fld) (v : Nat) : (wrShadow s f v).ports = s.ports := rfl
@[simp] theorem wrShadow_churn (s : State) (f : Fld) (v : Nat) : (wrShadow s f v).churn = s.churn := rfl
@[simp] theorem wrShadow_roster (s : State) (f : Fld) (v : Nat) : (wrShadow s f v).roster = s.roster := rfl
@[simp] theorem wrShadow_tcfg (s : State) (f : Fld) (v : Nat) : (wrShadow s f v).tcfg = s.tcfg := rfl
@[simp] theorem wrShadow_time (s : State) (f : Fld) (v : Nat) : (wrShadow s f v).time = s.time := rfl
@[simp] theorem wrShadow_tlg (s : State) (f : Fld) (v : Nat) : (wrShadow s f v).tlg = s.tlg := rfl
@[simp] theorem wrShadow_mbus (s : State) (f : Fld) (v : Nat) : (wrShadow s f v).mbus = s.mbus := rfl
@[simp] theorem wrShadow_sleep (s : State) (f : Fld) (v : Nat) : (wrShadow s f v).sleep = s.sleep := rfl
@[simp] theorem wrShadow_load (s : State) (f : Fld) (v : Nat) : (wrShadow s f v).load = s.load := rfl
@[simp] theorem wrShadow_twin (s : State) (f : Fld) (v : Nat) : (wrShadow s f v).twin = s.twin := rfl
@[simp] theorem wrShadow_keys (s : State) (f : Fld) (v : Nat) : (wrShadow s f v).keys = s.keys := rfl
@[simp] theorem wrShadow_rcd (s : State) (f : Fld) (v : Nat) : (wrShadow s f v).rcd = s.rcd := rfl
@[simp] theorem wrShadow_rsv (s : State) (f : Fld) (v : Nat) : (wrShadow s f v).rsv = s.rsv := rfl

/-! ## emit -/

@[simp] theorem emit_pending (s : State) (o : Output) : (emit s o).pending = s.pending := rfl
@[simp] theorem emit_phase (s : State) (o : Output) : (emit s o).phase = s.phase := rfl
@[simp] theorem emit_regs (s : State) (o : Output) : (emit s o).regs = s.regs := rfl
@[simp] theorem emit_shadow (s : State) (o : Output) : (emit s o).shadow = s.shadow := rfl
@[simp] theorem emit_latch (s : State) (o : Output) : (emit s o).latch = s.latch := rfl
@[simp] theorem emit_pages (s : State) (o : Output) : (emit s o).pages = s.pages := rfl
@[simp] theorem emit_events (s : State) (o : Output) : (emit s o).events = s.events := rfl
@[simp] theorem emit_vecs (s : State) (o : Output) : (emit s o).vecs = s.vecs := rfl
@[simp] theorem emit_irq (s : State) (o : Output) : (emit s o).irq = s.irq := rfl
@[simp] theorem emit_bar2 (s : State) (o : Output) : (emit s o).bar2 = s.bar2 := rfl
@[simp] theorem emit_free (s : State) (o : Output) : (emit s o).free = s.free := rfl
@[simp] theorem emit_park (s : State) (o : Output) : (emit s o).park = s.park := rfl
@[simp] theorem emit_line (s : State) (o : Output) : (emit s o).line = s.line := rfl
@[simp] theorem emit_clk (s : State) (o : Output) : (emit s o).clk = s.clk := rfl
@[simp] theorem emit_fuses (s : State) (o : Output) : (emit s o).fuses = s.fuses := rfl
@[simp] theorem emit_store (s : State) (o : Output) : (emit s o).store = s.store := rfl
@[simp] theorem emit_claims (s : State) (o : Output) : (emit s o).claims = s.claims := rfl
@[simp] theorem emit_accepted (s : State) (o : Output) : (emit s o).accepted = s.accepted := rfl
@[simp] theorem emit_remote (s : State) (o : Output) : (emit s o).remote = s.remote := rfl
@[simp] theorem emit_semWait (s : State) (o : Output) : (emit s o).semWait = s.semWait := rfl
@[simp] theorem emit_fwd (s : State) (o : Output) : (emit s o).fwd = s.fwd := rfl
@[simp] theorem emit_ports (s : State) (o : Output) : (emit s o).ports = s.ports := rfl
@[simp] theorem emit_churn (s : State) (o : Output) : (emit s o).churn = s.churn := rfl
@[simp] theorem emit_roster (s : State) (o : Output) : (emit s o).roster = s.roster := rfl
@[simp] theorem emit_tcfg (s : State) (o : Output) : (emit s o).tcfg = s.tcfg := rfl
@[simp] theorem emit_time (s : State) (o : Output) : (emit s o).time = s.time := rfl
@[simp] theorem emit_tlg (s : State) (o : Output) : (emit s o).tlg = s.tlg := rfl
@[simp] theorem emit_mbus (s : State) (o : Output) : (emit s o).mbus = s.mbus := rfl
@[simp] theorem emit_sleep (s : State) (o : Output) : (emit s o).sleep = s.sleep := rfl
@[simp] theorem emit_load (s : State) (o : Output) : (emit s o).load = s.load := rfl
@[simp] theorem emit_twin (s : State) (o : Output) : (emit s o).twin = s.twin := rfl
@[simp] theorem emit_keys (s : State) (o : Output) : (emit s o).keys = s.keys := rfl
@[simp] theorem emit_rcd (s : State) (o : Output) : (emit s o).rcd = s.rcd := rfl
@[simp] theorem emit_rsv (s : State) (o : Output) : (emit s o).rsv = s.rsv := rfl

/-! ## nextFree -/

@[simp] theorem nextFree_pending (s : State) : (nextFree s).pending = s.pending := rfl
@[simp] theorem nextFree_phase (s : State) : (nextFree s).phase = s.phase := rfl
@[simp] theorem nextFree_regs (s : State) : (nextFree s).regs = s.regs := rfl
@[simp] theorem nextFree_shadow (s : State) : (nextFree s).shadow = s.shadow := rfl
@[simp] theorem nextFree_latch (s : State) : (nextFree s).latch = s.latch := rfl
@[simp] theorem nextFree_pages (s : State) : (nextFree s).pages = s.pages := rfl
@[simp] theorem nextFree_events (s : State) : (nextFree s).events = s.events := rfl
@[simp] theorem nextFree_vecs (s : State) : (nextFree s).vecs = s.vecs := rfl
@[simp] theorem nextFree_irq (s : State) : (nextFree s).irq = s.irq := rfl
@[simp] theorem nextFree_bar2 (s : State) : (nextFree s).bar2 = s.bar2 := rfl
@[simp] theorem nextFree_out (s : State) : (nextFree s).out = s.out := rfl
@[simp] theorem nextFree_park (s : State) : (nextFree s).park = s.park := rfl
@[simp] theorem nextFree_line (s : State) : (nextFree s).line = s.line := rfl
@[simp] theorem nextFree_clk (s : State) : (nextFree s).clk = s.clk := rfl
@[simp] theorem nextFree_fuses (s : State) : (nextFree s).fuses = s.fuses := rfl
@[simp] theorem nextFree_store (s : State) : (nextFree s).store = s.store := rfl
@[simp] theorem nextFree_claims (s : State) : (nextFree s).claims = s.claims := rfl
@[simp] theorem nextFree_accepted (s : State) : (nextFree s).accepted = s.accepted := rfl
@[simp] theorem nextFree_remote (s : State) : (nextFree s).remote = s.remote := rfl
@[simp] theorem nextFree_semWait (s : State) : (nextFree s).semWait = s.semWait := rfl
@[simp] theorem nextFree_fwd (s : State) : (nextFree s).fwd = s.fwd := rfl
@[simp] theorem nextFree_ports (s : State) : (nextFree s).ports = s.ports := rfl
@[simp] theorem nextFree_churn (s : State) : (nextFree s).churn = s.churn := rfl
@[simp] theorem nextFree_roster (s : State) : (nextFree s).roster = s.roster := rfl
@[simp] theorem nextFree_tcfg (s : State) : (nextFree s).tcfg = s.tcfg := rfl
@[simp] theorem nextFree_time (s : State) : (nextFree s).time = s.time := rfl
@[simp] theorem nextFree_tlg (s : State) : (nextFree s).tlg = s.tlg := rfl
@[simp] theorem nextFree_mbus (s : State) : (nextFree s).mbus = s.mbus := rfl
@[simp] theorem nextFree_sleep (s : State) : (nextFree s).sleep = s.sleep := rfl
@[simp] theorem nextFree_load (s : State) : (nextFree s).load = s.load := rfl
@[simp] theorem nextFree_twin (s : State) : (nextFree s).twin = s.twin := rfl
@[simp] theorem nextFree_keys (s : State) : (nextFree s).keys = s.keys := rfl
@[simp] theorem nextFree_rcd (s : State) : (nextFree s).rcd = s.rcd := rfl
@[simp] theorem nextFree_rsv (s : State) : (nextFree s).rsv = s.rsv := rfl

/-! ## setPageSt -/

@[simp] theorem setPageSt_pending (s : State) (page : Nat) (p : PageSt) : (setPageSt s page p).pending = s.pending := rfl
@[simp] theorem setPageSt_phase (s : State) (page : Nat) (p : PageSt) : (setPageSt s page p).phase = s.phase := rfl
@[simp] theorem setPageSt_regs (s : State) (page : Nat) (p : PageSt) : (setPageSt s page p).regs = s.regs := rfl
@[simp] theorem setPageSt_shadow (s : State) (page : Nat) (p : PageSt) : (setPageSt s page p).shadow = s.shadow := rfl
@[simp] theorem setPageSt_latch (s : State) (page : Nat) (p : PageSt) : (setPageSt s page p).latch = s.latch := rfl
@[simp] theorem setPageSt_events (s : State) (page : Nat) (p : PageSt) : (setPageSt s page p).events = s.events := rfl
@[simp] theorem setPageSt_vecs (s : State) (page : Nat) (p : PageSt) : (setPageSt s page p).vecs = s.vecs := rfl
@[simp] theorem setPageSt_irq (s : State) (page : Nat) (p : PageSt) : (setPageSt s page p).irq = s.irq := rfl
@[simp] theorem setPageSt_bar2 (s : State) (page : Nat) (p : PageSt) : (setPageSt s page p).bar2 = s.bar2 := rfl
@[simp] theorem setPageSt_out (s : State) (page : Nat) (p : PageSt) : (setPageSt s page p).out = s.out := rfl
@[simp] theorem setPageSt_free (s : State) (page : Nat) (p : PageSt) : (setPageSt s page p).free = s.free := rfl
@[simp] theorem setPageSt_park (s : State) (page : Nat) (p : PageSt) : (setPageSt s page p).park = s.park := rfl
@[simp] theorem setPageSt_line (s : State) (page : Nat) (p : PageSt) : (setPageSt s page p).line = s.line := rfl
@[simp] theorem setPageSt_clk (s : State) (page : Nat) (p : PageSt) : (setPageSt s page p).clk = s.clk := rfl
@[simp] theorem setPageSt_fuses (s : State) (page : Nat) (p : PageSt) : (setPageSt s page p).fuses = s.fuses := rfl
@[simp] theorem setPageSt_store (s : State) (page : Nat) (p : PageSt) : (setPageSt s page p).store = s.store := rfl
@[simp] theorem setPageSt_claims (s : State) (page : Nat) (p : PageSt) : (setPageSt s page p).claims = s.claims := rfl
@[simp] theorem setPageSt_accepted (s : State) (page : Nat) (p : PageSt) : (setPageSt s page p).accepted = s.accepted := rfl
@[simp] theorem setPageSt_remote (s : State) (page : Nat) (p : PageSt) : (setPageSt s page p).remote = s.remote := rfl
@[simp] theorem setPageSt_semWait (s : State) (page : Nat) (p : PageSt) : (setPageSt s page p).semWait = s.semWait := rfl
@[simp] theorem setPageSt_fwd (s : State) (page : Nat) (p : PageSt) : (setPageSt s page p).fwd = s.fwd := rfl
@[simp] theorem setPageSt_ports (s : State) (page : Nat) (p : PageSt) : (setPageSt s page p).ports = s.ports := rfl
@[simp] theorem setPageSt_churn (s : State) (page : Nat) (p : PageSt) : (setPageSt s page p).churn = s.churn := rfl
@[simp] theorem setPageSt_roster (s : State) (page : Nat) (p : PageSt) : (setPageSt s page p).roster = s.roster := rfl
@[simp] theorem setPageSt_tcfg (s : State) (page : Nat) (p : PageSt) : (setPageSt s page p).tcfg = s.tcfg := rfl
@[simp] theorem setPageSt_time (s : State) (page : Nat) (p : PageSt) : (setPageSt s page p).time = s.time := rfl
@[simp] theorem setPageSt_tlg (s : State) (page : Nat) (p : PageSt) : (setPageSt s page p).tlg = s.tlg := rfl
@[simp] theorem setPageSt_mbus (s : State) (page : Nat) (p : PageSt) : (setPageSt s page p).mbus = s.mbus := rfl
@[simp] theorem setPageSt_sleep (s : State) (page : Nat) (p : PageSt) : (setPageSt s page p).sleep = s.sleep := rfl
@[simp] theorem setPageSt_load (s : State) (page : Nat) (p : PageSt) : (setPageSt s page p).load = s.load := rfl
@[simp] theorem setPageSt_twin (s : State) (page : Nat) (p : PageSt) : (setPageSt s page p).twin = s.twin := rfl
@[simp] theorem setPageSt_keys (s : State) (page : Nat) (p : PageSt) : (setPageSt s page p).keys = s.keys := rfl
@[simp] theorem setPageSt_rcd (s : State) (page : Nat) (p : PageSt) : (setPageSt s page p).rcd = s.rcd := rfl
@[simp] theorem setPageSt_rsv (s : State) (page : Nat) (p : PageSt) : (setPageSt s page p).rsv = s.rsv := rfl

/-! ## bar2Write -/

@[simp] theorem bar2Write_pending (s : State) (a : Nat) (l : List Byte) : (bar2Write s a l).pending = s.pending := rfl
@[simp] theorem bar2Write_phase (s : State) (a : Nat) (l : List Byte) : (bar2Write s a l).phase = s.phase := rfl
@[simp] theorem bar2Write_regs (s : State) (a : Nat) (l : List Byte) : (bar2Write s a l).regs = s.regs := rfl
@[simp] theorem bar2Write_shadow (s : State) (a : Nat) (l : List Byte) : (bar2Write s a l).shadow = s.shadow := rfl
@[simp] theorem bar2Write_latch (s : State) (a : Nat) (l : List Byte) : (bar2Write s a l).latch = s.latch := rfl
@[simp] theorem bar2Write_pages (s : State) (a : Nat) (l : List Byte) : (bar2Write s a l).pages = s.pages := rfl
@[simp] theorem bar2Write_events (s : State) (a : Nat) (l : List Byte) : (bar2Write s a l).events = s.events := rfl
@[simp] theorem bar2Write_vecs (s : State) (a : Nat) (l : List Byte) : (bar2Write s a l).vecs = s.vecs := rfl
@[simp] theorem bar2Write_irq (s : State) (a : Nat) (l : List Byte) : (bar2Write s a l).irq = s.irq := rfl
@[simp] theorem bar2Write_out (s : State) (a : Nat) (l : List Byte) : (bar2Write s a l).out = s.out := rfl
@[simp] theorem bar2Write_free (s : State) (a : Nat) (l : List Byte) : (bar2Write s a l).free = s.free := rfl
@[simp] theorem bar2Write_park (s : State) (a : Nat) (l : List Byte) : (bar2Write s a l).park = s.park := rfl
@[simp] theorem bar2Write_line (s : State) (a : Nat) (l : List Byte) : (bar2Write s a l).line = s.line := rfl
@[simp] theorem bar2Write_clk (s : State) (a : Nat) (l : List Byte) : (bar2Write s a l).clk = s.clk := rfl
@[simp] theorem bar2Write_fuses (s : State) (a : Nat) (l : List Byte) : (bar2Write s a l).fuses = s.fuses := rfl
@[simp] theorem bar2Write_store (s : State) (a : Nat) (l : List Byte) : (bar2Write s a l).store = s.store := rfl
@[simp] theorem bar2Write_claims (s : State) (a : Nat) (l : List Byte) : (bar2Write s a l).claims = s.claims := rfl
@[simp] theorem bar2Write_accepted (s : State) (a : Nat) (l : List Byte) : (bar2Write s a l).accepted = s.accepted := rfl
@[simp] theorem bar2Write_remote (s : State) (a : Nat) (l : List Byte) : (bar2Write s a l).remote = s.remote := rfl
@[simp] theorem bar2Write_semWait (s : State) (a : Nat) (l : List Byte) : (bar2Write s a l).semWait = s.semWait := rfl
@[simp] theorem bar2Write_fwd (s : State) (a : Nat) (l : List Byte) : (bar2Write s a l).fwd = s.fwd := rfl
@[simp] theorem bar2Write_ports (s : State) (a : Nat) (l : List Byte) : (bar2Write s a l).ports = s.ports := rfl
@[simp] theorem bar2Write_churn (s : State) (a : Nat) (l : List Byte) : (bar2Write s a l).churn = s.churn := rfl
@[simp] theorem bar2Write_roster (s : State) (a : Nat) (l : List Byte) : (bar2Write s a l).roster = s.roster := rfl
@[simp] theorem bar2Write_tcfg (s : State) (a : Nat) (l : List Byte) : (bar2Write s a l).tcfg = s.tcfg := rfl
@[simp] theorem bar2Write_time (s : State) (a : Nat) (l : List Byte) : (bar2Write s a l).time = s.time := rfl
@[simp] theorem bar2Write_tlg (s : State) (a : Nat) (l : List Byte) : (bar2Write s a l).tlg = s.tlg := rfl
@[simp] theorem bar2Write_mbus (s : State) (a : Nat) (l : List Byte) : (bar2Write s a l).mbus = s.mbus := rfl
@[simp] theorem bar2Write_sleep (s : State) (a : Nat) (l : List Byte) : (bar2Write s a l).sleep = s.sleep := rfl
@[simp] theorem bar2Write_load (s : State) (a : Nat) (l : List Byte) : (bar2Write s a l).load = s.load := rfl
@[simp] theorem bar2Write_twin (s : State) (a : Nat) (l : List Byte) : (bar2Write s a l).twin = s.twin := rfl
@[simp] theorem bar2Write_keys (s : State) (a : Nat) (l : List Byte) : (bar2Write s a l).keys = s.keys := rfl
@[simp] theorem bar2Write_rcd (s : State) (a : Nat) (l : List Byte) : (bar2Write s a l).rcd = s.rcd := rfl
@[simp] theorem bar2Write_rsv (s : State) (a : Nat) (l : List Byte) : (bar2Write s a l).rsv = s.rsv := rfl

/-! ## setPort -/

@[simp] theorem setPort_pending (s : State) (p : Nat) (v : PortSt) : (setPort s p v).pending = s.pending := rfl
@[simp] theorem setPort_phase (s : State) (p : Nat) (v : PortSt) : (setPort s p v).phase = s.phase := rfl
@[simp] theorem setPort_regs (s : State) (p : Nat) (v : PortSt) : (setPort s p v).regs = s.regs := rfl
@[simp] theorem setPort_shadow (s : State) (p : Nat) (v : PortSt) : (setPort s p v).shadow = s.shadow := rfl
@[simp] theorem setPort_latch (s : State) (p : Nat) (v : PortSt) : (setPort s p v).latch = s.latch := rfl
@[simp] theorem setPort_pages (s : State) (p : Nat) (v : PortSt) : (setPort s p v).pages = s.pages := rfl
@[simp] theorem setPort_events (s : State) (p : Nat) (v : PortSt) : (setPort s p v).events = s.events := rfl
@[simp] theorem setPort_vecs (s : State) (p : Nat) (v : PortSt) : (setPort s p v).vecs = s.vecs := rfl
@[simp] theorem setPort_irq (s : State) (p : Nat) (v : PortSt) : (setPort s p v).irq = s.irq := rfl
@[simp] theorem setPort_bar2 (s : State) (p : Nat) (v : PortSt) : (setPort s p v).bar2 = s.bar2 := rfl
@[simp] theorem setPort_out (s : State) (p : Nat) (v : PortSt) : (setPort s p v).out = s.out := rfl
@[simp] theorem setPort_free (s : State) (p : Nat) (v : PortSt) : (setPort s p v).free = s.free := rfl
@[simp] theorem setPort_park (s : State) (p : Nat) (v : PortSt) : (setPort s p v).park = s.park := rfl
@[simp] theorem setPort_line (s : State) (p : Nat) (v : PortSt) : (setPort s p v).line = s.line := rfl
@[simp] theorem setPort_clk (s : State) (p : Nat) (v : PortSt) : (setPort s p v).clk = s.clk := rfl
@[simp] theorem setPort_fuses (s : State) (p : Nat) (v : PortSt) : (setPort s p v).fuses = s.fuses := rfl
@[simp] theorem setPort_store (s : State) (p : Nat) (v : PortSt) : (setPort s p v).store = s.store := rfl
@[simp] theorem setPort_claims (s : State) (p : Nat) (v : PortSt) : (setPort s p v).claims = s.claims := rfl
@[simp] theorem setPort_accepted (s : State) (p : Nat) (v : PortSt) : (setPort s p v).accepted = s.accepted := rfl
@[simp] theorem setPort_remote (s : State) (p : Nat) (v : PortSt) : (setPort s p v).remote = s.remote := rfl
@[simp] theorem setPort_semWait (s : State) (p : Nat) (v : PortSt) : (setPort s p v).semWait = s.semWait := rfl
@[simp] theorem setPort_fwd (s : State) (p : Nat) (v : PortSt) : (setPort s p v).fwd = s.fwd := rfl
@[simp] theorem setPort_churn (s : State) (p : Nat) (v : PortSt) : (setPort s p v).churn = s.churn := rfl
@[simp] theorem setPort_roster (s : State) (p : Nat) (v : PortSt) : (setPort s p v).roster = s.roster := rfl
@[simp] theorem setPort_tcfg (s : State) (p : Nat) (v : PortSt) : (setPort s p v).tcfg = s.tcfg := rfl
@[simp] theorem setPort_time (s : State) (p : Nat) (v : PortSt) : (setPort s p v).time = s.time := rfl
@[simp] theorem setPort_tlg (s : State) (p : Nat) (v : PortSt) : (setPort s p v).tlg = s.tlg := rfl
@[simp] theorem setPort_mbus (s : State) (p : Nat) (v : PortSt) : (setPort s p v).mbus = s.mbus := rfl
@[simp] theorem setPort_sleep (s : State) (p : Nat) (v : PortSt) : (setPort s p v).sleep = s.sleep := rfl
@[simp] theorem setPort_load (s : State) (p : Nat) (v : PortSt) : (setPort s p v).load = s.load := rfl
@[simp] theorem setPort_twin (s : State) (p : Nat) (v : PortSt) : (setPort s p v).twin = s.twin := rfl
@[simp] theorem setPort_keys (s : State) (p : Nat) (v : PortSt) : (setPort s p v).keys = s.keys := rfl
@[simp] theorem setPort_rcd (s : State) (p : Nat) (v : PortSt) : (setPort s p v).rcd = s.rcd := rfl
@[simp] theorem setPort_rsv (s : State) (p : Nat) (v : PortSt) : (setPort s p v).rsv = s.rsv := rfl

end Sys2Proof.Machine
end

