-- ==== Sys2Proof/Laws/Events.lean ====
section
/-! SUPPORT. What an event can change (R108 to R111), said once: pending bits, the cores' copy, a masked vector's bit, deliveries, and messages. -/

namespace Sys2Proof.Machine

/-- A property that every pass keeps holds after forEach. -/
theorem forEach_keeps {α : Type} (P : State → Prop) (f : α → State → State) (h : ∀ a s, P s → P (f a s)) (l : List α) (s : State) (hs : P s) :
    P (forEach l f s) := by
  unfold forEach
  induction l generalizing s with
  | nil => exact hs
  | cons a t ih => exact ih _ (h a s hs)

/-- Only registers, event copies, deliveries and outputs may differ; the registers only in the fields listed. -/
structure Noise (l : List Fld) (s t : State) : Prop where
  units : UnitsSame s t
  regs : RegsBut l s t

theorem Noise.refl (l : List Fld) (s : State) : Noise l s s := ⟨rfl, fun _ _ => rfl⟩

theorem Noise.trans {l : List Fld} {s t u : State} (h : Noise l s t) (k : Noise l t u) : Noise l s u := by
  refine ⟨?_, fun f hf => (k.regs f hf).trans (h.regs f hf)⟩
  have h1 := h.units; have h2 := k.units
  unfold UnitsSame at *
  rw [h2, h1]

theorem Noise.wr {l : List Fld} {s t : State} (h : Noise l s t) {f : Fld} (hf : f ∈ l) (v : Nat) : Noise l s (wr t f v) := by
  refine h.trans ⟨rfl, fun g hg => rd_wr_other t v (hg f hf)⟩

theorem Noise.emit {l : List Fld} {s t : State} (h : Noise l s t) (o : Output) : Noise l s (emit t o) :=
  h.trans ⟨rfl, fun _ _ => rfl⟩

theorem sendVector_noise {l : List Fld} {s t : State} (h : Noise l s t) (hl : BRG_MSIX_PBA ∈ l) (v : Nat) : Noise l s (sendVector v t) := by
  unfold sendVector
  split
  · exact h.wr hl _
  · exact h.emit _

theorem deliver_noise {l : List Fld} {s t : State} (h : Noise l s t) (hl : BRG_MSIX_PBA ∈ l) (again : Bool) : Noise l s (deliver again t) := by
  unfold deliver
  have key : ∀ (d : Nat × Nat) (old : Nat), Noise l s (forEach (List.range 16) (fun v t => if bit d.1 v && (again || !bit old v) then sendVector v t else t) t) := by
    intro d old
    refine forEach_keeps (Noise l s) _ ?_ _ _ h
    intro v u hu
    split
    · exact sendVector_noise hu hl v
    · exact hu
  exact (key _ _).trans ⟨rfl, fun _ _ => rfl⟩

/-- Everything that an event can change. -/
theorem raise_noise {l : List Fld} {s t : State} (h : Noise l s t) (page k : Nat) (h1 : H_PEND page ∈ l) (h2 : BRG_MSIX_PBA ∈ l) :
    Noise l s (raise t page k) := by
  unfold raise
  split
  · exact h
  · rename_i i _
    split
    · refine deliver_noise ?_ h2 false
      have : Noise l s { t with events := t.events ||| (1#512 <<< (i.src + k)) } := h.trans ⟨rfl, fun _ _ => rfl⟩
      exact Noise.wr this h1 _
    · exact h

/-- What an event leaves: its page's pending bits and a masked vector's are the only registers that it can change. -/
theorem raise_regs (s : State) (page k : Nat) : RegsBut (eventFields page) s (raise s page k) :=
  (raise_noise (Noise.refl (eventFields page) s) page k (by simp [eventFields]) (by simp [eventFields])).regs

theorem raise_units (s : State) (page k : Nat) : UnitsSame s (raise s page k) :=
  (raise_noise (Noise.refl (eventFields page) s) page k (by simp [eventFields]) (by simp [eventFields])).units

/-- An event changes no register but its page's pending bits and a masked vector's. -/
theorem rd_raise_other (s : State) {f : Fld} (page k : Nat) (h1 : f.key ≠ (H_PEND page).key) (h2 : f.key ≠ BRG_MSIX_PBA.key) :
    rd (raise s page k) f = rd s f :=
  raise_regs s page k f (by simp [eventFields]; exact ⟨h1, h2⟩)

@[simp] theorem raise_pending (s : State) (page k : Nat) : (raise s page k).pending = s.pending := by rw [raise_units s page k]
@[simp] theorem raise_phase (s : State) (page k : Nat) : (raise s page k).phase = s.phase := by rw [raise_units s page k]
@[simp] theorem raise_shadow (s : State) (page k : Nat) : (raise s page k).shadow = s.shadow := by rw [raise_units s page k]
@[simp] theorem raise_latch (s : State) (page k : Nat) : (raise s page k).latch = s.latch := by rw [raise_units s page k]
@[simp] theorem raise_pages (s : State) (page k : Nat) : (raise s page k).pages = s.pages := by rw [raise_units s page k]
@[simp] theorem raise_bar2 (s : State) (page k : Nat) : (raise s page k).bar2 = s.bar2 := by rw [raise_units s page k]
@[simp] theorem raise_free (s : State) (page k : Nat) : (raise s page k).free = s.free := by rw [raise_units s page k]
@[simp] theorem raise_park (s : State) (page k : Nat) : (raise s page k).park = s.park := by rw [raise_units s page k]
@[simp] theorem raise_line (s : State) (page k : Nat) : (raise s page k).line = s.line := by rw [raise_units s page k]
@[simp] theorem raise_clk (s : State) (page k : Nat) : (raise s page k).clk = s.clk := by rw [raise_units s page k]
@[simp] theorem raise_fuses (s : State) (page k : Nat) : (raise s page k).fuses = s.fuses := by rw [raise_units s page k]
@[simp] theorem raise_store (s : State) (page k : Nat) : (raise s page k).store = s.store := by rw [raise_units s page k]
@[simp] theorem raise_claims (s : State) (page k : Nat) : (raise s page k).claims = s.claims := by rw [raise_units s page k]
@[simp] theorem raise_accepted (s : State) (page k : Nat) : (raise s page k).accepted = s.accepted := by rw [raise_units s page k]
@[simp] theorem raise_remote (s : State) (page k : Nat) : (raise s page k).remote = s.remote := by rw [raise_units s page k]
@[simp] theorem raise_semWait (s : State) (page k : Nat) : (raise s page k).semWait = s.semWait := by rw [raise_units s page k]
@[simp] theorem raise_fwd (s : State) (page k : Nat) : (raise s page k).fwd = s.fwd := by rw [raise_units s page k]
@[simp] theorem raise_ports (s : State) (page k : Nat) : (raise s page k).ports = s.ports := by rw [raise_units s page k]
@[simp] theorem raise_churn (s : State) (page k : Nat) : (raise s page k).churn = s.churn := by rw [raise_units s page k]
@[simp] theorem raise_roster (s : State) (page k : Nat) : (raise s page k).roster = s.roster := by rw [raise_units s page k]
@[simp] theorem raise_tcfg (s : State) (page k : Nat) : (raise s page k).tcfg = s.tcfg := by rw [raise_units s page k]
@[simp] theorem raise_time (s : State) (page k : Nat) : (raise s page k).time = s.time := by rw [raise_units s page k]
@[simp] theorem raise_tlg (s : State) (page k : Nat) : (raise s page k).tlg = s.tlg := by rw [raise_units s page k]
@[simp] theorem raise_mbus (s : State) (page k : Nat) : (raise s page k).mbus = s.mbus := by rw [raise_units s page k]
@[simp] theorem raise_sleep (s : State) (page k : Nat) : (raise s page k).sleep = s.sleep := by rw [raise_units s page k]
@[simp] theorem raise_load (s : State) (page k : Nat) : (raise s page k).load = s.load := by rw [raise_units s page k]
@[simp] theorem raise_twin (s : State) (page k : Nat) : (raise s page k).twin = s.twin := by rw [raise_units s page k]
@[simp] theorem raise_keys (s : State) (page k : Nat) : (raise s page k).keys = s.keys := by rw [raise_units s page k]
@[simp] theorem raise_rcd (s : State) (page k : Nat) : (raise s page k).rcd = s.rcd := by rw [raise_units s page k]
@[simp] theorem raise_rsv (s : State) (page k : Nat) : (raise s page k).rsv = s.rsv := by rw [raise_units s page k]
@[simp] theorem raiseIf_pending (c : Bool) (page k : Nat) (s : State) : (raiseIf c page k s).pending = s.pending := by unfold raiseIf; split <;> simp
@[simp] theorem raiseIf_phase (c : Bool) (page k : Nat) (s : State) : (raiseIf c page k s).phase = s.phase := by unfold raiseIf; split <;> simp
@[simp] theorem raiseIf_shadow (c : Bool) (page k : Nat) (s : State) : (raiseIf c page k s).shadow = s.shadow := by unfold raiseIf; split <;> simp
@[simp] theorem raiseIf_latch (c : Bool) (page k : Nat) (s : State) : (raiseIf c page k s).latch = s.latch := by unfold raiseIf; split <;> simp
@[simp] theorem raiseIf_pages (c : Bool) (page k : Nat) (s : State) : (raiseIf c page k s).pages = s.pages := by unfold raiseIf; split <;> simp
@[simp] theorem raiseIf_bar2 (c : Bool) (page k : Nat) (s : State) : (raiseIf c page k s).bar2 = s.bar2 := by unfold raiseIf; split <;> simp
@[simp] theorem raiseIf_free (c : Bool) (page k : Nat) (s : State) : (raiseIf c page k s).free = s.free := by unfold raiseIf; split <;> simp
@[simp] theorem raiseIf_park (c : Bool) (page k : Nat) (s : State) : (raiseIf c page k s).park = s.park := by unfold raiseIf; split <;> simp
@[simp] theorem raiseIf_line (c : Bool) (page k : Nat) (s : State) : (raiseIf c page k s).line = s.line := by unfold raiseIf; split <;> simp
@[simp] theorem raiseIf_clk (c : Bool) (page k : Nat) (s : State) : (raiseIf c page k s).clk = s.clk := by unfold raiseIf; split <;> simp
@[simp] theorem raiseIf_fuses (c : Bool) (page k : Nat) (s : State) : (raiseIf c page k s).fuses = s.fuses := by unfold raiseIf; split <;> simp
@[simp] theorem raiseIf_store (c : Bool) (page k : Nat) (s : State) : (raiseIf c page k s).store = s.store := by unfold raiseIf; split <;> simp
@[simp] theorem raiseIf_claims (c : Bool) (page k : Nat) (s : State) : (raiseIf c page k s).claims = s.claims := by unfold raiseIf; split <;> simp
@[simp] theorem raiseIf_accepted (c : Bool) (page k : Nat) (s : State) : (raiseIf c page k s).accepted = s.accepted := by unfold raiseIf; split <;> simp
@[simp] theorem raiseIf_remote (c : Bool) (page k : Nat) (s : State) : (raiseIf c page k s).remote = s.remote := by unfold raiseIf; split <;> simp
@[simp] theorem raiseIf_semWait (c : Bool) (page k : Nat) (s : State) : (raiseIf c page k s).semWait = s.semWait := by unfold raiseIf; split <;> simp
@[simp] theorem raiseIf_fwd (c : Bool) (page k : Nat) (s : State) : (raiseIf c page k s).fwd = s.fwd := by unfold raiseIf; split <;> simp
@[simp] theorem raiseIf_ports (c : Bool) (page k : Nat) (s : State) : (raiseIf c page k s).ports = s.ports := by unfold raiseIf; split <;> simp
@[simp] theorem raiseIf_churn (c : Bool) (page k : Nat) (s : State) : (raiseIf c page k s).churn = s.churn := by unfold raiseIf; split <;> simp
@[simp] theorem raiseIf_roster (c : Bool) (page k : Nat) (s : State) : (raiseIf c page k s).roster = s.roster := by unfold raiseIf; split <;> simp
@[simp] theorem raiseIf_tcfg (c : Bool) (page k : Nat) (s : State) : (raiseIf c page k s).tcfg = s.tcfg := by unfold raiseIf; split <;> simp
@[simp] theorem raiseIf_time (c : Bool) (page k : Nat) (s : State) : (raiseIf c page k s).time = s.time := by unfold raiseIf; split <;> simp
@[simp] theorem raiseIf_tlg (c : Bool) (page k : Nat) (s : State) : (raiseIf c page k s).tlg = s.tlg := by unfold raiseIf; split <;> simp
@[simp] theorem raiseIf_mbus (c : Bool) (page k : Nat) (s : State) : (raiseIf c page k s).mbus = s.mbus := by unfold raiseIf; split <;> simp
@[simp] theorem raiseIf_sleep (c : Bool) (page k : Nat) (s : State) : (raiseIf c page k s).sleep = s.sleep := by unfold raiseIf; split <;> simp
@[simp] theorem raiseIf_load (c : Bool) (page k : Nat) (s : State) : (raiseIf c page k s).load = s.load := by unfold raiseIf; split <;> simp
@[simp] theorem raiseIf_twin (c : Bool) (page k : Nat) (s : State) : (raiseIf c page k s).twin = s.twin := by unfold raiseIf; split <;> simp
@[simp] theorem raiseIf_keys (c : Bool) (page k : Nat) (s : State) : (raiseIf c page k s).keys = s.keys := by unfold raiseIf; split <;> simp
@[simp] theorem raiseIf_rcd (c : Bool) (page k : Nat) (s : State) : (raiseIf c page k s).rcd = s.rcd := by unfold raiseIf; split <;> simp
@[simp] theorem raiseIf_rsv (c : Bool) (page k : Nat) (s : State) : (raiseIf c page k s).rsv = s.rsv := by unfold raiseIf; split <;> simp
end Sys2Proof.Machine
end

