-- ==== Sys2Proof/Laws/Memory.lean ====
section
/-! SUPPORT. Device memory: read after write, and the canonical form, which every memory operation keeps. -/

namespace Sys2Proof.Machine

/-- Every key of a table lies above k. -/
def keysAbove {α : Type} (k : Nat) (m : List (Nat × α)) : Prop := ∀ c ∈ m, k < c.1

theorem risingKeys_cons {α : Type} (k : Nat) (v : α) (m : List (Nat × α)) :
    risingKeys ((k, v) :: m) = true ↔ keysAbove k m ∧ risingKeys m = true := by
  induction m generalizing k v with
  | nil => simp [risingKeys, keysAbove]
  | cons x t ih =>
    obtain ⟨j, u⟩ := x
    simp only [risingKeys, Bool.and_eq_true, decide_eq_true_eq]
    constructor
    · rintro ⟨h1, h2⟩
      refine ⟨?_, h2⟩
      intro c hc
      rcases List.mem_cons.mp hc with rfl | hc
      · exact h1
      · exact Nat.lt_trans h1 (((ih j u).mp h2).1 c hc)
    · rintro ⟨h1, h2⟩
      exact ⟨h1 (j, u) List.mem_cons_self, h2⟩

theorem mem_eraseK {α : Type} {m : List (Nat × α)} {k : Nat} {c : Nat × α} (h : c ∈ eraseK m k) : c ∈ m := by
  induction m with
  | nil => simp [eraseK] at h
  | cons x t ih =>
    obtain ⟨j, v⟩ := x
    simp only [eraseK] at h
    split at h
    · exact List.mem_cons_of_mem _ (ih h)
    · rcases List.mem_cons.mp h with rfl | h
      · exact List.mem_cons_self
      · exact List.mem_cons_of_mem _ (ih h)

theorem mem_insertK {α : Type} {m : List (Nat × α)} {k : Nat} {v : α} {c : Nat × α} (h : c ∈ insertK m k v) : c = (k, v) ∨ c ∈ m := by
  induction m with
  | nil => simpa [insertK] using h
  | cons x t ih =>
    obtain ⟨j, u⟩ := x
    simp only [insertK] at h
    split at h
    · rcases List.mem_cons.mp h with rfl | h
      · exact .inl rfl
      · exact .inr (List.mem_cons_of_mem _ h)
    · split at h
      · rcases List.mem_cons.mp h with rfl | h
        · exact .inl rfl
        · exact .inr h
      · rcases List.mem_cons.mp h with rfl | h
        · exact .inr List.mem_cons_self
        · rcases ih h with e | h
          · exact .inl e
          · exact .inr (List.mem_cons_of_mem _ h)

theorem risingKeys_eraseK {α : Type} {m : List (Nat × α)} (k : Nat) (h : risingKeys m = true) : risingKeys (eraseK m k) = true := by
  induction m with
  | nil => simpa [eraseK] using h
  | cons x t ih =>
    obtain ⟨j, v⟩ := x
    have h' := (risingKeys_cons j v t).mp h
    simp only [eraseK]
    split
    · exact ih h'.2
    · exact (risingKeys_cons j v _).mpr ⟨fun c hc => h'.1 c (mem_eraseK hc), ih h'.2⟩

theorem risingKeys_insertK {α : Type} {m : List (Nat × α)} (k : Nat) (v : α) (h : risingKeys m = true) : risingKeys (insertK m k v) = true := by
  induction m with
  | nil => simp [insertK, risingKeys]
  | cons x t ih =>
    obtain ⟨j, u⟩ := x
    have h' := (risingKeys_cons j u t).mp h
    simp only [insertK]
    split
    · rename_i e; subst e; exact (risingKeys_cons _ v t).mpr h'
    · split
      · rename_i hne hlt
        refine (risingKeys_cons k v _).mpr ⟨?_, h⟩
        intro c hc
        rcases List.mem_cons.mp hc with rfl | hc
        · exact hlt
        · exact Nat.lt_trans hlt (h'.1 c hc)
      · rename_i hne hlt
        refine (risingKeys_cons j u _).mpr ⟨?_, ih h'.2⟩
        intro c hc
        rcases mem_insertK hc with rfl | hc
        · simp only; omega
        · exact h'.1 c hc

theorem memWrite_wf {m : List Host.Cell} (a : Nat) (b : Byte) (h : Memory.wf m = true) : Memory.wf (memWrite m a b) = true := by
  simp only [Memory.wf, Bool.and_eq_true, List.all_eq_true, decide_eq_true_eq] at *
  unfold memWrite putD
  split
  · exact ⟨risingKeys_eraseK a h.1, fun c hc => h.2 c (mem_eraseK hc)⟩
  · rename_i hb
    refine ⟨risingKeys_insertK a b h.1, fun c hc => ?_⟩
    rcases mem_insertK hc with rfl | hc
    · exact hb
    · exact h.2 c hc

/-- Every write of device memory keeps the canonical form. -/
theorem memWrites_wf (l : List Byte) {m : List Host.Cell} (a : Nat) (h : Memory.wf m = true) : Memory.wf (memWrites m a l) = true := by
  induction l generalizing m a with
  | nil => exact h
  | cons b t ih => exact ih _ (memWrite_wf a b h)

theorem bar2Write_wf {s : State} (a : Nat) (l : List Byte) (h : Memory.wf s.bar2 = true) : Memory.wf (bar2Write s a l).bar2 = true :=
  memWrites_wf l a h

theorem keysAbove_filter {α : Type} {k : Nat} {m : List (Nat × α)} (p : Nat × α → Bool) (h : keysAbove k m) : keysAbove k (m.filter p) :=
  fun c hc => h c (List.mem_of_mem_filter hc)

/-- Leaving cells out keeps the canonical form. -/
theorem filter_wf {m : List Host.Cell} (p : Host.Cell → Bool) (h : Memory.wf m = true) : Memory.wf (m.filter p) = true := by
  simp only [Memory.wf, Bool.and_eq_true, List.all_eq_true, decide_eq_true_eq] at *
  refine ⟨?_, fun c hc => h.2 c (List.mem_of_mem_filter hc)⟩
  have h1 := h.1
  clear h
  induction m with
  | nil => rfl
  | cons x t ih =>
    obtain ⟨j, v⟩ := x
    have h' := (risingKeys_cons j v t).mp h1
    by_cases e : p (j, v)
    · rw [List.filter_cons_of_pos e]
      exact (risingKeys_cons j v _).mpr ⟨keysAbove_filter p h'.1, ih h'.2⟩
    · rw [List.filter_cons_of_neg e]; exact ih h'.2

/-- A written byte reads back. -/
@[simp] theorem memRead_memWrite_same (m : List Host.Cell) (a : Nat) (b : Byte) : memRead (memWrite m a b) a = b :=
  lookupD_putD_same ..

/-- A write leaves every other byte alone. -/
theorem memRead_memWrite_other (m : List Host.Cell) {a c : Nat} (b : Byte) (h : c ≠ a) : memRead (memWrite m a b) c = memRead m c :=
  lookupD_putD_other _ _ _ _ h

/-- A write of several bytes leaves every byte outside them alone. -/
theorem memRead_memWrites_outside (l : List Byte) (m : List Host.Cell) (a : Nat) {c : Nat} (h : c < a ∨ a + l.length ≤ c) :
    memRead (memWrites m a l) c = memRead m c := by
  induction l generalizing m a with
  | nil => rfl
  | cons b t ih =>
    simp only [List.length_cons] at h
    rw [memWrites, ih _ _ (by omega), memRead_memWrite_other _ _ (by omega)]

/-- The bytes written read back in place. -/
theorem memRead_memWrites_inside (l : List Byte) (m : List Host.Cell) (a i : Nat) (h : i < l.length) :
    memRead (memWrites m a l) (a + i) = l[i] := by
  induction l generalizing m a i with
  | nil => simp at h
  | cons b t ih =>
    rw [memWrites]
    match i with
    | 0 => rw [memRead_memWrites_outside _ _ _ (by omega)]; simp
    | i + 1 =>
      have := ih (memWrite m a b) (a + 1) i (by simpa using h)
      rw [show a + (i + 1) = a + 1 + i by omega, this]; rfl

end Sys2Proof.Machine
end

