-- ==== Sys2Proof/Laws/Commands.lean ====
section
/-! SUPPORT. What the shared operations keep (Keeps: the queue, the canonical form of device memory, the life-cycle state, the ledger's entries), one lemma
per operation; and what taking a catalogue command does, said once for every row. -/

namespace Sys2Proof.Machine

/-- From s to t the queue and the life-cycle state are unchanged, device memory keeps its canonical form, and the ledger keeps its entries in place. -/
structure Keeps (s t : State) : Prop where
  pending : t.pending = s.pending
  mem : Memory.wf s.bar2 = true → Memory.wf t.bar2 = true
  lc : t.fuses.lc = s.fuses.lc
  ledger : ∃ l, t.fuses.ledger = s.fuses.ledger ++ l

theorem Keeps.refl (s : State) : Keeps s s := ⟨rfl, id, rfl, [], (List.append_nil _).symm⟩

theorem Keeps.trans {s t u : State} (h : Keeps s t) (k : Keeps t u) : Keeps s u := by
  obtain ⟨l, hl⟩ := h.ledger
  obtain ⟨m, hm⟩ := k.ledger
  exact ⟨k.pending.trans h.pending, fun w => k.mem (h.mem w), k.lc.trans h.lc, l ++ m, by rw [hm, hl, List.append_assoc]⟩

/-- An update of other fields keeps. -/
theorem Keeps.upd {s t u : State} (h : Keeps s t) (h1 : u.pending = t.pending := by rfl) (h2 : u.bar2 = t.bar2 := by rfl)
    (h3 : u.fuses = t.fuses := by rfl) : Keeps s u :=
  h.trans ⟨h1, fun w => by rw [h2]; exact w, by rw [h3], [], by rw [h3, List.append_nil]⟩

theorem Keeps.ite {s t u : State} (c : Prop) [Decidable c] (h : c → Keeps s t) (k : ¬c → Keeps s u) : Keeps s (if c then t else u) := by
  split
  · exact h ‹_›
  · exact k ‹_›

section ops
variable {s t : State}

theorem wr_keeps (h : Keeps s t) (f : Fld) (v : Nat) : Keeps s (wr t f v) := h.upd
theorem wrB_keeps (h : Keeps s t) (f : Fld) (b : Bool) : Keeps s (wrB t f b) := h.upd
theorem wrBit_keeps (h : Keeps s t) (f : Fld) (b : Nat) (v : Bool) : Keeps s (wrBit t f b v) := h.upd
theorem inc_keeps (h : Keeps s t) (f : Fld) : Keeps s (inc t f) := h.upd
theorem incBy_keeps (h : Keeps s t) (f : Fld) (n : Nat) : Keeps s (incBy t f n) := h.upd
theorem incSat_keeps (h : Keeps s t) (f : Fld) : Keeps s (incSat t f) := h.upd
theorem emit_keeps (h : Keeps s t) (o : Output) : Keeps s (emit t o) := h.upd
theorem sendFrame_keeps (h : Keeps s t) (p : Nat) (b : List Byte) : Keeps s (sendFrame t p b) := h.upd
theorem nextFree_keeps (h : Keeps s t) : Keeps s (nextFree t) := h.upd
theorem setPort_keeps (h : Keeps s t) (p : Nat) (v : PortSt) : Keeps s (setPort t p v) := h.upd
theorem setPageSt_keeps (h : Keeps s t) (p : Nat) (v : PageSt) : Keeps s (setPageSt t p v) := h.upd
theorem wrShadow_keeps (h : Keeps s t) (f : Fld) (v : Nat) : Keeps s (wrShadow t f v) := h.upd
theorem answerWake_keeps (h : Keeps s t) : Keeps s (answerWake t) := wr_keeps h ..
theorem syncCmdStat_keeps (h : Keeps s t) : Keeps s (syncCmdStat t) := wr_keeps (wr_keeps h ..) ..
theorem syncCells_keeps (h : Keeps s t) : Keeps s (syncCells t) := wr_keeps h ..
theorem syncBuf_keeps (h : Keeps s t) : Keeps s (syncBuf t) := wr_keeps h ..

theorem bar2Write_keeps (h : Keeps s t) (a : Nat) (l : List Byte) : Keeps s (bar2Write t a l) :=
  h.trans ⟨rfl, bar2Write_wf a l, rfl, [], (List.append_nil _).symm⟩

/-- A sequence of passes keeps what each of them keeps. -/
theorem forEach_keepsAll {α : Type} (h : Keeps s t) (l : List α) (f : α → State → State) (k : ∀ a u, Keeps s u → Keeps s (f a u)) :
    Keeps s (forEach l f t) := forEach_keeps (Keeps s) f k l t h

theorem whenRun_keeps (h : Keeps s t) (f : State → State) (k : Keeps s (f t)) : Keeps s (whenRun t f) := by
  unfold whenRun; exact Keeps.ite _ (fun _ => k) fun _ => h

theorem onlyIf_keeps (h : Keeps s t) (c : Bool) (f : State → State) (k : Keeps s (f t)) : Keeps s (onlyIf c f t) := by
  unfold onlyIf; exact Keeps.ite _ (fun _ => k) fun _ => h

/-! ## Events and records -/

theorem unitsSame_keeps (h : Keeps s t) {u : State} (k : UnitsSame t u) : Keeps s u := by
  unfold UnitsSame at k
  exact h.upd (by rw [k]) (by rw [k]) (by rw [k])

theorem raise_keeps (h : Keeps s t) (page k : Nat) : Keeps s (raise t page k) := unitsSame_keeps h (raise_units ..)

theorem raiseIf_keeps (h : Keeps s t) (c : Bool) (page k : Nat) : Keeps s (raiseIf c page k t) := by
  unfold raiseIf; exact Keeps.ite _ (fun _ => raise_keeps h ..) fun _ => h

theorem deliver_keeps (h : Keeps s t) (again : Bool) : Keeps s (deliver again t) :=
  unitsSame_keeps h (deliver_noise (Noise.refl [BRG_MSIX_PBA] t) (by simp) again).units

theorem cntBy_keeps (h : Keeps s t) (p k n : Nat) : Keeps s (cntBy t p k n) := by
  unfold cntBy
  have h1 := incBy_keeps h (portCtr p k) n
  exact Keeps.ite _ (fun _ => Keeps.ite _ (fun _ => raise_keeps h1 ..) fun _ => raise_keeps h1 ..) fun _ => h1

theorem cnt_keeps (h : Keeps s t) (p k : Nat) : Keeps s (cnt t p k) := cntBy_keeps h ..

theorem pushRecord_keeps (h : Keeps s t) (pos : Nat) (r : Record) : Keeps s (pushRecord t pos r) := syncBuf_keeps h.upd

theorem flushHeld_keeps (h : Keeps s t) : Keeps s (flushHeld t) := by
  unfold flushHeld
  split
  · exact h
  · rename_i pos r _
    refine Keeps.ite _ (fun _ => h) fun _ => ?_
    dsimp only
    refine Keeps.ite _ (fun _ => Keeps.ite _ (fun _ => h.upd) fun _ => h.upd) fun _ => h.upd

theorem newRecord_keeps (h : Keeps s t) (source code : Nat) (payload : List Word) (user : Bool) : Keeps s (newRecord t source code payload user) := by
  have h1 := flushHeld_keeps h
  unfold newRecord
  generalize flushHeld t = u at h1
  dsimp only
  refine Keeps.ite _ (fun _ => Keeps.ite _ (fun _ => h1.upd) fun _ => raise_keeps (inc_keeps h1 _) ..) fun _ =>
    Keeps.ite _ (fun _ => raise_keeps h1.upd ..) fun _ => ?_
  refine Keeps.ite _ (fun _ => raise_keeps h1.upd ..) fun _ => h1.upd

theorem oweLost_keeps (h : Keeps s t) : Keeps s (oweLost t) := by
  unfold oweLost
  dsimp only
  exact Keeps.ite _ (fun _ => newRecord_keeps h.upd ..) fun _ => h

theorem record_keeps (h : Keeps s t) (source code : Nat) (payload : List Word) : Keeps s (record t source code payload) := by
  unfold record
  exact Keeps.ite _ (fun _ => h.upd) fun _ => newRecord_keeps (oweLost_keeps h) ..

theorem recordEvent_keeps (h : Keeps s t) (page k code : Nat) (o : Option Nat) : Keeps s (recordEvent t page k code o) := by
  unfold recordEvent
  split
  · exact h
  · exact record_keeps h ..

theorem recordUnnamed_keeps (h : Keeps s t) (o : Option Nat) : Keeps s (recordUnnamed o t) := nextFree_keeps (record_keeps h ..)

theorem raiseRec_keeps (h : Keeps s t) (page k code : Nat) (o : Option Nat) : Keeps s (raiseRec t page k code o) :=
  recordEvent_keeps (raise_keeps h ..) ..

/-! ## Frames -/

theorem setCredit_keeps (h : Keeps s t) (p c : Nat) (v : Int) : Keeps s (setCredit t p c v) := h.upd

theorem transmit_keeps (h : Keeps s t) (p : Nat) (b : List Byte) : Keeps s (transmit p b t) := by
  unfold transmit
  have h1 := cntBy_keeps (cnt_keeps h p 18) p 19 (wireLen b)
  have h2 : Keeps s (if isGroup b then cnt (cntBy (cnt t p 18) p 19 (wireLen b)) p 20 else cntBy (cnt t p 18) p 19 (wireLen b)) :=
    Keeps.ite _ (fun _ => cnt_keeps h1 ..) fun _ => h1
  exact Keeps.ite _ (fun _ => emit_keeps h2 _) fun _ => sendFrame_keeps h2 ..

theorem startQueued_keeps (h : Keeps s t) (q : Queued) : Keeps s (startQueued q t) := by
  unfold startQueued
  refine transmit_keeps ?_ ..
  refine Keeps.ite _ (fun _ => h) fun _ => ?_
  split
  · exact h
  · exact Keeps.ite _ (fun _ => h) fun _ => setCredit_keeps h ..

theorem drainN_keeps (n p : Nat) (h : Keeps s t) : Keeps s (drainN n p t) := by
  induction n generalizing t with
  | zero => exact h
  | succ n ih =>
    unfold drainN
    split
    · exact h
    · exact ih (startQueued_keeps h.upd _)

theorem drainPort_keeps (h : Keeps s t) (p : Nat) : Keeps s (drainPort p t) := syncCells_keeps (drainN_keeps _ p h)

theorem queueOn_keeps (h : Keeps s t) (id p cls : Nat) (skim : Bool) (b : List Byte) (i q : Nat) : Keeps s (queueOn id p cls skim b i q t) := by
  unfold queueOn
  exact Keeps.ite _ (fun _ => h) fun _ => Keeps.ite _ (fun _ => cnt_keeps h ..) fun _ => drainPort_keeps (syncCells_keeps h.upd) _

theorem queueFrame_keeps (h : Keeps s t) (ports : List Nat) (cls : Nat) (skim : Bool) (f : Frm) (i : Nat) :
    Keeps s (queueFrame ports cls skim f i t) := by
  unfold queueFrame
  exact forEach_keepsAll h.upd _ _ fun _ _ k => queueOn_keeps k ..

theorem sendOwn_keeps (h : Keeps s t) (p cls : Nat) (b : List Byte) : Keeps s (sendOwn p cls b t) := by
  unfold sendOwn
  dsimp only
  exact Keeps.ite _ (fun _ => queueOn_keeps h.upd ..) fun _ => h.upd

theorem hqDrop_keeps (h : Keeps s t) (q : Nat) : Keeps s (hqDrop q t) := raise_keeps (inc_keeps h _) ..

theorem hqDeliver_keeps (h : Keeps s t) (q i : Nat) (tagged : Bool) (b : List Byte) : Keeps s (hqDeliver q i tagged b t) := by
  unfold hqDeliver
  refine Keeps.ite _ (fun _ => hqDrop_keeps h q) fun _ => ?_
  split
  · exact hqDrop_keeps h q
  · refine raise_keeps (wrBit_keeps (wr_keeps (inc_keeps (wr_keeps (wr_keeps ?_ ..) ..) _) ..) ..) ..
    have h1 := bar2Write_keeps (bar2Write_keeps h (hqBase q + ‹Nat›) b) (hqBase q + 16 * rd t (FWD_HQTAIL q))
    exact Keeps.ite _ (fun _ => wr_keeps (h1 _) ..) fun _ => h1 _

theorem sendRemote_keeps (h : Keeps s t) (e : AmapEntry) (twin : Bool) (b : List Byte) : Keeps s (sendRemote e twin b t) := by
  unfold sendRemote
  exact Keeps.ite _ (fun _ => emit_keeps h _) fun _ => sendOwn_keeps h ..

/-! ## Responses and completion records -/

theorem keepAnswer_keeps (h : Keeps s t) (a : RemAnswer) : Keeps s (keepAnswer a t) := h.upd

theorem sendAnswer_keeps (h : Keeps s t) (uid : BitVec 64) (twin : Bool) (kind status seq words page word : Nat) (data : List Byte) :
    Keeps s (sendAnswer uid twin kind status seq words page word data t) := by
  unfold sendAnswer
  split
  · exact h
  · exact sendRemote_keeps h ..

/-- What a response changes. -/
theorem respond_keeps (h : Keeps s t) (c : Cmd) (status : Nat) (res : List Byte) : Keeps s (respond c status res t) := by
  unfold respond
  split
  · rename_i n _
    refine syncCmdStat_keeps (raise_keeps (inc_keeps (wr_keeps (wr_keeps ?_ ..) ..) _) ..)
    have h1 := bar2Write_keeps h (rqBase n.val + 64 * rd t (CMD_RQTAIL n.val)) (responseBytes c (1 - rd t (NODE_RQ_PASS n.val)) status res)
    exact Keeps.ite _ (fun _ => wr_keeps h1 ..) fun _ => h1
  · exact keepAnswer_keeps (sendAnswer_keeps h ..) _
  · exact emit_keeps h _

theorem addAccepted_keeps (h : Keeps s t) (a : Accepted) : Keeps s (addAccepted a t) := syncCmdStat_keeps h.upd

/-- What a completion record changes. -/
theorem complete_keeps (h : Keeps s t) (a : Accepted) (status : Nat) (res : List Byte) : Keeps s (complete a status res t) := by
  unfold complete
  have h0 : Keeps s (syncCmdStat { t with accepted := removeFirst (fun b => decide (b = a)) t.accepted }) := syncCmdStat_keeps h.upd
  generalize syncCmdStat { t with accepted := removeFirst (fun b => decide (b = a)) t.accepted } = u at h0
  dsimp only
  refine Keeps.ite _ (fun _ => h0) fun _ => ?_
  split
  · refine raiseIf_keeps (inc_keeps (wr_keeps (wr_keeps ?_ ..) ..) _) ..
    exact Keeps.ite _ (fun _ => wr_keeps (bar2Write_keeps h0 ..) ..) fun _ => bar2Write_keeps h0 ..
  · exact sendAnswer_keeps h0 ..
  · exact emit_keeps h0 _

theorem completeObj_keeps (h : Keeps s t) (opcode : Nat) (o : CmdObj) (status : Nat) (res : List Byte) :
    Keeps s (completeObj opcode o status res t) := by
  unfold completeObj
  split
  · exact h
  · exact complete_keeps h ..

theorem completeWhere_keeps (h : Keeps s t) (p : Accepted → Bool) (status : Nat) (res : List Byte) : Keeps s (completeWhere p status res t) :=
  forEach_keepsAll h _ _ fun _ _ k => complete_keeps k ..

theorem answer_keeps (k : CmdSpec) (c : Cmd) (st : Nat) (r : Reply) (h : Keeps s r.st) : Keeps s (answer k c st r) := by
  unfold answer
  refine Keeps.ite _ (fun _ => ?_) fun _ => respond_keeps h ..
  have h1 := respond_keeps (addAccepted_keeps h (acceptedOf k c r.st)) c st []
  dsimp only
  split
  · exact h1
  · exact complete_keeps h1 ..

theorem popCmd_keeps (h : Keeps s t) (p : CmdPath) : Keeps s (popCmd p t) := by
  unfold popCmd
  split <;> exact h.upd

theorem journalCmd_keeps (h : Keeps s t) (c : Cmd) : Keeps s (journalCmd c t) := by
  unfold journalCmd
  exact Keeps.ite _ (fun _ => h.upd) fun _ => h

theorem answersFalseWake_keeps (h : Keeps s t) (k : CmdSpec) (c : Cmd) : Keeps s (answersFalseWake k c t) := by
  unfold answersFalseWake
  exact Keeps.ite _ (fun _ => answerWake_keeps h) fun _ => h

theorem startOf_keeps (h : Keeps s t) (k : CmdSpec) (tk : Take) (c : Cmd) : Keeps s (startOf k tk c t) :=
  answersFalseWake_keeps (journalCmd_keeps (popCmd_keeps h _) c) k c

end ops

/-! ## Taking a catalogue command -/

/-- Every catalogue row's meaning is the taking of a command as that row. -/
theorem exec_spec {i : Instr} {k : CmdSpec} {t : Take} (h : specOf i = some (k, t)) (s : State) : exec i s = .next (takeState k t s) := by
  cases i <;> cases h <;> rfl

/-- A row whose own run keeps is kept by its taking, whichever check it fails. -/
theorem takeState_keeps (k : CmdSpec) (t : Take) (s : State) (h : ∀ c, Keeps s (k.run c (startOf k t c s)).st) : Keeps s (takeState k t s) := by
  have h0 := Keeps.refl s
  unfold takeState
  refine Keeps.ite _ (fun _ => h0) fun _ => ?_
  split
  · exact h0
  · refine Keeps.ite _ (fun _ => h0) fun _ => ?_
    split
    · exact respond_keeps (popCmd_keeps h0 _) ..
    · refine Keeps.ite _ (fun _ => h0) fun _ => ?_
      split
      · exact respond_keeps (popCmd_keeps h0 _) ..
      · dsimp only
        split
        · exact h _
        · exact answer_keeps _ _ _ _ (h _)

/-- A command that passes every check runs in startOf and answers as its run says. -/
theorem takeState_taken {k : CmdSpec} {t : Take} {s : State} {c : Cmd} (h : Taken k t s c) :
    takeState k t s = match (k.run c (startOf k t c s)).status with
      | none => (k.run c (startOf k t c s)).st
      | some st => answer k c st (k.run c (startOf k t c s)) := by
  have h1 : ¬ (s.phase ≠ .running ∧ s.phase ≠ .halted) := by rcases h.serves with e | e <;> simp [e]
  unfold takeState
  rw [if_neg h1]
  simp only [h.head, h.ready, h.first, h.row, h.later, startOf, reduceCtorEq, ne_eq, not_true_eq_false, if_false]
  all_goals (cases (k.run c (answersFalseWake k c (journalCmd c (popCmd t.path s)))).status <;> rfl)

/-- A taken command that gives a status other than ACCEPTED posts it with its results, on the state that its run leaves. -/
theorem exec_answers {i : Instr} {k : CmdSpec} {t : Take} {s : State} {c : Cmd} {st : Nat} (hi : specOf i = some (k, t)) (h : Taken k t s c)
    (hs : (k.run c (startOf k t c s)).status = some st) (hn : st ≠ stACCEPTED) :
    exec i s = .next (respond c st (k.run c (startOf k t c s)).res (k.run c (startOf k t c s)).st) := by
  rw [exec_spec hi, takeState_taken h, hs]
  simp [answer, hn]

/-- A taken command that is accepted and has not ended joins the outstanding commands. -/
theorem exec_accepts {i : Instr} {k : CmdSpec} {t : Take} {s : State} {c : Cmd} (hi : specOf i = some (k, t)) (h : Taken k t s c)
    (hs : (k.run c (startOf k t c s)).status = some stACCEPTED) (hd : (k.run c (startOf k t c s)).done = none) :
    exec i s = .next (respond c stACCEPTED []
      (addAccepted (acceptedOf k c (k.run c (startOf k t c s)).st) (k.run c (startOf k t c s)).st)) := by
  rw [exec_spec hi, takeState_taken h, hs]
  simp [answer, hd]

/-- A command that fails one of the first checks is answered with that status; none of its effect happens (R135). -/
theorem exec_firstCheck {i : Instr} {k : CmdSpec} {t : Take} {s : State} {c : Cmd} {st : Nat} (hi : specOf i = some (k, t))
    (hp : s.phase = .running ∨ s.phase = .halted) (hh : headCmd s t.path = some c) (hr : readyCmd s c = true) (hf : firstChecks t c = some st) :
    exec i s = .next (respond c st [] (popCmd t.path s)) := by
  have h1 : ¬ (s.phase ≠ .running ∧ s.phase ≠ .halted) := by rcases hp with e | e <;> simp [e]
  rw [exec_spec hi]
  unfold takeState
  rw [if_neg h1]
  simp [hh, hr, hf]

/-- A command that fails one of the later checks is answered with that status; none of its effect happens (R139, R142, R148). -/
theorem exec_laterCheck {i : Instr} {k : CmdSpec} {t : Take} {s : State} {c : Cmd} {st : Nat} (hi : specOf i = some (k, t))
    (hp : s.phase = .running ∨ s.phase = .halted) (hh : headCmd s t.path = some c) (hr : readyCmd s c = true) (hf : firstChecks t c = none)
    (ho : c.opcode = k.opcode) (hl : laterChecks k c s = some st) : exec i s = .next (respond c st [] (popCmd t.path s)) := by
  have h1 : ¬ (s.phase ≠ .running ∧ s.phase ≠ .halted) := by rcases hp with e | e <;> simp [e]
  rw [exec_spec hi]
  unfold takeState
  rw [if_neg h1]
  simp [hh, hr, hf, ho, hl]

end Sys2Proof.Machine
end

