-- ==== Sys2Proof/Laws/PerInstr.lean ====
section
/-! SUPPORT. The family CatalogueFamily: every command that stands for a row of the command catalogue has an opcode of R150 to R167, of a group that has a
bit in the protection map (R135), and is well formed whatever its take holds. -/

namespace Sys2Proof.Laws.CatalogueFamily

open Sys2Proof.Machine

/-- A catalogue row's opcode is known, its group one of the 17, and the row is well formed whatever its take holds. -/
def fits (i : Instr) (k : CmdSpec) : Bool := knownOpcode k.opcode && decide (1 ≤ k.opcode / 256) && decide (k.opcode / 256 ≤ 17) && wellFormed i

/-- Where a command stands for a row of the catalogue, the row fits it. -/
def Statement (i : Instr) : Prop := ∀ k t, specOf i = some (k, t) → fits i k = true

/-- A command that stands for row k. -/
theorem ofRow {i : Instr} {k : CmdSpec} {t : Take} (h : specOf i = some (k, t)) (f : fits i k = true) : Statement i := by
  intro k' t' h'
  rw [h] at h'
  cases h'
  exact f

/-- A command that stands for no row of the catalogue. -/
theorem ofNone {i : Instr} (h : specOf i = none) : Statement i := by
  intro k t h'
  rw [h] at h'
  cases h'

theorem powerOn : Statement .powerOn := ofNone rfl
theorem railOutOfRange : Statement .railOutOfRange := ofNone rfl
theorem vparkFall : Statement .vparkFall := ofNone rfl
theorem rstNAssert : Statement .rstNAssert := ofNone rfl
theorem nodeResetCmdDelay : Statement .nodeResetCmdDelay := ofNone rfl
theorem perstNAssert : Statement .perstNAssert := ofNone rfl
theorem pcieLinkChange : ∀ a0 a1 a2, Statement (.pcieLinkChange a0 a1 a2) := fun _ _ _ => ofNone rfl
theorem trstNAssert : Statement .trstNAssert := ofNone rfl
theorem boot : ∀ a0, Statement (.boot a0) := fun _ => ofNone rfl
theorem refQualify : ∀ a0 a1, Statement (.refQualify a0 a1) := fun _ _ => ofNone rfl
theorem refSelectTimeout : Statement .refSelectTimeout := ofNone rfl
theorem refLoss : Statement .refLoss := ofNone rfl
theorem refFailoverDone : Statement .refFailoverDone := ofNone rfl
theorem holdoverExpiry : Statement .holdoverExpiry := ofNone rfl
theorem vhvReturn : ∀ a0, Statement (.vhvReturn a0) := fun _ => ofNone rfl
theorem internalLinkFrame : ∀ a0, Statement (.internalLinkFrame a0) := fun _ => ofNone rfl
theorem internalLinkTimeout : Statement .internalLinkTimeout := ofNone rfl
theorem nodeAliveStop : Statement .nodeAliveStop := ofNone rfl
theorem lineDieTimeout : Statement .lineDieTimeout := ofNone rfl
theorem lockstepMismatch : ∀ a0 a1, Statement (.lockstepMismatch a0 a1) := fun _ _ => ofNone rfl
theorem tempHigh : Statement .tempHigh := ofNone rfl
theorem overtempShutdown : Statement .overtempShutdown := ofNone rfl
theorem pageScrub : Statement .pageScrub := ofNone rfl
theorem parkCommandInstant : Statement .parkCommandInstant := ofNone rfl
theorem parkLatchCheck : Statement .parkLatchCheck := ofNone rfl
theorem wakeInPark : ∀ a0, Statement (.wakeInPark a0) := fun _ => ofNone rfl
theorem railEnReassert : Statement .railEnReassert := ofNone rfl
theorem registerWrite : ∀ a0, Statement (.registerWrite a0) := fun _ => ofNone rfl
theorem registerReadLatch : ∀ a0, Statement (.registerReadLatch a0) := fun _ => ofNone rfl
theorem counterReadClear : ∀ a0 a1 a2, Statement (.counterReadClear a0 a1 a2) := fun _ _ _ => ofNone rfl
theorem pageEnWrite : ∀ a0 a1 a2, Statement (.pageEnWrite a0 a1 a2) := fun _ _ _ => ofNone rfl
theorem blockStartComplete : ∀ a0, Statement (.blockStartComplete a0) := fun _ => ofNone rfl
theorem blockStopComplete : ∀ a0, Statement (.blockStopComplete a0) := fun _ => ofNone rfl
theorem blkRst : ∀ a0 a1, Statement (.blkRst a0 a1) := fun _ _ => ofNone rfl
theorem lockWrite : ∀ a0 a1 a2, Statement (.lockWrite a0 a1 a2) := fun _ _ _ => ofNone rfl
theorem shadowCommit : ∀ a0 a1, Statement (.shadowCommit a0 a1) := fun _ _ => ofNone rfl
theorem shadowDiscard : ∀ a0 a1, Statement (.shadowDiscard a0 a1) := fun _ _ => ofNone rfl
theorem evPendClear : ∀ a0 a1 a2, Statement (.evPendClear a0 a1 a2) := fun _ _ _ => ofNone rfl
theorem evEnWrite : ∀ a0 a1 a2, Statement (.evEnWrite a0 a1 a2) := fun _ _ _ => ofNone rfl
theorem evRouteWrite : ∀ a0 a1 a2, Statement (.evRouteWrite a0 a1 a2) := fun _ _ _ => ofNone rfl
theorem evcSwset : ∀ a0 a1, Statement (.evcSwset a0 a1) := fun _ _ => ofNone rfl
theorem evcSwpendClear : ∀ a0 a1, Statement (.evcSwpendClear a0 a1) := fun _ _ => ofNone rfl
theorem evcSwenWrite : ∀ a0 a1 a2, Statement (.evcSwenWrite a0 a1 a2) := fun _ _ _ => ofNone rfl
theorem evcLmapWrite : ∀ a0 a1 a2, Statement (.evcLmapWrite a0 a1 a2) := fun _ _ _ => ofNone rfl
theorem evcFaultClear : ∀ a0, Statement (.evcFaultClear a0) := fun _ => ofNone rfl
theorem devRstcauseClear : ∀ a0 a1, Statement (.devRstcauseClear a0 a1) := fun _ _ => ofNone rfl
theorem atomicOp : ∀ a0, Statement (.atomicOp a0) := fun _ => ofNone rfl
theorem lockedRead : Statement .lockedRead := ofNone rfl
theorem brgSemAcquire : ∀ a0 a1 a2, Statement (.brgSemAcquire a0 a1 a2) := fun _ _ _ => ofNone rfl
theorem brgSemRelease : ∀ a0 a1, Statement (.brgSemRelease a0 a1) := fun _ _ => ofNone rfl
theorem semHoldTimeout : ∀ a0, Statement (.semHoldTimeout a0) := fun _ => ofNone rfl
theorem atomicSemTimeout : ∀ a0, Statement (.atomicSemTimeout a0) := fun _ => ofNone rfl
theorem brgRwinTgtWrite : ∀ a0 a1 a2, Statement (.brgRwinTgtWrite a0 a1 a2) := fun _ _ _ => ofNone rfl
theorem remoteApertureWrite : ∀ a0 a1 a2 a3, Statement (.remoteApertureWrite a0 a1 a2 a3) := fun _ _ _ _ => ofNone rfl
theorem remoteApertureRead : ∀ a0 a1 a2, Statement (.remoteApertureRead a0 a1 a2) := fun _ _ _ => ofNone rfl
theorem remoteFrameSend : ∀ a0, Statement (.remoteFrameSend a0) := fun _ => ofNone rfl
theorem remoteRetransmit : ∀ a0, Statement (.remoteRetransmit a0) := fun _ => ofNone rfl
theorem remoteSendTimeout : ∀ a0, Statement (.remoteSendTimeout a0) := fun _ => ofNone rfl
theorem remoteReadTimeout : ∀ a0, Statement (.remoteReadTimeout a0) := fun _ => ofNone rfl
theorem writeAckRx : ∀ a0, Statement (.writeAckRx a0) := fun _ => ofNone rfl
theorem readReplyRx : ∀ a0, Statement (.readReplyRx a0) := fun _ => ofNone rfl
theorem remoteWriteRx : ∀ a0, Statement (.remoteWriteRx a0) := fun _ => ofNone rfl
theorem remoteReadRx : ∀ a0, Statement (.remoteReadRx a0) := fun _ => ofNone rfl
theorem remoteCommandRx : ∀ a0 a1, Statement (.remoteCommandRx a0 a1) := fun _ _ => ofNone rfl
theorem remoteResponseRx : ∀ a0, Statement (.remoteResponseRx a0) := fun _ => ofNone rfl
theorem remoteCompletionRx : ∀ a0 a1, Statement (.remoteCompletionRx a0 a1) := fun _ _ => ofNone rfl
theorem brgFqheadWrite : ∀ a0 a1, Statement (.brgFqheadWrite a0 a1) := fun _ _ => ofNone rfl
theorem brgRcdbDoorbell : ∀ a0 a1 a2, Statement (.brgRcdbDoorbell a0 a1 a2) := fun _ _ _ => ofNone rfl
theorem brgRrheadWrite : ∀ a0 a1 a2, Statement (.brgRrheadWrite a0 a1 a2) := fun _ _ _ => ofNone rfl
theorem cmdSqtailDoorbell : ∀ a0 a1 a2, Statement (.cmdSqtailDoorbell a0 a1 a2) := fun _ _ _ => ofNone rfl
theorem cmdRqheadWrite : ∀ a0 a1 a2, Statement (.cmdRqheadWrite a0 a1 a2) := fun _ _ _ => ofNone rfl
theorem cmdCrheadWrite : ∀ a0 a1, Statement (.cmdCrheadWrite a0 a1) := fun _ _ => ofNone rfl
theorem nop : ∀ a0, Statement (.nop a0) := fun _ => ofRow rfl rfl
theorem devInfo : ∀ a0, Statement (.devInfo a0) := fun _ => ofRow rfl rfl
theorem devStatus : ∀ a0, Statement (.devStatus a0) := fun _ => ofRow rfl rfl
theorem devReset : ∀ a0, Statement (.devReset a0) := fun _ => ofRow rfl rfl
theorem cfgImageLoad : ∀ a0, Statement (.cfgImageLoad a0) := fun _ => ofRow rfl rfl
theorem cfgImageLoadDone : ∀ a0 a1, Statement (.cfgImageLoadDone a0 a1) := fun _ _ => ofNone rfl
theorem cfgImageActivate : ∀ a0, Statement (.cfgImageActivate a0) := fun _ => ofRow rfl rfl
theorem cfgCommit : ∀ a0, Statement (.cfgCommit a0) := fun _ => ofRow rfl rfl
theorem cfgInfo : ∀ a0, Statement (.cfgInfo a0) := fun _ => ofRow rfl rfl
theorem portSet : ∀ a0, Statement (.portSet a0) := fun _ => ofRow rfl rfl
theorem portSetDone : ∀ a0, Statement (.portSetDone a0) := fun _ => ofNone rfl
theorem portStatus : ∀ a0, Statement (.portStatus a0) := fun _ => ofRow rfl rfl
theorem portCntSnap : ∀ a0, Statement (.portCntSnap a0) := fun _ => ofRow rfl rfl
theorem portMdio : ∀ a0 a1, Statement (.portMdio a0 a1) := fun _ _ => ofRow rfl (show fits _ (portMdioSpec _) = true by simp [fits, portMdioSpec, CmdSpec.sync, knownOpcode, wellFormed])
theorem fdbSet : ∀ a0, Statement (.fdbSet a0) := fun _ => ofRow rfl rfl
theorem sepRuleSet : ∀ a0, Statement (.sepRuleSet a0) := fun _ => ofRow rfl rfl
theorem streamSet : ∀ a0, Statement (.streamSet a0) := fun _ => ofRow rfl rfl
theorem gclLoad : ∀ a0, Statement (.gclLoad a0) := fun _ => ofRow rfl rfl
theorem gclTakesForce : ∀ a0, Statement (.gclTakesForce a0) := fun _ => ofNone rfl
theorem gateChange : ∀ a0, Statement (.gateChange a0) := fun _ => ofNone rfl
theorem fwdBankCopy : ∀ a0, Statement (.fwdBankCopy a0) := fun _ => ofRow rfl rfl
theorem churnStart : ∀ a0, Statement (.churnStart a0) := fun _ => ofRow rfl rfl
theorem churnSetLead : ∀ a0, Statement (.churnSetLead a0) := fun _ => ofRow rfl rfl
theorem churnMode : ∀ a0, Statement (.churnMode a0) := fun _ => ofRow rfl rfl
theorem curdRead : ∀ a0, Statement (.curdRead a0) := fun _ => ofRow rfl rfl
theorem timeStatus : ∀ a0, Statement (.timeStatus a0) := fun _ => ofRow rfl rfl
theorem timeSelect : ∀ a0, Statement (.timeSelect a0) := fun _ => ofRow rfl rfl
theorem cmpArm : ∀ a0, Statement (.cmpArm a0) := fun _ => ofRow rfl rfl
theorem cmpDisarm : ∀ a0, Statement (.cmpDisarm a0) := fun _ => ofRow rfl rfl
theorem capRead : ∀ a0, Statement (.capRead a0) := fun _ => ofRow rfl rfl
theorem pubSet : ∀ a0, Statement (.pubSet a0) := fun _ => ofRow rfl rfl
theorem subSet : ∀ a0, Statement (.subSet a0) := fun _ => ofRow rfl rfl
theorem tlgEnable : ∀ a0, Statement (.tlgEnable a0) := fun _ => ofRow rfl rfl
theorem routeSet : ∀ a0, Statement (.routeSet a0) := fun _ => ofRow rfl rfl
theorem tlgStatus : ∀ a0, Statement (.tlgStatus a0) := fun _ => ofRow rfl rfl
theorem mbTiming : ∀ a0, Statement (.mbTiming a0) := fun _ => ofRow rfl rfl
theorem mbObjSet : ∀ a0 a1, Statement (.mbObjSet a0 a1) := fun _ _ => ofRow rfl (show fits _ (mbObjSetSpec _) = true by simp [fits, mbObjSetSpec, CmdSpec.sync, knownOpcode, wellFormed])
theorem mbSchedLoad : ∀ a0, Statement (.mbSchedLoad a0) := fun _ => ofRow rfl rfl
theorem mbCancel : ∀ a0 a1, Statement (.mbCancel a0 a1) := fun _ _ => ofRow rfl (show fits _ (mbCancelSpec _) = true by simp [fits, mbCancelSpec, CmdSpec.sync, knownOpcode, wellFormed])
theorem mbClashRearm : ∀ a0, Statement (.mbClashRearm a0) := fun _ => ofRow rfl rfl
theorem mbStatus : ∀ a0, Statement (.mbStatus a0) := fun _ => ofRow rfl rfl
theorem sleepConsent : ∀ a0, Statement (.sleepConsent a0) := fun _ => ofRow rfl rfl
theorem sleepOrder : ∀ a0, Statement (.sleepOrder a0) := fun _ => ofRow rfl rfl
theorem sleepPark : ∀ a0, Statement (.sleepPark a0) := fun _ => ofRow rfl rfl
theorem sleepTimes : ∀ a0, Statement (.sleepTimes a0) := fun _ => ofRow rfl rfl
theorem xcvrSet : ∀ a0, Statement (.xcvrSet a0) := fun _ => ofRow rfl rfl
theorem sleepStatus : ∀ a0, Statement (.sleepStatus a0) := fun _ => ofRow rfl rfl
theorem lchSet : ∀ a0, Statement (.lchSet a0) := fun _ => ofRow rfl rfl
theorem lchConfig : ∀ a0, Statement (.lchConfig a0) := fun _ => ofRow rfl rfl
theorem lchProfile : ∀ a0, Statement (.lchProfile a0) := fun _ => ofRow rfl rfl
theorem lchClear : ∀ a0, Statement (.lchClear a0) := fun _ => ofRow rfl rfl
theorem lchFwTest : ∀ a0, Statement (.lchFwTest a0) := fun _ => ofRow rfl rfl
theorem lchStatus : ∀ a0, Statement (.lchStatus a0) := fun _ => ofRow rfl rfl
theorem isnsSelect : ∀ a0, Statement (.isnsSelect a0) := fun _ => ofRow rfl rfl
theorem twinStatus : ∀ a0, Statement (.twinStatus a0) := fun _ => ofRow rfl rfl
theorem swapDrill : ∀ a0, Statement (.swapDrill a0) := fun _ => ofRow rfl rfl
theorem twinRejoin : ∀ a0 a1, Statement (.twinRejoin a0 a1) := fun _ _ => ofRow rfl (show fits _ (twinRejoinSpec _) = true by simp [fits, twinRejoinSpec, CmdSpec.sync, knownOpcode, wellFormed])
theorem twinFence : ∀ a0, Statement (.twinFence a0) := fun _ => ofRow rfl rfl
theorem drillPeriod : ∀ a0, Statement (.drillPeriod a0) := fun _ => ofRow rfl rfl
theorem keyDerive : ∀ a0, Statement (.keyDerive a0) := fun _ => ofRow rfl rfl
theorem keyInvalidate : ∀ a0, Statement (.keyInvalidate a0) := fun _ => ofRow rfl rfl
theorem keyStatus : ∀ a0, Statement (.keyStatus a0) := fun _ => ofRow rfl rfl
theorem lcAdvance : ∀ a0, Statement (.lcAdvance a0) := fun _ => ofRow rfl rfl
theorem lcAdvanceDone : ∀ a0, Statement (.lcAdvanceDone a0) := fun _ => ofNone rfl
theorem attSign : ∀ a0, Statement (.attSign a0) := fun _ => ofRow rfl rfl
theorem attSignDone : Statement .attSignDone := ofNone rfl
theorem attRead : ∀ a0, Statement (.attRead a0) := fun _ => ofRow rfl rfl
theorem recRead : ∀ a0, Statement (.recRead a0) := fun _ => ofRow rfl rfl
theorem recExport : ∀ a0, Statement (.recExport a0) := fun _ => ofRow rfl rfl
theorem recExportDone : Statement .recExportDone := ofNone rfl
theorem recUser : ∀ a0, Statement (.recUser a0) := fun _ => ofRow rfl rfl
theorem recStatus : ∀ a0, Statement (.recStatus a0) := fun _ => ofRow rfl rfl
theorem rsvStatus : ∀ a0, Statement (.rsvStatus a0) := fun _ => ofRow rfl rfl
theorem rsvLedger : ∀ a0, Statement (.rsvLedger a0) := fun _ => ofRow rfl rfl
theorem rsvSchedule : ∀ a0, Statement (.rsvSchedule a0) := fun _ => ofRow rfl rfl
theorem remoteSync : ∀ a0, Statement (.remoteSync a0) := fun _ => ofRow rfl rfl
theorem remoteSyncDone : ∀ a0, Statement (.remoteSyncDone a0) := fun _ => ofNone rfl
theorem remoteStatus : ∀ a0, Statement (.remoteStatus a0) := fun _ => ofRow rfl rfl
theorem resClaim : ∀ a0, Statement (.resClaim a0) := fun _ => ofRow rfl rfl
theorem resRelease : ∀ a0, Statement (.resRelease a0) := fun _ => ofRow rfl rfl
theorem resQuery : ∀ a0, Statement (.resQuery a0) := fun _ => ofRow rfl rfl
theorem linkUp : ∀ a0 a1, Statement (.linkUp a0 a1) := fun _ _ => ofNone rfl
theorem linkDown : ∀ a0 a1, Statement (.linkDown a0 a1) := fun _ _ => ofNone rfl
theorem phyPoll : ∀ a0 a1, Statement (.phyPoll a0 a1) := fun _ _ => ofNone rfl
theorem tLaneLoss : ∀ a0, Statement (.tLaneLoss a0) := fun _ => ofNone rfl
theorem frameRx : ∀ a0 a1, Statement (.frameRx a0 a1) := fun _ _ => ofNone rfl
theorem pauseRx : ∀ a0 a1, Statement (.pauseRx a0 a1) := fun _ _ => ofNone rfl
theorem pfcRx : ∀ a0 a1 a2, Statement (.pfcRx a0 a1 a2) := fun _ _ _ => ofNone rfl
theorem pauseTimerExpiry : ∀ a0 a1, Statement (.pauseTimerExpiry a0 a1) := fun _ _ => ofNone rfl
theorem flowControlXoff : ∀ a0 a1, Statement (.flowControlXoff a0 a1) := fun _ _ => ofNone rfl
theorem flowControlRefresh : ∀ a0 a1, Statement (.flowControlRefresh a0 a1) := fun _ _ => ofNone rfl
theorem flowControlXon : ∀ a0 a1, Statement (.flowControlXon a0 a1) := fun _ _ => ofNone rfl
theorem verifyMpacketRx : ∀ a0 a1, Statement (.verifyMpacketRx a0 a1) := fun _ _ => ofNone rfl
theorem verifyTimeout : ∀ a0, Statement (.verifyTimeout a0) := fun _ => ofNone rfl
theorem fdbAgeExpiry : ∀ a0 a1, Statement (.fdbAgeExpiry a0 a1) := fun _ _ => ofNone rfl
theorem bankCopyDone : Statement .bankCopyDone := ofNone rfl
theorem macsecOldAnExpiry : ∀ a0, Statement (.macsecOldAnExpiry a0) := fun _ => ofNone rfl
theorem recoveryReset : ∀ a0, Statement (.recoveryReset a0) := fun _ => ofNone rfl
theorem latentTestEnd : ∀ a0, Statement (.latentTestEnd a0) := fun _ => ofNone rfl
theorem fwdHqheadWrite : ∀ a0 a1 a2, Statement (.fwdHqheadWrite a0 a1 a2) := fun _ _ _ => ofNone rfl
theorem fwdHttailDoorbell : ∀ a0 a1 a2, Statement (.fwdHttailDoorbell a0 a1 a2) := fun _ _ _ => ofNone rfl
theorem hostTxTake : ∀ a0 a1, Statement (.hostTxTake a0 a1) := fun _ _ => ofNone rfl
theorem frerSelWrite : ∀ a0 a1, Statement (.frerSelWrite a0 a1) := fun _ _ => ofNone rfl
theorem cplChange : ∀ a0 a1 a2, Statement (.cplChange a0 a1 a2) := fun _ _ _ => ofNone rfl
theorem callRx : ∀ a0 a1 a2, Statement (.callRx a0 a1 a2) := fun _ _ _ => ofNone rfl
theorem noPeerTimeout : ∀ a0, Statement (.noPeerTimeout a0) := fun _ => ofNone rfl
theorem churnBeat : ∀ a0, Statement (.churnBeat a0) := fun _ => ofNone rfl
theorem surveyRx : ∀ a0 a1 a2, Statement (.surveyRx a0 a1 a2) := fun _ _ _ => ofNone rfl
theorem partnerListRx : ∀ a0, Statement (.partnerListRx a0) := fun _ => ofNone rfl
theorem agreeRx : ∀ a0 a1 a2, Statement (.agreeRx a0 a1 a2) := fun _ _ _ => ofNone rfl
theorem commitRx : ∀ a0 a1 a2, Statement (.commitRx a0 a1 a2) := fun _ _ _ => ofNone rfl
theorem attemptTimeout : Statement .attemptTimeout := ofNone rfl
theorem commitInstant : Statement .commitInstant := ofNone rfl
theorem splitRetryExpiry : Statement .splitRetryExpiry := ofNone rfl
theorem ttdpHelloRx : ∀ a0 a1, Statement (.ttdpHelloRx a0 a1) := fun _ _ => ofNone rfl
theorem ttdpTopologyRx : ∀ a0, Statement (.ttdpTopologyRx a0) := fun _ => ofNone rfl
theorem ttdpCommit : ∀ a0, Statement (.ttdpCommit a0) := fun _ => ofNone rfl
theorem arpRequestRx : ∀ a0 a1 a2 a3, Statement (.arpRequestRx a0 a1 a2 a3) := fun _ _ _ _ => ofNone rfl
theorem tcfgSend : Statement .tcfgSend := ofNone rfl
theorem tcfgRx : ∀ a0 a1, Statement (.tcfgRx a0 a1) := fun _ _ => ofNone rfl
theorem tcfgSegmentTimeout : Statement .tcfgSegmentTimeout := ofNone rfl
theorem tcfgChurnDelay : Statement .tcfgChurnDelay := ofNone rfl
theorem keyChangeChurnDelay : Statement .keyChangeChurnDelay := ofNone rfl
theorem workerHelloRx : ∀ a0, Statement (.workerHelloRx a0) := fun _ => ofNone rfl
theorem workerAckRx : ∀ a0, Statement (.workerAckRx a0) := fun _ => ofNone rfl
theorem assignRetry : ∀ a0, Statement (.assignRetry a0) := fun _ => ofNone rfl
theorem rosterBeatTimeout : ∀ a0, Statement (.rosterBeatTimeout a0) := fun _ => ofNone rfl
theorem rosterHoldExpiry : ∀ a0, Statement (.rosterHoldExpiry a0) := fun _ => ofNone rfl
theorem syncRx : ∀ a0 a1 a2, Statement (.syncRx a0 a1 a2) := fun _ _ _ => ofNone rfl
theorem announceRx : ∀ a0 a1 a2, Statement (.announceRx a0 a1 a2) := fun _ _ _ => ofNone rfl
theorem syncInterval : ∀ a0 a1, Statement (.syncInterval a0 a1) := fun _ _ => ofNone rfl
theorem pdelayExchange : ∀ a0 a1 a2, Statement (.pdelayExchange a0 a1 a2) := fun _ _ _ => ofNone rfl
theorem syncReceiptTimeout : ∀ a0, Statement (.syncReceiptTimeout a0) := fun _ => ofNone rfl
theorem announceReceiptTimeout : ∀ a0 a1, Statement (.announceReceiptTimeout a0 a1) := fun _ _ => ofNone rfl
theorem revertTimerExpiry : Statement .revertTimerExpiry := ofNone rfl
theorem slewDone : Statement .slewDone := ofNone rfl
theorem ppsEdge : ∀ a0 a1, Statement (.ppsEdge a0 a1) := fun _ _ => ofNone rfl
theorem timeGmSecWrite : ∀ a0 a1, Statement (.timeGmSecWrite a0 a1) := fun _ _ => ofNone rfl
theorem twinSkewMeasure : ∀ a0, Statement (.twinSkewMeasure a0) := fun _ => ofNone rfl
theorem cmpHeldArm : ∀ a0, Statement (.cmpHeldArm a0) := fun _ => ofNone rfl
theorem cmpFire : ∀ a0, Statement (.cmpFire a0) := fun _ => ofNone rfl
theorem captureEdge : ∀ a0 a1, Statement (.captureEdge a0 a1) := fun _ _ => ofNone rfl
theorem tlgPubdbWrite : ∀ a0 a1 a2, Statement (.tlgPubdbWrite a0 a1 a2) := fun _ _ _ => ofNone rfl
theorem tlgClaimWrite : ∀ a0 a1 a2, Statement (.tlgClaimWrite a0 a1 a2) := fun _ _ _ => ofNone rfl
theorem telegramRx : ∀ a0 a1, Statement (.telegramRx a0 a1) := fun _ _ => ofNone rfl
theorem subscriptionTimeout : ∀ a0, Statement (.subscriptionTimeout a0) := fun _ => ofNone rfl
theorem canFrameRx : ∀ a0 a1, Statement (.canFrameRx a0 a1) := fun _ _ => ofNone rfl
theorem canTxEnd : ∀ a0 a1, Statement (.canTxEnd a0 a1) := fun _ _ => ofNone rfl
theorem busOffRecoveryDone : ∀ a0, Statement (.busOffRecoveryDone a0) := fun _ => ofNone rfl
theorem canIntegrated : ∀ a0, Statement (.canIntegrated a0) := fun _ => ofNone rfl
theorem mbusTxdbDoorbell : ∀ a0 a1 a2 a3, Statement (.mbusTxdbDoorbell a0 a1 a2 a3) := fun _ _ _ _ => ofNone rfl
theorem mbusTxidWrite : ∀ a0 a1 a2, Statement (.mbusTxidWrite a0 a1 a2) := fun _ _ _ => ofNone rfl
theorem mbusRecoverWrite : ∀ a0 a1 a2, Statement (.mbusRecoverWrite a0 a1 a2) := fun _ _ _ => ofNone rfl
theorem mbusQheadWrite : ∀ a0 a1 a2 a3, Statement (.mbusQheadWrite a0 a1 a2 a3) := fun _ _ _ _ => ofNone rfl
theorem mbwFlagClear : ∀ a0 a1 a2 a3, Statement (.mbwFlagClear a0 a1 a2 a3) := fun _ _ _ _ => ofNone rfl
theorem schedWindowOpen : ∀ a0 a1, Statement (.schedWindowOpen a0 a1) := fun _ _ => ofNone rfl
theorem schedWindowEnd : ∀ a0 a1 a2, Statement (.schedWindowEnd a0 a1 a2) := fun _ _ _ => ofNone rfl
theorem txdDominantTimeout : ∀ a0, Statement (.txdDominantTimeout a0) := fun _ => ofNone rfl
theorem busDominantTimeout : ∀ a0, Statement (.busDominantTimeout a0) := fun _ => ofNone rfl
theorem xcvrOvertemp : ∀ a0, Statement (.xcvrOvertemp a0) := fun _ => ofNone rfl
theorem vcanLow : Statement .vcanLow := ofNone rfl
theorem canTakeoverUngate : ∀ a0, Statement (.canTakeoverUngate a0) := fun _ => ofNone rfl
theorem canWake : ∀ a0, Statement (.canWake a0) := fun _ => ofNone rfl
theorem tokenRx : ∀ a0, Statement (.tokenRx a0) := fun _ => ofNone rfl
theorem orderRx : ∀ a0, Statement (.orderRx a0) := fun _ => ofNone rfl
theorem abortRx : ∀ a0, Statement (.abortRx a0) := fun _ => ofNone rfl
theorem ringRound : Statement .ringRound := ofNone rfl
theorem roundReturn : ∀ a0, Statement (.roundReturn a0) := fun _ => ofNone rfl
theorem roundLost : Statement .roundLost := ofNone rfl
theorem awakeTimerExpiry : Statement .awakeTimerExpiry := ofNone rfl
theorem sleepCommitInstant : Statement .sleepCommitInstant := ofNone rfl
theorem wakeRequest : ∀ a0, Statement (.wakeRequest a0) := fun _ => ofNone rfl
theorem falseWakeExpiry : Statement .falseWakeExpiry := ofNone rfl
theorem tlPulseWrite : ∀ a0, Statement (.tlPulseWrite a0) := fun _ => ofNone rfl
theorem tlPulseEnd : Statement .tlPulseEnd := ofNone rfl
theorem busRingRound : ∀ a0, Statement (.busRingRound a0) := fun _ => ofNone rfl
theorem busSleepEntry : ∀ a0, Statement (.busSleepEntry a0) := fun _ => ofNone rfl
theorem busFalseWake : ∀ a0, Statement (.busFalseWake a0) := fun _ => ofNone rfl
theorem lchCtlEnWrite : ∀ a0 a1 a2, Statement (.lchCtlEnWrite a0 a1 a2) := fun _ _ _ => ofNone rfl
theorem channelStartComplete : ∀ a0, Statement (.channelStartComplete a0) := fun _ => ofNone rfl
theorem demagEnd : ∀ a0, Statement (.demagEnd a0) := fun _ => ofNone rfl
theorem channelStopComplete : ∀ a0, Statement (.channelStopComplete a0) := fun _ => ofNone rfl
theorem channelTrip : ∀ a0, Statement (.channelTrip a0) := fun _ => ofNone rfl
theorem thermalShutdown : ∀ a0, Statement (.thermalShutdown a0) := fun _ => ofNone rfl
theorem retryDue : ∀ a0, Statement (.retryDue a0) := fun _ => ofNone rfl
theorem inrushWindowEnd : ∀ a0, Statement (.inrushWindowEnd a0) := fun _ => ofNone rfl
theorem groupUnusable : ∀ a0 a1, Statement (.groupUnusable a0 a1) := fun _ _ => ofNone rfl
theorem groupUsable : ∀ a0, Statement (.groupUsable a0) := fun _ => ofNone rfl
theorem groupVoltageChange : ∀ a0 a1, Statement (.groupVoltageChange a0 a1) := fun _ _ => ofNone rfl
theorem pgndLost : Statement .pgndLost := ofNone rfl
theorem pgndRestored : Statement .pgndRestored := ofNone rfl
theorem adcSample : ∀ a0, Statement (.adcSample a0) := fun _ => ofNone rfl
theorem imbalance : ∀ a0 a1, Statement (.imbalance a0 a1) := fun _ _ => ofNone rfl
theorem segmentFail : ∀ a0 a1, Statement (.segmentFail a0 a1) := fun _ _ => ofNone rfl
theorem fwTestComplete : ∀ a0 a1 a2, Statement (.fwTestComplete a0 a1 a2) := fun _ _ _ => ofNone rfl
theorem pwmPeriodStart : ∀ a0 a1, Statement (.pwmPeriodStart a0 a1) := fun _ _ => ofNone rfl
theorem retryCountReset : ∀ a0, Statement (.retryCountReset a0) := fun _ => ofNone rfl
theorem takeoverTripEnd : Statement .takeoverTripEnd := ofNone rfl
theorem budgetUpdate : ∀ a0, Statement (.budgetUpdate a0) := fun _ => ofNone rfl
theorem journalBlockRx : ∀ a0, Statement (.journalBlockRx a0) := fun _ => ofNone rfl
theorem blockApply : ∀ a0, Statement (.blockApply a0) := fun _ => ofNone rfl
theorem partnerMiss : Statement .partnerMiss := ofNone rfl
theorem pfailNAssert : Statement .pfailNAssert := ofNone rfl
theorem fenceArbitration : ∀ a0, Statement (.fenceArbitration a0) := fun _ => ofNone rfl
theorem fenceInAssert : Statement .fenceInAssert := ofNone rfl
theorem fenceInRelease : Statement .fenceInRelease := ofNone rfl
theorem drillDue : Statement .drillDue := ofNone rfl
theorem drillTick : Statement .drillTick := ofNone rfl
theorem drillVerify : ∀ a0, Statement (.drillVerify a0) := fun _ => ofNone rfl
theorem rejoinTickJ : ∀ a0, Statement (.rejoinTickJ a0) := fun _ => ofNone rfl
theorem rejoinTimeout : Statement .rejoinTimeout := ofNone rfl
theorem maintExpiry : Statement .maintExpiry := ofNone rfl
theorem keyreqRx : ∀ a0, Statement (.keyreqRx a0) := fun _ => ofNone rfl
theorem keydistRx : ∀ a0, Statement (.keydistRx a0) := fun _ => ofNone rfl
theorem keyreqResend : Statement .keyreqResend := ofNone rfl
theorem tkrChurnDelay : Statement .tkrChurnDelay := ofNone rfl
theorem recordOccurrence : ∀ a0 a1 a2, Statement (.recordOccurrence a0 a1 a2) := fun _ _ _ => ofNone rfl
theorem coalesceFlush : Statement .coalesceFlush := ofNone rfl
theorem recordWrite : ∀ a0, Statement (.recordWrite a0) := fun _ => ofNone rfl
theorem partnerRecordRx : ∀ a0, Statement (.partnerRecordRx a0) := fun _ => ofNone rfl
theorem wearSample : ∀ a0, Statement (.wearSample a0) := fun _ => ofNone rfl
theorem reserveSafePoint : ∀ a0 a1, Statement (.reserveSafePoint a0 a1) := fun _ _ => ofNone rfl
theorem bar2Write : ∀ a0 a1, Statement (.bar2Write a0 a1) := fun _ _ => ofNone rfl
theorem configurationRequest : Statement .configurationRequest := ofNone rfl
theorem functionLevelReset : Statement .functionLevelReset := ofNone rfl
theorem selChange : ∀ a0, Statement (.selChange a0) := fun _ => ofNone rfl
theorem hiBer : ∀ a0, Statement (.hiBer a0) := fun _ => ofNone rfl
theorem vcanInRange : Statement .vcanInRange := ofNone rfl
theorem xcvrThermalRecovery : ∀ a0, Statement (.xcvrThermalRecovery a0) := fun _ => ofNone rfl
theorem contributionLate : Statement .contributionLate := ofNone rfl
theorem engineSelfCheckFail : ∀ a0, Statement (.engineSelfCheckFail a0) := fun _ => ofNone rfl
theorem ppsStop : ∀ a0, Statement (.ppsStop a0) := fun _ => ofNone rfl
theorem ttdpTimerExpiry : ∀ a0, Statement (.ttdpTimerExpiry a0) := fun _ => ofNone rfl
theorem extest : Statement .extest := ofNone rfl

end Sys2Proof.Laws.CatalogueFamily
end

