-- ==== Sys2Proof/Tests/Slice0.lean ====
section
/-! SUPPORT. The package's own tests: an ill-formed term for each check of WellFormed, and, for every statement with hypotheses, a concrete state and
operands that meet them, with what the command then leaves, computed by hand from the rules that the statement cites. -/

set_option Elab.async false

namespace Sys2Proof.Tests

open Sys2Proof Sys2Proof.Machine

/-- The state after a command; the state itself where the command stops. -/
def after (i : Instr) (s : State) : State := match exec i s with | .next t => t | _ => s

/-- A node alone that runs: role solo. -/
def solo : State := wr { State.reset with phase := .running } TWIN_STAT_ROLE 2

/-- The active node of a joined pair. -/
def active : State := wr { State.reset with phase := .running } TWIN_STAT_ROLE 0

/-- The shadow. -/
def shadow : State := wr { State.reset with phase := .running } TWIN_STAT_ROLE 1

/-- A fenced node. -/
def fenced : State := wr { State.reset with phase := .running } TWIN_STAT_ROLE 3

/-- A halted node. -/
def halted : State := { State.reset with phase := .halted }

/-- A descriptor: opcode, flags, queue, tag, and the bytes from 0x08 on. -/
def descOf (op flags tag : Nat) (args : List Byte) : List Byte := le 2 op ++ le 1 flags ++ le 1 0 ++ le 4 tag ++ padTo 56 args

/-- s with one command at the head of host ring 0. -/
def ring0 (s : State) (op : Nat) (args : List Byte) : State := wr (bar2Write s (sqBase 0) (descOf op 0 7 args)) (CMD_SQTAIL 0) 1

/-- The command at the head of host ring 0. -/
def cmd0 (s : State) : Cmd := match headCmd s (.host 0) with | some c => c | none => ⟨.host 0, [], 0, false, 0, 0⟩

/-- Host ring 0, descriptor good. -/
def take0 : Take := ⟨.host 0, true⟩

/-- Whether the command at the head of host ring 0 of s is one of row k that passes every check. -/
def taken0 (k : CmdSpec) (s : State) : Bool :=
  decide (s.phase = .running ∨ s.phase = .halted) && decide (headCmd s (.host 0) = some (cmd0 s)) && readyCmd s (cmd0 s) &&
  decide (firstChecks take0 (cmd0 s) = none) && decide ((cmd0 s).opcode = k.opcode) && decide (laterChecks k (cmd0 s) s = none)

/-- What taken0 says. -/
theorem taken_of {k : CmdSpec} {s : State} (h : taken0 k s = true) : Taken k take0 s (cmd0 s) := by
  simp only [taken0, Bool.and_eq_true, decide_eq_true_eq] at h
  exact ⟨h.1.1.1.1.1, h.1.1.1.1.2, h.1.1.1.2, h.1.1.2, h.1.2, h.2⟩

/-- Status of the last response on host ring 0, read from its ring as R134 lays it out. -/
def status0 (s : State) : Nat := leAt (bar2Read s (rqBase 0) 64) 2 1

/-- Bytes of that response from an offset. -/
def result0 (s : State) (off n : Nat) : Nat := leAt (bar2Read s (rqBase 0) 64) off n

/-- Status of the first completion record (R136). -/
def done0 (s : State) : Nat := leAt (bar2Read s 0x40000 64) 2 1

/-- The first cell of a key. -/
def cellAt (m : Cells) (k : Nat) : Option Nat := match m with | [] => none | (j, v) :: t => if j = k then some v else cellAt t k

/-- The registers of two states agree but for the fields listed. -/
def sameBut (l : List Fld) (s t : State) : Bool :=
  (s.regs ++ t.regs).all (fun c => l.any (fun g => decide (g.key = c.1)) || decide (cellAt s.regs c.1 = cellAt t.regs c.1))

theorem lookupD_cellAt (m : Cells) (k d : Nat) : lookupD m k d = (cellAt m k).getD d := by
  induction m with
  | nil => rfl
  | cons x t ih => obtain ⟨j, v⟩ := x; by_cases h : j = k <;> simp [lookupD, cellAt, h, ih]

theorem cellAt_none {m : Cells} {k : Nat} (h : ∀ c ∈ m, c.1 ≠ k) : cellAt m k = none := by
  induction m with
  | nil => rfl
  | cons x t ih =>
    obtain ⟨j, v⟩ := x
    simp [cellAt, h (j, v) List.mem_cons_self, ih (fun c hc => h c (List.mem_cons_of_mem _ hc))]

/-- What sameBut says. -/
theorem regsBut_of {l : List Fld} {s t : State} (h : sameBut l s t = true) : RegsBut l s t := by
  intro f hf
  simp only [rd, lookupD_cellAt]
  suffices cellAt t.regs f.key = cellAt s.regs f.key by rw [this]
  by_cases hin : ∃ c ∈ s.regs ++ t.regs, c.1 = f.key
  · obtain ⟨c, hc, he⟩ := hin
    have := List.all_eq_true.mp h c hc
    simp only [Bool.or_eq_true, List.any_eq_true, decide_eq_true_eq] at this
    rcases this with ⟨g, hg, e⟩ | e
    · exact absurd (he.symm.trans e.symm) (hf g hg)
    · rw [he] at e; exact e.symm
  · have hn : ∀ c ∈ s.regs ++ t.regs, c.1 ≠ f.key := fun c hc he => hin ⟨c, hc, he⟩
    rw [cellAt_none (fun c hc => hn c (List.mem_append_right _ hc)), cellAt_none (fun c hc => hn c (List.mem_append_left _ hc))]

/-- What WriteActs asks of a state. -/
def writeActs (s : State) (i : Initiator) (page off : Nat) : Bool :=
  served s page && (match pageInfo page with | none => false | some info => writePermitted s i page off info.cls) && !(joined s && journaled page off) &&
  decide (s.semWait = []) && !semGuards s 0 (page * 1024 + off / 4) && !pageLocked s page

theorem writeActs_of {s : State} {i : Initiator} {page off : Nat} (h : writeActs s i page off = true) : WriteActs s i page off := by
  simp only [writeActs, Bool.and_eq_true, Bool.not_eq_true', decide_eq_true_eq] at h
  obtain ⟨⟨⟨⟨⟨h1, h2⟩, h3⟩, h4⟩, h5⟩, h6⟩ := h
  refine { serves := h1, permits := ?_, alone := h3, free := ⟨h4, h5⟩, unlocked := h6 }
  split at h2
  · simp at h2
  · rename_i info e; exact ⟨info, e, h2⟩

/-- The state after the command of a row at the head of host ring 0. -/
def ran (i : Take → Instr) (s : State) : State := after (i take0) s

/-- The row passes on ring 0 of s with arguments d, and answers OK. -/
def good0 (k : CmdSpec) (i : Take → Instr) (s : State) (d : List Byte) : Bool :=
  taken0 k (ring0 s k.opcode d) && decide (status0 (ran i (ring0 s k.opcode d)) = stOK)

/-! ## Reset, clocks, boot -/

/-- A boot in which everything is found good and no partner is seen. -/
def goodBoot : BootInput := ⟨true, true, false, true, true, true, true, true, true, true, true, false, false, none, true, false, false, false, [], 1800⟩

/-- An asleep node at Step 4 of R90. -/
def parking : State := wr solo SLEEP_STAT_PHASE 2

theorem witness_Resets_pin : solo.phase ≠ .off ∧ solo.phase ≠ .park ∧ (after .rstNAssert solo).phase = .reset ∧
    rd (after .rstNAssert solo) DEV_RSTCAUSE_PIN = 1 ∧ rd (after .rstNAssert solo) DEV_RSTCAUSE_POR = rd solo DEV_RSTCAUSE_POR ∧
    rd (after .rstNAssert solo) TWIN_STAT_ROLE = TWIN_STAT_ROLE.rst := by decide +kernel

theorem witness_Resets_others : solo.park.railEn = true ∧ rd (after .railOutOfRange solo) DEV_RSTCAUSE_RAIL = 1 ∧
    rd (after .nodeResetCmdDelay { solo with clk := { solo.clk with resetDue := true } }) DEV_RSTCAUSE_CMD = 1 ∧
    rd (after .parkLatchCheck { parking with park := { parking.park with latch := 1 } }) DEV_RSTCAUSE_PARK = 1 ∧
    rd (after .parkLatchCheck { parking with park := { parking.park with latch := 1 } }) DEV_RSTCAUSE_PARK_ABORT = 1 := by decide +kernel

theorem witness_Resets_pcie : let s := wr (ring0 solo 0x0100 []) (CMD_SQTAIL 1) 9
    rd (after .functionLevelReset s) (CMD_SQHEAD 0) = 1 ∧ rd (after .perstNAssert s) (CMD_SQHEAD 1) = 9 ∧
    rd (after .perstNAssert s) BRG_LINK_RESETS = 1 ∧ (after .perstNAssert s).fwd = s.fwd ∧
    UnitsSame s (after (.pcieLinkChange true 4 3) s) ∧
    sameBut ([BRG_LINK_UP, BRG_LINK_WIDTH, BRG_LINK_RATE] ++ eventFields 0x002) s (after (.pcieLinkChange true 4 3) s) = true ∧
    after .configurationRequest State.reset = emit State.reset (.pcie 2 0) := by unfold UnitsSame; decide +kernel

theorem witness_ParkDomainPower : let off := after .vparkFall solo
    off.phase = .off ∧ off.park.railEn = false ∧ rd (after .powerOn off) DEV_RSTCAUSE_POR = 1 ∧ (after .powerOn off).park = State.reset.park ∧
    parking.phase = .running ∧ rd parking SLEEP_STAT_PHASE = 2 ∧ parking.park.latch = 0 ∧ (after .parkLatchCheck parking).phase = .park ∧
    (after .parkLatchCheck parking).park.railEn = false ∧
    (let p := { after .parkLatchCheck parking with park := { parking.park with latch := 2 } }
     p.phase = .park ∧ p.park.latch ≠ 0 ∧ (after .railEnReassert p).phase = .reset ∧ rd (after .railEnReassert p) DEV_RSTCAUSE_PARK = 1) := by decide +kernel

theorem witness_ReferenceFailover : monitored solo = true ∧
    (let q := after (.refQualify .b false) (after (.refQualify .a false) solo)
     rd q DEV_CLKSTAT_REFA_OK = 1 ∧ rd q DEV_CLKSTAT_REFB_OK = 1 ∧ q.clk.presentB = true ∧ serving q = true ∧ q.clk.lost = false ∧
     (let l := after .refLoss q
      rd l DEV_CLKSTAT_HOLDOVER = 1 ∧ rd l DEV_CLKSTAT_REFA_OK = 0 ∧ l.clk.lost = true ∧ otherReady l = true ∧
      rd (after .refFailoverDone l) DEV_CLKSTAT_REF_SEL = 1 ∧ rd (after .refFailoverDone l) DEV_CLKSTAT_FAILOVER_CNT = 1 ∧
      rd (after .refFailoverDone l) DEV_CLKSTAT_HOLDOVER = 0 ∧
      rd (after .refFailoverDone (wr l DEV_CLKSTAT_FAILOVER_CNT 65535)) DEV_CLKSTAT_FAILOVER_CNT = 65535)) ∧
    (let a := after .refLoss (after (.refQualify .a false) solo)
     otherReady a = false ∧ (after .holdoverExpiry a).phase = .stopped ∧ (after .holdoverExpiry a).twin.failN = true ∧
     rd (after .holdoverExpiry a) TWIN_STAT_DRIVE_EN = 0) ∧
    rd State.reset DEV_CLKSTAT_REFA_OK = 0 ∧ (after .refSelectTimeout State.reset).clk.selB = true ∧
    (let t := after (.refQualify .a true) (after (.refQualify .b false) solo)
     rd t DEV_CLKSTAT_REF_DISAGREE = 1) ∧
    sameBut ([refOk .a, DEV_CLKSTAT_REF_DISAGREE, DEV_CLKSTAT_HOLDOVER] ++ eventFields 0x000) solo (after (.refQualify .a false) solo) = true := by decide +kernel

theorem witness_Failures_link : solo.line.r18 = false ∧ (after (.internalLinkFrame true) solo).line.copyXcvr = [0, 0, 0, 0] ∧
    after (.internalLinkFrame false) solo = inc solo (NODE_OVERLAP 4) ∧ (after .internalLinkTimeout solo).line.r18 = true ∧
    (after .internalLinkTimeout solo).twin.failN = true ∧ (after .nodeAliveStop solo).line.bypOn = false ∧
    (after .lineDieTimeout solo).line.r19 = true ∧ bit (rd (after .lineDieTimeout solo) (H_PEND 0x000)) 5 = true ∧
    (let s := after .lineDieTimeout solo
     bit (rd (after (.vhvReturn 2) s) (H_PEND 0x000)) 6 = true ∧ sameBut (eventFields 0x000) s (after (.vhvReturn 2) s) = true) := by decide +kernel

theorem witness_Failures_engines : role (after (.lockstepMismatch .keeper1 (some 2)) active) = 3 ∧
    (after (.lockstepMismatch .keeper1 none) active).churn.relayOnly = true ∧ (after .overtempShutdown solo).twin.failN = true ∧
    jtagOpen solo = true ∧ (after .extest solo).keys.extest = true ∧ (after .trstNAssert (after .extest solo)).keys.extest = false ∧
    bit (rd (after .tempHigh solo) (H_PEND 0x000)) 12 = true ∧ (after .tempHigh solo).twin = solo.twin ∧
    (after (.engineSelfCheckFail (.frame 3)) solo).fwd.failed = [3] ∧ (after (.engineSelfCheckFail (.survey 1)) active).churn.dead = [1] ∧
    (after (.engineSelfCheckFail (.survey 1)) active).twin.failN = true := by decide +kernel

theorem witness_BootAndFence : State.reset.phase = .reset ∧ State.reset.park.railEn = true ∧ bootRef goodBoot State.reset = some .a ∧
    bootHalts goodBoot = false ∧ (after (.boot goodBoot) State.reset).phase = .running ∧
    bootRef { goodBoot with refA := false, refB := false } State.reset = none ∧
    (let h := after (.boot { goodBoot with romOk := false }) State.reset
     h.phase = .halted ∧ rd h DEV_BOOTSTAT_STEP = 4 ∧ rd h DEV_BOOTSTAT_MEASURE_FAIL = 1 ∧ rd h DEV_BOOTSTAT_SELFTEST_FAIL = 0) ∧
    (let f := { shadow with twin := { shadow.twin with fencing := true }, fuses := { shadow.fuses with twinId := true } }
     f.twin.atBoot = none ∧ role f ≤ 2 ∧ role (after (.fenceArbitration true) f) = 3 ∧ rd (after (.fenceArbitration true) f) TWIN_STAT_FENCE_OUT = 0 ∧
     role (after (.fenceArbitration false) f) = 2 ∧ rd (after (.fenceArbitration false) f) TWIN_GEN = rd f TWIN_GEN + 1 ∧
     (after (.fenceArbitration false) f).load.takeover = true) := by decide +kernel

/-! ## Register pages and events -/

theorem witness_EnableMachine : writeActs solo .host 0x010 0x008 = true ∧ (pageInfo 0x010).isSome = true ∧
    (let a := after (.pageEnWrite .host 0x010 true) solo
     rd a (H_EN 0x010) = 1 ∧ (pageSt a 0x010).en = .starting ∧
     (let h := after (.pageEnWrite .host 0x010 false) a
      (pageSt h 0x010).held = some false ∧ (pageSt h 0x010).en = .starting ∧ modeOk 0 (rd (wr h (PORT_MODE_MODE 0) 4) (PORT_MODE_MODE 0)) = true ∧
      (pageSt (after (.blockStartComplete 0x010) (wr h (PORT_MODE_MODE 0) 4)) 0x010).en = .stopping ∧
      (let o := after (.blockStartComplete 0x010) (wr a (PORT_MODE_MODE 0) 4)
       (pageSt o 0x010).en = .on ∧ (pageSt (after (.pageEnWrite .host 0x010 false) o) 0x010).en = .stopping ∧
       (pageSt (after (.blockStopComplete 0x010) (after (.pageEnWrite .host 0x010 false) o)) 0x010).en = .off ∧
       (pageSt (after (.blockStopComplete 0x010) (after (.pageEnWrite .host 0x010 true) (after (.pageEnWrite .host 0x010 false) o))) 0x010).en = .starting))) := by
  decide +kernel

theorem witness_LockShadowAndBlockReset : writeActs solo .host 0x020 0x028 = true ∧
    (let l := after (.lockWrite .host 0x020 0xB10C0100) solo
     rd l (H_LOCKED 0x020) = 1 ∧ sameBut [H_LOCKED 0x020] solo l = true ∧
     (let u := after (.lockWrite .host 0x020 0x5EED0000) l
      (pageSt u 0x020).unlockBy = some .host ∧ rd (after (.lockWrite .host 0x020 0xB10C0000) u) (H_LOCKED 0x020) = 0 ∧
      rd (after (.lockWrite .manager 0x020 0xB10C0000) u) (H_LOCKED 0x020) = 1 ∧ (after (.lockWrite .host 0x020 0xB10C0000) l).regs = l.regs)) ∧
    (let d := wrShadow solo TIME_CTL_SELECT 1
     d.shadow ≠ [] ∧ (after (.shadowCommit .host 0x030) d).shadow = [] ∧ rd (after (.shadowCommit .host 0x030) d) TIME_CTL_SELECT = 1 ∧
     (after (.shadowDiscard .host 0x030) d).shadow = [] ∧ rd (after (.shadowDiscard .host 0x030) d) TIME_CTL_SELECT = TIME_CTL_SELECT.rst ∧
     (after (.shadowCommit .host 0x020) d).shadow = d.shadow ∧ (after (.blkRst .host 0x030) d).shadow = []) := by decide +kernel

theorem witness_RegisterWritePaths : (let w : WriteReq := ⟨.host, 0x058, 0x048, 4, true, 5⟩
      w.off.val % 4 = 0 ∧ writeActs solo .host 0x058 0x048 = true ∧ isPubdb 0x058 0x048 = false ∧ isTxdb 0x058 0x048 = false ∧
      after (.registerWrite w) solo = applyWrite .host false 0x058 0x048 5 solo ∧
      joined active = true ∧ (after (.registerWrite w) active).twin.own = [⟨4, .write .host 0x058 0x048 5 true, true⟩]) ∧
    (let s := { solo with fuses := { solo.fuses with lc := 2 } }
     writePermitted s .host 0x058 0x048 4 = false ∧ rd (after (.registerWrite ⟨.host, 0x058, 0x048, 4, true, 5⟩) s) EVC_FAULT_KIND = 3) ∧
    rd (after (.registerWrite ⟨.host, 0x058, 0x04A, 4, true, 5⟩) solo) EVC_FAULT_KIND = 1 ∧
    rd (after (.registerWrite ⟨.host, 0x058, 0x048, 4, false, 5⟩) solo) EVC_FAULTCNT = 1 ∧
    (let l := after (.lockWrite .host 0x020 0xB10C0100) solo
     pageLocked l 0x020 = true ∧ (pageSt l 0x020).unlockBy = none ∧ rd (applyWrite .host false 0x020 0x028 1 l) EVC_FAULT_KIND = 2) ∧
    rd solo EVC_FAULT_VALID = 0 ∧ rd (regFault solo 4 .debug 0x079 0xFFC) EVC_FAULT_PAGE = 0x079 ∧ rd (regFault solo 4 .debug 0x079 0xFFC) EVC_FAULT_INIT = 4 := by
  decide +kernel

theorem witness_RegisterReads : served solo 0x030 = true ∧ mayRead solo .host 2 = true ∧ readHeld solo .host 0x030 = false ∧
    (after (.registerReadLatch ⟨.host, 0x030, 0x048, 4⟩) solo).out = [.pcie 0 0] ∧
    (after (.registerReadLatch ⟨.host, 0x030, 0x048, 4⟩) solo).latch ≠ [] ∧
    (after (.registerReadLatch ⟨.host, 0x030, 0x04C, 4⟩) (after (.registerReadLatch ⟨.host, 0x030, 0x048, 4⟩) solo)).latch = [] ∧
    (after (.registerReadLatch ⟨.host, 0x000, 0x041, 4⟩) solo).out = [.pcie 1 0] ∧
    (let s := wr solo (portCtr 9 3) 7
     mayRead s .host 7 = true ∧ takeLatch s .host (counterAt 9 3).1 (counterAt 9 3).2 = none ∧ rd (after (.counterReadClear .host 9 3) s) (portCtr 9 3) = 0 ∧
     (after (.counterReadClear .host 9 3) s).out = [.pcie 0 7] ∧ sameBut [portCtr 9 3] s (after (.counterReadClear .host 9 3) s) = true) := by decide +kernel

theorem witness_Events : (let s := wr (wr solo (H_PEND 0x020) 6) (H_EVEN 0x020) 7
      writeActs s .host 0x020 0x018 = true ∧ rd (after (.evPendClear .host 0x020 2) s) (H_PEND 0x020) = 4 ∧
      sameBut ([H_PEND 0x020, BRG_MSIX_PBA] ++ checkFields 0x020) s (after (.evPendClear .host 0x020 2) s) = true ∧
      rd (after (.evEnWrite .host 0x020 0x1FFFF) s) (H_EVEN 0x020) = 0xFFFF ∧ rd (after (.evRouteWrite .host 0x020 5) s) (H_ROUTE 0x020) = 5) ∧
    (let s := wr solo EVC_SWPEND 3
     rd (after (.evcSwset .host 4) s) EVC_SWPEND = 7 ∧ rd (after (.evcSwpendClear .host 1) s) EVC_SWPEND = 2 ∧
     rd (after (.evcSwenWrite .host .swen 9) s) EVC_SWEN = 9 ∧ rd (after (.evcLmapWrite .host 43 8) s) (EVC_LMAP 43) = 8) ∧
    (let f := regFault solo 1 .host 0x010 8
     rd f EVC_FAULT_VALID = 1 ∧ rd (after (.evcFaultClear .host) f) EVC_FAULT_VALID = 0 ∧
     sameBut (EVC_FAULT_VALID :: checkFields 0x001) f (after (.evcFaultClear .host) f) = true) ∧
    rd solo DEV_RSTCAUSE_POR = 1 ∧ rd (after (.devRstcauseClear .host 1) solo) DEV_RSTCAUSE_POR = 0 ∧
    bit (rd (raise solo 0x058 15) (H_PEND 0x058)) 15 = true ∧ bit (rd (raise solo 0x010 8) (H_PEND 0x010)) 8 = false := by decide +kernel

/-- An event routed to an unmasked vector sends its message. -/
theorem test_event_message : let s := wr (wr (wrB (wr solo (H_EVEN 0x000) 1) (BRG_MSIX_CTL_MASK 0) false) (BRG_MSIX_ADDR 0) 0x1000) (EVC_LMAP 0) 0x08
    (after (.evEnWrite .host 0x000 1) (raise s 0x000 0)).out ≠ [] := by decide +kernel

theorem witness_PageScrub : (∀ p ∈ allPages, (pageSt solo p).chkOk = true → rd solo (H_CHK p) = pageCheck solo p) ∧ after .pageScrub solo = solo ∧
    (let s := after (.registerWrite ⟨.host, 0x003, 0x040, 4, true, 0⟩) solo
     let b := wr s (H_CHK 0x003) (rd s (H_CHK 0x003) + 1)
     (pageSt b 0x003).chkOk = true ∧ rd b (H_CHK 0x003) ≠ pageCheck b 0x003 ∧ rd (after .pageScrub b) (H_CHK_ERR 0x003) = 1 ∧
     rd (after .pageScrub b) (H_CHK 0x003) = rd b (H_CHK 0x003)) := by decide +kernel

/-! ## Host bridge -/

/-- Car 2 of the train, handle 0x80 (all cars of the tests reach each other over B1), and this node's own car. -/
def carTwo : AmapEntry := ⟨2, 2, 0x80, false, false, 1, 2, 5⟩
def carOne : AmapEntry := ⟨1, 1, 0x40, true, false, 1, 2, 5⟩

/-- s with the two cars in its address map, and the manager role at twin 0 of car 2. -/
def train (s : State) : State :=
  wr { s with fwd := { s.fwd with bank0 := { s.fwd.bank0 with amap := [carOne, carTwo] } }, fuses := { s.fuses with uid := 1 } } DEV_ROLE_HANDLE 0x80

/-- A node alone in a train, aperture 0 open on car 2. -/
def open0 : State := wr (wr (wr (train solo) (BRG_RWIN_TGT_HANDLE 0) 0x80) (BRG_RWIN_TGT_VALID 0) 1) (BRG_RWIN_TGT_RESOLVED 0) 1

/-- A frame from twin 0 of car 2 for this node. -/
def fromTwo (kind : Nat) (seq : BitVec 32) (flags : BitVec 8) (page : Fin 4096) (word : Fin 1024) (d : List Word) : RemoteFrame :=
  ⟨BitVec.ofNat 8 kind, 2, false, 1, false, flags, 5, 0, seq, page, word, d.length, d, descOf 0x0001 0 7 [], true⟩

/-- Two consecutive words wait on aperture 0. -/
def twoWords : State := after (.remoteApertureWrite 0 3 5 10) (after (.remoteApertureWrite 0 3 4 9) open0)

theorem witness_ApertureAccesses : solo.phase = .running ∧ apWords solo 0 < 256 ∧ semGuards solo 2 (apLoc 0 3 4) = false ∧ apertureOpen solo 0 = false ∧
    rd (after (.remoteApertureWrite 0 3 4 9) solo) BRG_RSEQ = 1 ∧ (after (.remoteApertureWrite 0 3 4 9) solo).remote.failed = [(0, stWRONG_STATE)] ∧
    (after (.remoteApertureRead 0 3 4) solo).out = [.pcie 0 0xFFFFFFFF] ∧
    apertureOpen open0 0 = true ∧ apReads open0 0 < 8 ∧ apWaiting open0 0 = [] ∧ (after (.remoteApertureRead 0 3 4) open0).remote.flight.length = 1 ∧
    twoWords.remote.waiting.length = 2 ∧ twoWords.out = [] ∧ apWaiting twoWords 0 = [⟨0, 0, 3, 4, 9, 0⟩, ⟨1, 0, 3, 5, 10, 0⟩] ∧
    (after (.remoteFrameSend 0) twoWords).remote.waiting = [] ∧
    ((after (.remoteFrameSend 0) twoWords).remote.flight.map (fun f => f.words.length)) = [2] := by decide +kernel

/-- A write, a read and a command of aperture 0 in flight, sent n times. -/
def flying (n : Nat) : State :=
  { open0 with remote := { open0.remote with flight := [⟨1, 0, 0, 2, false, 5, [⟨0, 0, 3, 4, 9, 0⟩], [], n, 0⟩, ⟨3, 0, 1, 2, false, 5, [⟨1, 0, 3, 4, 0, 0⟩], [], n, 0⟩,
    ⟨5, 0, 2, 2, false, 5, [], descOf 0x0001 0 7 [], n, 0⟩] } }

theorem witness_RemoteFrames_origin : (flying 1).phase = .running ∧ (flightOf (flying 1) 0).map (fun f => f.sends) = some 1 ∧
    (flightOf (after (.remoteRetransmit 0) (flying 1)) 0).map (fun f => f.sends) = some 2 ∧
    (flightOf (flying 3) 0).map (fun f => (f.sends, f.kind)) = some (3, 1) ∧ after (.remoteRetransmit 0) (flying 3) = flying 3 ∧
    (after (.remoteSendTimeout 0) (flying 3)).remote.failed = [(0, stTIMEOUT)] ∧
    (flightOf (flying 3) 1).map (fun f => (f.sends, f.kind)) = some (3, 3) ∧ (after (.remoteReadTimeout 1) (flying 3)).out = [.pcie 0 0xFFFFFFFF] ∧
    (after (.remoteReadTimeout 1) (flying 3)).remote.faults = 1 ∧
    (answered (flying 1) 1 (fromTwo 2 0 0 3 4 [])).isSome = true ∧ (after (.writeAckRx (fromTwo 2 0 0 3 4 [])) (flying 1)).remote.failed = [] ∧
    (after (.writeAckRx (fromTwo 2 0 (BitVec.ofNat 8 stDENIED) 3 4 [])) (flying 1)).remote.failed = [(0, stDENIED)] ∧
    (answered (flying 1) 3 (fromTwo 4 1 0 3 4 [77])).isSome = true ∧ (after (.readReplyRx (fromTwo 4 1 0 3 4 [77])) (flying 1)).out = [.pcie 0 77] ∧
    (answered (flying 1) 5 (fromTwo 6 2 0 0 0 [])).isSome = true ∧ rd (after (.remoteResponseRx (fromTwo 6 2 0 0 0 [])) (flying 1)) (NODE_RR_USED 0) = 1 ∧
    answered open0 5 (fromTwo 6 2 0 0 0 []) = none ∧ (after (.remoteResponseRx (fromTwo 6 2 0 0 0 [])) open0).remote.late = 1 ∧
    noCompletion open0 (.host 0) = false ∧ rd (after (.remoteCompletionRx (fromTwo 7 9 0 0 0 []) 3) open0) CMD_CRTAIL = 1 ∧
    memRead (after (.remoteCompletionRx (fromTwo 7 9 0 0 0 []) 3) open0).bar2 0x40003 = 0x8B := by decide +kernel

theorem witness_RemoteFrames_target : let f := fromTwo 1 4 0 0x058 (0x048 / 4) [5]
    let g : RemoteFrame := { f with originUid := 3 }
    forUs open0 f = true ∧ keptAnswer open0 f = none ∧ remoteInit open0 f = some .manager ∧ remoteInit open0 g = none ∧ keptAnswer open0 g = none ∧
    mayWrite open0 .manager 4 = true ∧ open0.semWait = [] ∧ ((frameWords f).any (fun w => decide (w.1 < 4096) && lockRefuses open0 0x058 w.1 w.2)) = false ∧
    (after (.remoteWriteRx f) open0).remote.answers.length = 1 ∧
    after (.registerWrite ⟨.host, 0x058, 0x048, 4, true, 5⟩) open0 = { after (.remoteWriteRx f) open0 with remote := open0.remote, fwd := open0.fwd } ∧
    (keptAnswer (after (.remoteWriteRx f) open0) f).isSome = true ∧
    (after (.remoteWriteRx g) open0).regs = open0.regs ∧ journalHolds open0 .manager = false ∧ f.words = 1 ∧
    (after (.remoteReadRx f) open0).remote.answers.map (fun a => a.kind) = [4] ∧
    inInbox open0 f = false ∧ some f.gen.toNat = curdGen open0 f.originUid ∧ (after (.remoteCommandRx f 2) open0).remote.inbox.map (fun x => x.1) = [2] ∧
    rd (after (.remoteWriteRx { f with crcGood := false }) open0) (NODE_OVERLAP 6) = 1 ∧
    (after (.remoteWriteRx { f with crcGood := false }) open0).remote.answers = [] := by decide +kernel

theorem witness_SemaphoresAndAtomics : writeActs solo .host 0x002 (0x100 + 4 * 9) = true ∧ rdB solo (BRG_SEM_HELD 9) = false ∧ semGuards solo 1 0x400000 = false ∧
    (let h := after (.brgSemAcquire .host 9 0x400000) solo
     rd h (BRG_SEM_HELD 9) = 1 ∧ rd h (BRG_SEM_LOC 9) = 0x400000 ∧ semGuards h 1 0x400000 = true ∧
     rd (after (.brgSemAcquire .host 10 0x400000) h) (BRG_SEM_HELD 10) = 0 ∧ rd (after (.brgSemRelease .host 9) h) (BRG_SEM_HELD 9) = 0 ∧
     rdB h (BRG_SEM_HELD 9) = true ∧ h.semWait = [] ∧ rd (after (.semHoldTimeout 9) h) (BRG_SEM_HELD 9) = 0 ∧
     bit (rd (after (.semHoldTimeout 9) h) (H_PEND 0x002)) 3 = true ∧
     (let a : AtomicReq := ⟨.fetchAdd, 8, .bar2 0x1000000, 3, 0, 0, 0⟩
      atomicUnsupported a = false ∧ atomicSem h a.loc = none ∧ (after (.atomicSemTimeout a) h).out = [.pcie 1 0])) ∧
    (let s := bar2Write solo 0x1000000 (le 8 0xFFFFFFFFFFFFFFFF)
     let a : AtomicReq := ⟨.fetchAdd, 8, .bar2 0x1000000, 3, 0, 0, 0⟩
     atomicSem s a.loc = some 8 ∧ (after (.atomicOp a) s).out = [.pcie 0 0xFFFFFFFFFFFFFFFF] ∧ leAt (bar2Read (after (.atomicOp a) s) 0x1000000 8) 0 8 = 2) ∧
    (let a : AtomicReq := ⟨.swap, 4, .bar2 0x1000002, 3, 0, 0, 0⟩
     atomicUnsupported a = true ∧ (after (.atomicOp a) solo).out = [.pcie 1 0]) := by decide +kernel

theorem witness_RingIndices : writeActs solo .host 0x003 (0x040 + 4 * 2) = true ∧
    ringDist 256 (rd solo (CMD_SQHEAD 2)) (rd solo (CMD_SQTAIL 2)) ≤ ringDist 256 (rd solo (CMD_SQHEAD 2)) 5 ∧
    (let d := after (.cmdSqtailDoorbell .host 2 5) solo
     rd d (CMD_SQTAIL 2) = 5 ∧ sameBut (CMD_SQTAIL 2 :: checkFields 0x003) solo d = true ∧
     ringDist 256 (rd d (CMD_SQHEAD 2)) 4 < ringDist 256 (rd d (CMD_SQHEAD 2)) (rd d (CMD_SQTAIL 2)) ∧
     rd (after (.cmdSqtailDoorbell .host 2 4) d) (CMD_SQTAIL 2) = 5 ∧ bit (rd (after (.cmdSqtailDoorbell .host 2 4) d) CMD_STAT_DB_ERR) 2 = true) ∧
    writeActs solo .host 0x003 (0x0A0 + 4 * 2) = true ∧ writeActs solo .host 0x003 0x0C4 = true ∧ writeActs solo .host 0x002 0x048 = true ∧
    writeActs solo .host 0x002 0x0B0 = true ∧ writeActs solo .host 0x002 0x080 = true ∧ writeActs solo .host 0x002 0x060 = true ∧ apWaiting solo 0 = [] ∧
    (let s := wr (wr solo (NODE_RQ_USED 2) 3) NODE_CR_USED 2
     ringDist 256 (rd s (CMD_RQHEAD 2)) 2 ≤ rd s (NODE_RQ_USED 2) ∧ rd (after (.cmdRqheadWrite .host 2 2) s) (NODE_RQ_USED 2) = 1 ∧
     ringDist 1024 (rd s CMD_CRHEAD) 2 ≤ rd s NODE_CR_USED ∧ rd (after (.cmdCrheadWrite .host 2) s) NODE_CR_USED = 0 ∧
     rd s NODE_CR_USED < ringDist 1024 (rd s CMD_CRHEAD) 3 ∧ rd (after (.cmdCrheadWrite .host 3) s) CMD_STAT_CR_ERR = 1) ∧
    rd (after (.brgFqheadWrite .host 1025) solo) BRG_FQHEAD = 1 ∧ rd (after (.brgRrheadWrite .host 3 65) solo) (BRG_RRHEAD 3) = 1 ∧
    rd solo (BRG_RCDB 3) < 64 ∧ rd (after (.brgRcdbDoorbell .host 3 63) solo) (BRG_RCDB 3) = 63 ∧
    rd (after (.brgRwinTgtWrite .host 1 0x80000007) solo) (BRG_RWIN_TGT_HANDLE 1) = 7 ∧
    rd (after (.brgRwinTgtWrite .host 1 0x80000007) solo) (BRG_RWIN_TGT_VALID 1) = 1 := by decide +kernel

theorem witness_DeviceMemoryWrites : ((List.range 24).all fun k => !rdB solo (BRG_SEM_HELD k)) = true ∧ bar2Reserved 0x1000003 = false ∧ bar2Reserved 0x68000 = true ∧
    bar2Read (after (.bar2Write 0x1000003 [1, 2]) solo) 0x1000002 4 = [0, 1, 2, 0] ∧
    after (.bar2Write 0x68000 [1]) solo = bar2Fault solo .host 0x68000 ∧ halted.phase = .halted ∧ after (.bar2Write 0x50000 [1]) halted = halted ∧
    bar2Read (after (.bar2Write 0x4FFFF [1]) halted) 0x4FFFF 1 = [1] := by decide +kernel
/-! ## Commands -/

theorem witness_CommandsAreTaken_row : specOf (.nop take0) = some (nopSpec, take0) ∧ specOf (.resClaim take0) = some (resClaimSpec, take0) ∧
    specOf (.remoteSync take0) = some (remoteSyncSpec, take0) := ⟨rfl, rfl, rfl⟩

theorem witness_CommandsAreTaken : (let s := ring0 solo 0x0100 []
      headCmd s (.host 0) = some (cmd0 s) ∧ readyCmd s (cmd0 s) = true ∧ taken0 nopSpec s = true ∧ status0 (ran .nop s) = stOK ∧
      rd (ran .nop s) (CMD_SQHEAD 0) = 1 ∧ status0 (after (.nop ⟨.host 0, false⟩) s) = stINTEGRITY) ∧
    status0 (ran .nop (wr (bar2Write solo (sqBase 0) (le 2 0x0100 ++ le 1 0 ++ le 1 3 ++ zeros 60)) (CMD_SQTAIL 0) 1)) = stBAD_ARG ∧
    status0 (ran .nop (ring0 solo 0x0104 [])) = stUNKNOWN ∧
    (let s := ring0 { solo with fuses := { solo.fuses with lc := 4 } } 0x1100 (le 2 0x400)
     firstChecks take0 (cmd0 s) = none ∧ (cmd0 s).opcode = resClaimSpec.opcode ∧ commandPermitted s (cmd0 s) resClaimSpec = false ∧
     status0 (ran .resClaim s) = stDENIED) ∧
    status0 (ran .resClaim (ring0 shadow 0x1100 (le 2 0x400))) = stWRONG_STATE ∧ status0 (ran .resClaim (ring0 fenced 0x1100 (le 2 0x400))) = stFENCED ∧
    resClaimSpec.kind = .shared ∧ role shadow = 1 ∧ role fenced = 3 ∧ commandPermitted shadow (cmd0 (ring0 shadow 0x1100 [])) resClaimSpec = true ∧
    (let s := ring0 solo 0x1000 []
     taken0 remoteSyncSpec s = true ∧ status0 (ran .remoteSync s) = stACCEPTED ∧ (ran .remoteSync s).accepted.map (fun a => a.tag) = [7]) := by
  decide +kernel

theorem witness_ResponsesAndCompletions : let s := ring0 solo 0x0100 []
    (cmd0 s).path = .host 0 ∧ rd s (CMD_RQTAIL 0) < 256 ∧ bar2Read (respond (cmd0 s) stBUSY [1] s) (rqBase 0) 9 = [0, 1, BitVec.ofNat 8 stBUSY, 128, 7, 0, 0, 0, 1] ∧
    rd (respond (cmd0 s) stBUSY [1] s) (CMD_RQTAIL 0) = 1 ∧ bit (rd (respond (cmd0 s) stBUSY [1] s) (H_PEND 0x003)) 0 = true ∧
    (let a := acceptedOf remoteSyncSpec (cmd0 s) s
     let t := addAccepted a s
     rd t CMD_CRTAIL < 1024 ∧ a.discard = false ∧ bit a.flags 1 = false ∧ rd t CMD_STAT_OUTSTANDING = 1 ∧
     bar2Read (complete a stOK [5] t) 0x40000 8 = [0, 1, 0, 128, 7, 0, 0, 0] ∧ memRead (complete a stOK [5] t).bar2 0x40010 = 5 ∧
     rd (complete a stOK [5] t) CMD_CRTAIL = 1 ∧ bit (rd (complete a stOK [5] t) (H_PEND 0x003)) 8 = true ∧ (complete a stOK [5] t).accepted = [] ∧
     (complete { a with discard := true } stOK [5] { t with accepted := [{ a with discard := true }] }).bar2 = t.bar2 ∧
     (complete { a with discard := true } stOK [5] { t with accepted := [{ a with discard := true }] }).accepted = []) := by decide +kernel

theorem witness_StatusCommands_1 : good0 portStatusSpec .portStatus solo (le 1 3) = true ∧ taken0 curdReadSpec (ring0 solo 0x0503 (le 1 0 ++ le 1 1)) = true ∧
    status0 (ran .curdRead (ring0 solo 0x0503 (le 1 0 ++ le 1 1))) = stWRONG_STATE ∧ good0 timeStatusSpec .timeStatus solo [] = true ∧
    good0 capReadSpec .capRead solo (le 1 7) = true ∧ good0 mbStatusSpec .mbStatus solo (le 1 3) = true ∧
    good0 sleepStatusSpec .sleepStatus solo [] = true ∧ good0 lchStatusSpec .lchStatus solo (le 1 15) = true ∧
    good0 twinStatusSpec .twinStatus solo [] = true ∧ good0 keyStatusSpec .keyStatus solo (le 1 63) = true ∧
    good0 recStatusSpec .recStatus solo [] = true ∧ good0 rsvStatusSpec .rsvStatus solo [] = true ∧ good0 rsvLedgerSpec .rsvLedger solo (le 1 255) = true := by
  decide +kernel

/-- A curd of two cars. -/
def curdTwo : Curd :=
  ⟨9, 0, 0, false, false, false, LeadCmd.none, 0x81, [⟨1, 0x40, 1, 0, 1, 2, true, true, false, false, false, 5⟩, ⟨2, 0x80, 2, 0, 1, 2, true, true, false, false, false, 5⟩]⟩

theorem witness_StatusCommands_2 : (let s := { solo with churn := { solo.churn with curd := some curdTwo } }
      curdNamed (ring0 s 0x0503 (le 1 0 ++ le 1 2)) 0 = some curdTwo ∧ taken0 curdReadSpec (ring0 s 0x0503 (le 1 0 ++ le 1 2)) = true) ∧
    good0 tlgStatusSpec .tlgStatus solo (le 1 0 ++ zeros 1 ++ le 2 9) = true ∧
    (let s := { solo with keys := { solo.keys with statement := some (4, List.replicate 100 9) } }
     taken0 attReadSpec (ring0 s 0x0D01 (le 4 4 ++ le 2 96)) = true ∧ result0 (ran .attRead (ring0 s 0x0D01 (le 4 4 ++ le 2 96))) 8 2 = 4 ∧
     status0 (ran .attRead (ring0 solo 0x0D01 (le 4 4))) = stWRONG_STATE) ∧
    (let s := { solo with fuses := { solo.fuses with ledger := [⟨3, 1, 2, 1, 0, 0, 4, 77, none⟩] } }
     (s.fuses.ledger[0]?).isSome = true ∧ result0 (ran .rsvLedger (ring0 s 0x0F01 (le 1 0))) 8 1 = 3) := by decide +kernel

theorem witness_DeviceCommands : good0 nopSpec .nop solo [] = true ∧ taken0 devInfoSpec (ring0 solo 0x0101 []) = true ∧
    taken0 devStatusSpec (ring0 solo 0x0102 []) = true ∧ good0 devResetSpec .devReset solo (le 4 0x5E7A) = true ∧
    (ran .devReset (ring0 solo 0x0103 (le 4 0x5E7A))).clk.resetDue = true ∧ status0 (ran .devReset (ring0 solo 0x0103 (le 4 1))) = stBAD_ARG := by decide +kernel

/-- An image that writes EVC_SWEN and claims comparator 4. -/
def image : Image := ⟨7, [(0x204, 1)], [(0x001, 0x0C4, 9)], [0x020], [], 0, true, none, []⟩

/-- A node alone with that image in slot 1, and host queue 0 claimed by the host. -/
def stored : State :=
  { solo with store := { solo.store with slot1 := some image, ok1 := true, inUse := some 0 }, claims := [⟨0x300, 0, 0, 0, 0, 0, 0, 0⟩] }

theorem witness_ConfigCommands : (let args := le 1 0 ++ le 1 1 ++ zeros 2 ++ le 4 1024 ++ le 4 (crc32c (zeros 1024))
      let s := ring0 stored 0x0200 args
      taken0 cfgImageLoadSpec s = true ∧ s.store.inUse ≠ some (loadSlot s (cmd0 s)) ∧ status0 (ran .cfgImageLoad s) = stACCEPTED ∧
      (let u := ran .cfgImageLoad s
       (findAccepted u 0x0200 (.slot 1)).isSome = true ∧ done0 (after (.cfgImageLoadDone 1 ⟨true, true, image⟩) u) = stOK ∧
       done0 (after (.cfgImageLoadDone 1 ⟨false, true, image⟩) u) = stINTEGRITY ∧ done0 (after (.cfgImageLoadDone 1 ⟨true, false, image⟩) u) = stKEY_INVALID ∧
       done0 (after (.cfgImageLoadDone 1 ⟨true, true, { image with inRange := false }⟩) u) = stBAD_ARG ∧
       (after (.cfgImageLoadDone 1 ⟨true, true, image⟩) u).store.ok1 = true)) ∧
    status0 (ran .cfgImageLoad (ring0 stored 0x0200 (zeros 4 ++ le 4 1024 ++ le 4 (crc32c (zeros 1024))))) = stWRONG_STATE := by decide +kernel

theorem witness_ConfigCommands_activate : (let s := ring0 stored 0x0201 (le 1 1 ++ zeros 3 ++ le 4 7)
      taken0 cfgImageActivateSpec s = true ∧ (expectedImage s (cmd0 s)).isSome = true ∧ imageConflict s image.claims = none ∧
      (let u := ran .cfgImageActivate s
       done0 u = stOK ∧ u.store.inUse = some 1 ∧ rd u EVC_SWEN = 9 ∧ rd u (H_LOCKED 0x020) = 1 ∧ (claimOf u 0x204).isSome = true)) ∧
    (let s := ring0 { stored with claims := [⟨0x204, 0, 0, 0, 0, 0, 0, 0⟩] } 0x0201 (le 1 1 ++ zeros 3 ++ le 4 7)
     (imageConflict s image.claims).isSome = true ∧ done0 (ran .cfgImageActivate s) = stCONFLICT ∧ (ran .cfgImageActivate s).store.inUse = some 0) ∧
    status0 (ran .cfgImageActivate (ring0 stored 0x0201 (le 1 1 ++ zeros 3 ++ le 4 8))) = stWRONG_STATE ∧
    (let s := ring0 (wrShadow solo TIME_CTL_SELECT 1) 0x0202 (le 1 1 ++ zeros 1 ++ le 2 0x030)
     taken0 cfgCommitSpec s = true ∧ commitList (cmd0 s) = [0x030] ∧ status0 (ran .cfgCommit s) = stOK ∧ (ran .cfgCommit s).shadow = [] ∧
     rd (ran .cfgCommit s) TIME_CTL_SELECT = 1) ∧
    good0 cfgInfoSpec .cfgInfo stored [] = true ∧ result0 (ran .cfgInfo (ring0 stored 0x0203 [])) 16 2 = 0x0200 := by decide +kernel

theorem witness_ResourceClaims : (let s := ring0 solo 0x1100 (le 2 0x204 ++ le 1 3)
      taken0 resClaimSpec s = true ∧ claimOf s 0x204 = none ∧ conflictOf s.claims 0x204 3 = none ∧ resAny 0x204 = false ∧ status0 (ran .resClaim s) = stOK ∧
      (claimOf (ran .resClaim s) 0x204).map (fun h => (h.kind, h.use, h.tag)) = some (0, 3, 7)) ∧
    (let s := ring0 { solo with claims := [⟨0x204, 1, 0, 0, 0, 0, 0, 3⟩] } 0x1100 (le 2 0x204 ++ le 1 3)
     status0 (ran .resClaim s) = stCONFLICT ∧ (claimOf s 0x204).map (fun h => h.kind) = some 1) ∧
    (let s := { solo with claims := (List.range 32).map (fun k => ⟨0x300 + k, 0, 0, 0, 0, 0, 0, 0⟩) }
     freeInstance s 3 = none ∧ resAny 0x3FF = true ∧ status0 (ran .resClaim (ring0 s 0x1100 (le 2 0x3FF))) = stNO_RESOURCE) ∧
    (let s := ring0 { solo with claims := [⟨0x204, 0, 0, 0, 0, 0, 0, 3⟩] } 0x1101 (le 2 0x204)
     taken0 resReleaseSpec s = true ∧ status0 (ran .resRelease s) = stOK ∧ claimOf (ran .resRelease s) 0x204 = none) ∧
    status0 (ran .resRelease (ring0 { solo with claims := [⟨0x204, 1, 0, 0, 0, 0, 0, 3⟩] } 0x1101 (le 2 0x204))) = stCONFLICT ∧
    good0 resQuerySpec .resQuery solo (le 2 0x204) = true ∧ result0 (ran .resQuery (ring0 solo 0x1102 (le 2 0x204))) 10 1 = 0xFF ∧
    (let s := ran .remoteSync (ring0 solo 0x1000 [])
     s.remote.syncs = [(7, 0)] ∧ syncOpen s 0 = false ∧ s.remote.failed = [] ∧ done0 (after (.remoteSyncDone 7) s) = stOK ∧
     (s.accepted.find? (fun a => decide (a.opcode = 0x1000 ∧ a.tag = 7))).isSome = true) ∧
    good0 remoteStatusSpec .remoteStatus solo (le 1 3) = true := by decide +kernel
/-! ## Frame ports -/

/-- A port whose block is ON in MODE m. -/
def runs (p m : Nat) (s : State) : State :=
  wr (setPort (setPageSt s (portPage p) { pageSt s (portPage p) with en := .on }) p { portSt s p with modeUsed := m }) (PORT_MODE_MODE p) m

/-- A port that is link up at 1 Gb/s in VLAN 1. -/
def upAt (p : Nat) (s : State) : State := wr (wr (runs p 2 s) (PORT_STATUS_LINK_UP p) 1) (PORT_STATUS_SPEED p) 3

/-- An untagged frame of n bytes to a destination. -/
def frameOf (dst n : Nat) (f : Bool) (e : FrameEnd) : RxFrame :=
  ⟨padTo n (macBytes dst ++ macBytes 0x021122334455 ++ be 2 0x0800), f, e, none, true⟩

theorem witness_LinkState : portRuns (runs 5 2 solo) 5 = true ∧ linkUp (runs 5 2 solo) 5 = false ∧
    (let u := after (.linkUp 5 0) (runs 5 2 solo)
     linkUp u 5 = true ∧ rd u (PORT_STATUS_SPEED 5) = 3 ∧ bit (rd u (H_PEND 0x015)) 0 = true) ∧
    (let q := { upAt 5 solo with fwd := { (upAt 5 solo).fwd with egress := [⟨1, 5, 0, false, [1], 3, 0⟩, ⟨1, 6, 0, false, [1], 3, 0⟩] } }
     let d := after (.linkDown 5 .pcs) q
     linkUp q 5 = true ∧ linkUp d 5 = false ∧ d.fwd.egress.length = 1 ∧ rd d (portCtr 5 28) = 1 ∧ rd d (portCtr 5 26) = 1 ∧ bit (rd d (H_PEND 0x015)) 1 = true) ∧
    (let s := wr (wr (upAt 5 solo) (PORT_PHY_PHY_EN 5) 1) (PORT_PHY_POLL 5) 1
     pollsPhy s 5 = true ∧ linkUp (after (.phyPoll 5 0xFFFF) s) 5 = false ∧ rd (after (.phyPoll 5 0xFFFF) s) (PORT_STATUS_PHY_FAULT 5) = 1 ∧
     linkUp (after (.phyPoll 5 4) s) 5 = true ∧ rd (after (.phyPoll 5 4) s) (PORT_STATUS_PHY_LINK 5) = 1) ∧
    (let t := after (.linkUp 14 0) solo
     let l := after (.tLaneLoss 0) t
     tUp t = true ∧ rdB t (laneUp 1) = true ∧ tUp l = true ∧ rd l (PORT_STATUS_SPEED 14) = 7 ∧ rdB l (laneUp 0) = false ∧
     sameBut ([laneUp 0, PORT_STATUS_SPEED 14, PORT_STATUS_LOCAL_FAULT 14] ++ eventFields 0x01E) t l = true ∧ tUp (after (.tLaneLoss 1) l) = false ∧
     rd (after (.tLaneLoss 1) l) (laneUp 1) = 0) ∧
    rd (after (.hiBer 5) solo) (PORT_STATUS_HI_BER 5) = 1 ∧ bit (rd (after (.hiBer 5) solo) (H_PEND 0x015)) 6 = true := by decide +kernel

theorem witness_FrameReception_bad : let s := upAt 5 solo
    linkUp s 5 = true ∧ macJudge s 5 (frameOf 0x021122334466 59 true .whole) = 5 ∧ macJudge s 5 (frameOf 0x021122334466 60 false .whole) = 6 ∧
    macJudge s 5 (frameOf 0x021122334466 1600 true .whole) = 7 ∧ macJudge s 5 (frameOf 0x021122334466 60 true .codeErr) = 8 ∧
    macJudge s 5 (frameOf 0x021122334466 60 true .smdErr) = 16 ∧
    rd (after (.frameRx 5 (frameOf 0x021122334466 59 true .whole)) s) (portCtr 5 5) = 1 ∧
    rd (after (.frameRx 5 (frameOf 0x021122334466 60 false .whole)) s) (portCtr 5 6) = 1 ∧
    rd (after (.frameRx 5 (frameOf 0x021122334466 60 false .whole)) s) (NODE_OVERLAP 0) = 1 ∧
    (after (.frameRx 5 (frameOf 0x021122334466 60 false .whole)) s).fwd = s.fwd := by decide +kernel

theorem witness_FrameReception_good : let s := upAt 5 solo
    let g := frameOf 0x011122334466 60 true .whole
    macJudge s 5 g = 0 ∧ ofBe (slice g.bytes 0 6) ≠ 0x0180C2000001 ∧ groupPasses s 5 (slice g.bytes 0 6) = false ∧ rd (after (.frameRx 5 g) s) (portCtr 5 9) = 1 ∧
    rd (after (.frameRx 5 g) s) (portCtr 5 0) = 1 ∧
    (let a := wr s (PORT_VLAN_ACCEPT 5) 1
     let h := frameOf 0x021122334466 60 true .whole
     groupPasses a 5 (slice h.bytes 0 6) = true ∧ tagPasses a 5 h.bytes = false ∧ rd (after (.frameRx 5 h) a) (portCtr 5 10) = 1) ∧
    (let a := wr (upAt 0 solo) (FWD_SECSTAT_ON 0) 1
     let h := frameOf 0x021122334466 60 true .whole
     tagPasses a 0 h.bytes = true ∧ secDrops a 0 h (etherType (ingressFrame a 0 h)) = true ∧ rd (after (.frameRx 0 h) a) (FWD_SECDROP 0) = 1) := by
  decide +kernel

theorem witness_FlowAndPreemption_received : let s := wr (upAt 5 solo) (PORT_FC_RX_PAUSE_EN 5) 1
    pauseEnabled s 5 = true ∧ rd (after (.pauseRx 5 9) s) (PORT_STATUS_PAUSED 5) = 1 ∧ rd (after (.pauseRx 5 9) s) (portCtr 5 11) = 1 ∧
    bit (rd (after (.pauseRx 5 9) s) (H_PEND 0x015)) 3 = true ∧ rd (after (.pauseRx 5 0) (after (.pauseRx 5 9) s)) (PORT_STATUS_PAUSED 5) = 0 ∧
    rd (after (.pauseTimerExpiry 5 none) (after (.pauseRx 5 9) s)) (PORT_STATUS_PAUSED 5) = 0 ∧
    pauseEnabled (upAt 5 solo) 5 = false ∧ rd (after (.pauseRx 5 9) (upAt 5 solo)) (portCtr 5 13) = 1 ∧
    (let q := wr (upAt 5 solo) (PORT_FC_PFC_RX_EN 5) 0x0C
     let t := after (.pfcRx 5 0x05 9) q
     pfcRxEnabled q 5 = true ∧ rd t (PORT_STATUS_PFC_PAUSED 5) = 4 ∧ rd t (portCtr 5 12) = 1 ∧ rd (after (.pfcRx 5 0x0C 0) t) (PORT_STATUS_PFC_PAUSED 5) = 0 ∧
     rd (after (.pauseTimerExpiry 5 (some 2)) t) (PORT_STATUS_PFC_PAUSED 5) = 0 ∧ pfcRxEnabled s 5 = false ∧
     rd (after (.pfcRx 5 0x05 9) s) (portCtr 5 13) = 1) := by decide +kernel

/-- A port that sends PAUSE, with n frames from it in the buffer. -/
def filled (n : Nat) : State :=
  let s := wr (wr (wr (wr (upAt 5 solo) (PORT_FC_TX_PAUSE_EN 5) 1) (PORT_FC_THR_XOFF 5) 2) (PORT_FC_THR_XON 5) 1) (PORT_FC_TIME 5) 7
  { s with fwd := { s.fwd with egress := (List.range n).map (fun k => ⟨k, 6, 0, false, zeros 60, 5, 0⟩) } }

theorem witness_FlowAndPreemption_sent : fcSends (filled 3) 5 none = true ∧ rd (filled 3) (PORT_FC_THR_XOFF 5) < occupancy (filled 3) 5 none ∧
    xoffSent (filled 3) 5 none = false ∧
    (let x := after (.flowControlXoff 5 none) (filled 3)
     x.out.length = 1 ∧ xoffSent x 5 none = true ∧ rd x (portCtr 5 21) = 1 ∧ bit (rd x (H_PEND 0x015)) 7 = true ∧
     rd x (PORT_FC_THR_XON 5) ≤ occupancy x 5 none ∧ (after (.flowControlRefresh 5 none) x).out.length = 2 ∧
     (let e := { x with fwd := { x.fwd with egress := [] } }
      occupancy e 5 none < rd e (PORT_FC_THR_XON 5) ∧ (after (.flowControlXon 5 none) e).out.length = 2 ∧
      xoffSent (after (.flowControlXon 5 none) e) 5 none = false)) ∧
    portRuns (runs 5 2 solo) 5 = true ∧ (after (.verifyMpacketRx 5 false) (runs 5 2 solo)).out = [.mpacket 5 true] ∧
    (let v := verifyStart 5 (wr (upAt 5 solo) (PORT_PREEMPT_EN 5) 1)
     let w := after (.verifyTimeout 5) (after (.verifyTimeout 5) v)
     rd v (PORT_PREEMPT_VERIFY_STATUS 5) = 2 ∧ rd (after (.verifyMpacketRx 5 true) v) (PORT_PREEMPT_VERIFY_STATUS 5) = 3 ∧ (portSt v 5).tries = 1 ∧
     (portSt w 5).tries = 3 ∧ rd w (PORT_PREEMPT_VERIFY_STATUS 5) = 2 ∧ rd (after (.verifyTimeout 5) w) (PORT_PREEMPT_VERIFY_STATUS 5) = 4) := by decide +kernel

theorem witness_PortCommands : (let s := ring0 (runs 5 2 solo) 0x0300 (le 1 5 ++ le 1 3 ++ le 1 1 ++ zeros 1 ++ le 2 1600)
      let u := ran .portSet s
      taken0 portSetSpec s = true ∧ pageOn s 0x015 = true ∧ status0 u = stACCEPTED ∧ rd u (PORT_MODE_MODE 5) = 3 ∧ rd u (PORT_MAXLEN 5) = 1600 ∧
      (pageSt u 0x015).en = .stopping ∧ (pageSt u 0x015).held = some true ∧ (findAccepted u 0x0300 (.port 5)).isSome = true ∧
      (let d := after (.blockStartComplete 0x015) (after (.blockStopComplete 0x015) u)
       (pageSt d 0x015).en = .on ∧ done0 (after (.portSetDone 5) d) = stOK)) ∧
    (let s := wr solo (portCtr 5 3) 7
     let r (clear : Nat) := ring0 s 0x0302 (le 1 5 ++ le 1 2 ++ le 1 3 ++ le 1 clear)
     taken0 portCntSnapSpec (r 1) = true ∧ status0 (ran .portCntSnap (r 1)) = stOK ∧ result0 (ran .portCntSnap (r 1)) 24 8 = 7 ∧
     rd (ran .portCntSnap (r 1)) (portCtr 5 3) = 0 ∧ rd (ran .portCntSnap (r 0)) (portCtr 5 3) = 7) ∧
    (let s := ring0 solo 0x0303 (le 1 1 ++ le 1 3 ++ le 2 1)
     taken0 (portMdioSpec (some 0x1234)) s = true ∧ result0 (after (.portMdio take0 (some 0x1234)) s) 8 2 = 0x1234 ∧
     result0 (after (.portMdio take0 none) s) 8 2 = 0xFFFF) ∧
    taken0 (portMdioSpec (some 0x1234)) (ring0 solo 0x0303 (le 1 1 ++ le 1 0x43 ++ le 2 1)) = true := by decide +kernel
/-! ## Forwarding -/

/-- The fields of FDB_SET: address, VID, mask, queue, flags, bank. -/
def fdbArgs (mac vid mask q fl bank : Nat) : List Byte := be 6 mac ++ le 2 vid ++ le 2 mask ++ le 1 q ++ le 1 fl ++ le 1 bank

/-- A node alone after an FDB_SET. -/
def withFdb (mac vid mask q fl bank : Nat) (s : State) : State := ran .fdbSet (ring0 s 0x0400 (fdbArgs mac vid mask q fl bank))

theorem witness_TablesAndBanks_fdb : let s := ring0 solo 0x0400 (fdbArgs 0x020000000001 1 4 0 2 0)
    let u := ran .fdbSet s
    taken0 fdbSetSpec s = true ∧ copying s = false ∧ BitVec.ofNat 48 (beAt (cmd0 s).desc 0x08 6) = 0x020000000001 ∧ bit ((cmd0 s).u 0x13 1) 2 = false ∧
    fdbRoom s.fwd.bank1 0x020000000001 1 = true ∧ fdbRoom s.fwd.bank0 0x020000000001 1 = true ∧ status0 u = stOK ∧ result0 u 8 4 = 1 ∧
    (fdbFind u.fwd.bank0 0x020000000001 1).map (fun e => (e.mask, e.static)) = some (4, true) ∧ (fdbFind u.fwd.bank1 0x020000000001 1).isSome = true ∧
    (withFdb 0x020000000001 1 4 0 2 1 solo).fwd.bank0 = solo.fwd.bank0 ∧ (fdbFind (withFdb 0x020000000001 1 4 0 2 1 solo).fwd.bank1 0x020000000001 1).isSome = true ∧
    fdbFind (ran .fdbSet (ring0 { solo with fwd := u.fwd } 0x0400 (fdbArgs 0x020000000001 1 4 0 4 0))).fwd.bank0 0x020000000001 1 = none ∧
    vlanMask (withFdb 0 7 0x1234 0 0 0 solo).fwd.bank0 7 = 0x1234 ∧ (withFdb 0 7 0x1234 0 0 0 solo).fwd.bank0.uni = [] := by decide +kernel

/-- The bucket of a key full in both banks. -/
def fullBucket : State :=
  let b : Bank := { solo.fwd.bank0 with uni := List.replicate 8 ⟨0x020000000002, 1, 4, 0, false, true, false, false, false, 0⟩ }
  { solo with fwd := { solo.fwd with bank0 := b, bank1 := b } }

theorem witness_TablesAndBanks_full : let m : BitVec 48 := (((List.range 6000).find? (fun k => decide (k ≠ 2 ∧ bucketOf (BitVec.ofNat 48 (0x020000000000 + k)) 1 =
      bucketOf 0x020000000002 1))).map (fun k => BitVec.ofNat 48 (0x020000000000 + k))).getD 0
    m ≠ 0 ∧ fdbRoom fullBucket.fwd.bank1 m 1 = false ∧ status0 (withFdb m.toNat 1 4 0 0 0 fullBucket) = stNO_RESOURCE := by decide +kernel

theorem witness_TablesAndBanks_rest : (let d := le 1 9 ++ le 1 0 ++ zeros 2 ++ (le 1 1 ++ zeros 39)
      let s := ring0 (wr solo (SEP_HIT 9) 3) 0x0401 d
      taken0 sepRuleSetSpec s = true ∧ status0 (ran .sepRuleSet s) = stOK ∧ rd (ran .sepRuleSet s) (SEP_HIT 9) = 0 ∧
      (ran .sepRuleSet s).fwd.bank0.rules.lookup 9 = some (parseRule (le 1 1 ++ zeros 39)) ∧
      (ran .sepRuleSet (ring0 (wr solo (SEP_HIT 9) 3) 0x0401 (le 1 9 ++ le 1 1 ++ zeros 2 ++ (le 1 1 ++ zeros 39)))).fwd.bank0.rules = []) ∧
    (let s := ring0 solo 0x0402 (le 2 9 ++ le 1 0 ++ zeros 1 ++ (le 1 1 ++ zeros 47))
     taken0 streamSetSpec s = true ∧ status0 (ran .streamSet s) = stOK ∧ ((ran .streamSet s).fwd.run.lookup 9).isSome = true ∧
     (let t := ring0 { ran .streamSet s with regs := solo.regs } 0x0402 (le 2 8 ++ le 1 0 ++ zeros 1 ++ (le 1 1 ++ zeros 47))
      streamDup t.fwd.bank0 8 (parseStream (le 1 1 ++ zeros 47)) = true ∧ bit (rd (ran .streamSet t) (H_PEND 0x024)) 6 = true)) ∧
    (let s := ring0 fullBucket 0x0404 (le 1 1)
     taken0 fwdBankCopySpec s = true ∧ churnPhase s ≠ 4 ∧ status0 (ran .fwdBankCopy s) = stOK ∧ churnPhase (wr s CHURN_STAT_PHASE 4) = 4 ∧
     status0 (ran .fwdBankCopy (wr s CHURN_STAT_PHASE 4)) = stWRONG_STATE) ∧
    (let s := bankSwap fullBucket
     copying s = true ∧ copying (after .bankCopyDone s) = false ∧ bit (rd (after .bankCopyDone s) (H_PEND 0x020)) 4 = true) ∧
    (let s := wr (learnAt 5 0x021122334455 1 (upAt 5 solo)) FDB_CTL_AGE 300
     macGroup 0x021122334455 = false ∧ (fdbFind s.fwd.bank0 0x021122334455 1).map (fun e => (e.learned, e.static, e.mask)) = some (true, false, 0x20) ∧
     fdbFind (after (.fdbAgeExpiry 0x021122334455 1) s).fwd.bank0 0x021122334455 1 = none ∧
     after (.fdbAgeExpiry 0x021122334455 1) (wr s FDB_CTL_AGE 0) = wr s FDB_CTL_AGE 0) := by decide +kernel

/-- One gate entry staged in host queue 0, claimed by the host. -/
def staged (n : Nat) : State :=
  bar2Write { solo with claims := [⟨0x300, 0, 0, 0, 0, 0, 0, 0⟩] } (hqBase 0) (le 4 n ++ le 1 0x0F ++ zeros 3)

/-- GCL_LOAD of that entry on C3. -/
def gclArgs (n : Nat) : List Byte := le 1 5 ++ le 1 0 ++ le 2 1 ++ zeros 4 ++ le 8 100 ++ le 4 1000 ++ le 4 (crc32c (le 4 n ++ le 1 0x0F ++ zeros 3))

theorem witness_GateLists : let s := ring0 (staged 500) 0x0403 (gclArgs 500)
    let u := ran .gclLoad s
    taken0 gclLoadSpec s = true ∧ gatesOk (parseGates (bar2Read s (hqBase 0) 8) 1) (bar2Read s (hqBase 0) 8) 1000 = true ∧ status0 u = stACCEPTED ∧
    rd u (GATE_PSTAT_WAITING 5) = 1 ∧ (u.fwd.gateWait.lookup 5).map (fun g => (g.entries, g.base)) = some ([(500, 0x0F, 0)], 100) ∧
    (let b := ring0 (staged 5) 0x0403 (gclArgs 5)
     taken0 gclLoadSpec b = true ∧ status0 (ran .gclLoad b) = stBAD_ARG ∧ bit (rd (ran .gclLoad b) (H_PEND 0x023)) 14 = true) ∧
    advanceBase 100 1000 5050 = 7100 ∧ advanceBase 100 1000 5100 = 7100 ∧ advanceBase 100 1000 5101 = 8100 ∧
    (let f := after (.gclTakesForce 5) u
     f.fwd.gateWait = [] ∧ rd f (GATE_PSTAT_ON 5) = 1 ∧ rd f (GATE_PSTAT_STATES 5) = 0x0F ∧ bit (rd f (H_PEND 0x023)) 5 = true ∧ done0 f = stOK ∧
     rd (after (.gateChange 5) f) (GATE_PSTAT_ENTRY 5) = 0) := by decide +kernel

/-- A stream entry with recovery and latent error detection. -/
def recovering : Stream := parseStream (le 1 0x09 ++ zeros 13 ++ le 1 0x4A ++ zeros 33)

theorem witness_Recovery : let u := streamFresh recovering 0
    let s := { solo with fwd := { solo.fwd with bank0 := { solo.fwd.bank0 with streams := [(9, recovering)] }, run := [(9, { u with diff := 5 })] } }
    recovering.hist = 10 ∧ u.take = true ∧ (recover recovering u (some 7)).1 = true ∧ (recover recovering (recover recovering u (some 7)).2.2 (some 8)).1 = true ∧
    streamAt s 9 = some recovering ∧ recovering.seqRcvy = true ∧ recovering.latentEn = true ∧ (streamRun (after (.recoveryReset 9) s) 9).diff = 0 ∧
    bit (rd (after (.recoveryReset 9) s) (H_PEND 0x024)) 2 = true ∧ (streamRun (after (.latentTestEnd 9) s) 9).diff = 0 ∧
    bit (rd (after (.latentTestEnd 9) s) (H_PEND 0x024)) 0 = true ∧ rd (after (.latentTestEnd 9) s) FRER_STAT_LAST = 9 ∧
    writeActs solo .host 0x024 0x040 = true ∧ rd (after (.frerSelWrite .host 9) (after (.recoveryReset 9) s)) (FRER_CNT 6) = 1 ∧
    (let m := wr { solo with fwd := { solo.fwd with secPort := [(0, [(1, []), (2, []), (3, [])])] } } (FWD_SECSTAT_OLD_RX 0) 1
     let t := after (.macsecOldAnExpiry 0) (wr m (FWD_SECSTAT_TX_AN 0) 2)
     rdB m (FWD_SECSTAT_OLD_RX 0) = true ∧ (t.fwd.secPort.lookup 0).map (fun l => l.map (fun k => k.1)) = some [2, 3]) := by decide +kernel

theorem witness_HostQueues : let s := { solo with claims := [⟨0x303, 0, 0, 0, 0, 0, 0, 0⟩] }
    let t := hqDeliver 3 5 true [1, 2, 3] s
    (claimOf s 0x303).isSome = true ∧ rd s (NODE_HQ_USED 3) < 512 ∧ rd s (FWD_HQTAIL 3) < 512 ∧ hqPlace s 3 3 = some 0x2000 ∧
    bar2Read t (hqBase 3 + 0x2000) 3 = [1, 2, 3] ∧ bar2Read t (hqBase 3) 8 = [0, 0x20, 0, 0, 3, 0, 5, 0xC0] ∧ rd t (FWD_HQTAIL 3) = 1 ∧
    rd (hqDeliver 3 5 true [1] solo) (FWD_HQDROP 3) = 1 ∧ (claimOf solo 0x303).isNone = true ∧ writeActs t .host 0x020 (0x180 + 4 * 3) = true ∧
    (1 % 512 + 512 - rd t (FWD_HQHEAD 3)) % 512 ≤ rd t (NODE_HQ_USED 3) ∧ rd (after (.fwdHqheadWrite .host 3 1) t) (NODE_HQ_USED 3) = 0 ∧
    bit (rd (after (.fwdHqheadWrite .host 3 1) t) FWD_HQPEND) 3 = false ∧ writeActs solo .host 0x020 (0x2C0 + 4 * 3) = true ∧
    rd (after (.fwdHttailDoorbell .host 3 2) solo) (FWD_HTTAIL 3) = 2 ∧
    rd (after (.fwdHttailDoorbell .host 3 1) (after (.fwdHttailDoorbell .host 3 2) solo)) (FWD_HTTAIL 3) = 2 := by decide +kernel

/-- A host frame of 60 bytes for C3, DIRECT, in transmit queue 3. -/
def hostFrame : State :=
  wr (bar2Write (bar2Write (upAt 5 solo) (htBase 3) (le 4 0x1000 ++ le 2 60 ++ le 1 1 ++ le 1 0 ++ le 2 0x20 ++ zeros 6)) (htBase 3 + 0x1000)
    (frameOf 0x021122334466 60 true .whole).bytes) (FWD_HTTAIL 3) 1

theorem witness_HostQueues_sent : rd hostFrame (FWD_HTHEAD 3) ≠ rd hostFrame (FWD_HTTAIL 3) ∧
    htValid (bar2Read hostFrame (htBase 3) 16) (bar2Read hostFrame (htBase 3 + 0x1000) 60) = true ∧
    rd (after (.hostTxTake 3 true) hostFrame) (FWD_HTHEAD 3) = 1 ∧ memRead (after (.hostTxTake 3 true) hostFrame).bar2 (htBase 3 + 7) = 1 ∧
    (after (.hostTxTake 3 true) hostFrame).out.length = 1 ∧ memRead (after (.hostTxTake 3 false) hostFrame).bar2 (htBase 3 + 7) = 3 ∧
    rd (after (.hostTxTake 3 false) hostFrame) (FWD_HTDROP 3) = 1 ∧ (after (.hostTxTake 3 false) hostFrame).out = [] ∧
    memRead (after (.hostTxTake 3 true) (bar2Write hostFrame (htBase 3) [1])).bar2 (htBase 3 + 7) = 4 := by decide +kernel
/-! ## Churn -/

/-- A node alone with B1 up. -/
def one : State := upAt 0 solo

/-- What Entered asks of numbers and lists. -/
def entered (att cause : Nat) (s t : State) : Bool :=
  decide (churnPhase t = 1 ∧ rd t CHURN_STAT_ATTEMPT = att ∧ rd t CHURN_STAT_LAST_CAUSE = cause ∧ t.churn.surveys = [] ∧ t.churn.agrees = [] ∧
    t.churn.computed = none ∧ t.churn.accepted = none ∧ t.churn.instant = none ∧ t.churn.curd = s.churn.curd) &&
  [0, 1].all (fun p => decide (rd t (portCtr p 18) = rd s (portCtr p 18) + (if linkUp s p then 1 else 0)))

/-- A running attempt n. -/
def attempt (ph n : Nat) (s : State) : State := wr (wr s CHURN_STAT_PHASE ph) CHURN_STAT_ATTEMPT n

/-- A good header of attempt n from twin 0 of car 2. -/
def hdr (n : Nat) : ChurnHdr := ⟨true, true, true, n, false, 2, false, 0⟩

theorem witness_ChurnTriggers : churnsNatively one = true ∧ linkUp one 0 = true ∧ bit one.sleep.inputs.toNat 1 ≠ true ∧ one.churn.cplTrig = true ∧ churnPhase one = 0 ∧
    (let t := after (.cplChange 0 true false) one
     entered 1 3 one t = true ∧ bit t.sleep.inputs.toNat 1 = true ∧ bit (rd t (H_PEND 0x028)) 0 = true ∧ rd t CHURN_STAT_FAILURES = 0) ∧
    (let s := attempt 2 4 one
     entered 5 3 s (after (.cplChange 0 true false) s) = true ∧ bit (rd (after (.cplChange 0 true false) s) (H_PEND 0x028)) 4 = true) ∧
    (let s := attempt 3 16 one
     churnPhase (after (.cplChange 0 true false) s) = 5 ∧ bit (rd (after (.cplChange 0 true false) s) (H_PEND 0x028)) 6 = true) ∧
    (let p (n : Nat) := { attempt 4 2 one with churn := { one.churn with instant := some n } }
     churnPhase (after (.cplChange 0 true false) (p 300000)) = 4 ∧ rd (after (.cplChange 0 true false) (p 300000)) CHURN_STAT_DEFERRED = 1 ∧
     entered 3 3 (p 300001) (after (.cplChange 0 true false) (p 300001)) = true) ∧
    after (.cplChange 0 true true) one = { one with sleep := (after (.cplChange 0 true true) one).sleep } ∧
    (let s := ring0 one 0x0500 []
     taken0 churnStartSpec s = true ∧ status0 (ran .churnStart s) = stACCEPTED ∧ entered 1 4 s (ran .churnStart s) = true) ∧
    (let s := ring0 { one with churn := { one.churn with curd := some curdTwo } } 0x0501 (le 2 0x80 ++ le 1 2)
     taken0 churnSetLeadSpec s = true ∧ status0 (ran .churnSetLead s) = stACCEPTED ∧ (ran .churnSetLead s).churn.leadCmd = ⟨2, 2, 1⟩ ∧
     status0 (ran .churnSetLead (ring0 one 0x0501 (le 2 0x80 ++ le 1 2))) = stWRONG_STATE) ∧
    (let s := wr { one with tcfg := { one.tcfg with churnDue := true, keyChurnDue := true }, keys := { one.keys with tkrChurn := true } } DEV_ROLE_SELF 1
     entered 1 4 s (after .tcfgChurnDelay s) = true ∧ (after .tcfgChurnDelay s).tcfg.churnDue = false ∧ entered 1 4 s (after .keyChangeChurnDelay s) = true ∧
     rdB s DEV_ROLE_SELF = true ∧ entered 1 4 s (after .tkrChurnDelay s) = true ∧ (after .tkrChurnDelay s).keys.tkrChurn = false) := by decide +kernel

/-- What GoodChurn asks. -/
theorem good_one : GoodChurn one 0 (hdr 3) := by unfold GoodChurn; decide +kernel

theorem witness_ChurnExchange_calls : one.fuses.lc ≠ 4 ∧ one.churn.dead.contains 0 = false ∧
    rd (after (.callRx 0 { hdr 3 with known := false } 4) one) (CHURN_CNT 15) = 1 ∧ rd (after (.callRx 0 { hdr 3 with checkGood := false } 4) one) (CHURN_CNT 4) = 1 ∧
    (let a := wr one CHURN_CTL_AUTH 1
     authOn a = true ∧ churnPhase a = 0 ∧ rd (after (.callRx 0 { hdr 3 with tagGood := false } 4) a) (CHURN_CNT 5) = 1 ∧
     (after (.callRx 0 { hdr 3 with tagGood := false } 4) a).churn.tagFailed = true ∧
     bit (rd (after (.callRx 0 { hdr 3 with tagGood := false } 4) a) (H_PEND 0x028)) 7 = true) ∧
    entered 3 6 one (after (.callRx 0 (hdr 3) 4) one) = true ∧ (after (.callRx 0 (hdr 3) 4) one).churn.calledRx = [0] ∧
    after (.callRx 0 (hdr 3) 4) (attempt 5 1 one) = churnCnt 0 (attempt 5 1 one) ∧ attempting (attempt 1 2 one) = true ∧
    entered 3 6 (attempt 1 2 one) (after (.callRx 0 (hdr 3) 4) (attempt 1 2 one)) = true ∧
    (after (.callRx 0 (hdr 3) 4) (attempt 1 4 one)).churn.answered = [0] ∧ rd (after (.callRx 0 (hdr 3) 4) (attempt 1 4 one)) (portCtr 0 18) = 1 := by
  decide +kernel

/-- A survey entry of car 2, whose end 1 faces B1 of this car. -/
def entryTwo : SurveyEntry := ⟨2, 0, 0, 0, 0, 0, false, false, false, false, false, false, 2, 0xFF, true, true, false, false, 0⟩

theorem witness_ChurnExchange_surveys : let s := attempt 1 3 (upAt 1 one)
    let v : Survey := ⟨LeadCmd.none, false, [entryTwo]⟩
    isEnd s 0 = false ∧ isEnd s 1 = false ∧ (after (.surveyRx 0 (hdr 3) v) s).churn.surveys = [(0, v)] ∧
    (after (.surveyRx 0 (hdr 3) v) s).churn.owed = [(1, .survey 2 false LeadCmd.none false [entryTwo, selfEntry s true])] ∧
    (after (.surveyRx 0 (hdr 3) ⟨LeadCmd.none, false, List.replicate 64 entryTwo⟩) s).churn.owed =
      [(1, .survey 2 false LeadCmd.none true (List.replicate 64 entryTwo))] := by decide +kernel

theorem witness_ChurnExchange_timers : (let s := attempt 1 3 (upAt 1 one)
      s.churn.calledRx.contains 0 = false ∧ rd (after (.noPeerTimeout 0) s) (CHURN_CNT 14) = 1 ∧ bit (rd (after (.noPeerTimeout 0) s) (H_PEND 0x028)) 11 = true ∧
      isEnd (after (.noPeerTimeout 0) s) 0 = true ∧ (after (.noPeerTimeout 0) s).churn.owed.map (fun o => o.1) = [1] ∧
      rd (after (.churnBeat 1) (after (.noPeerTimeout 0) s)) (portCtr 1 18) = 1 ∧ (after (.churnBeat 1) (after (.noPeerTimeout 0) s)).churn.owed = []) ∧
    (let s := after (.linkUp 14 0) (attempt 1 3 one)
     tUp s = true ∧ churnPhase s = 1 ∧ (s.churn.surveys.lookup 0).isNone = true ∧
     (after (.partnerListRx ⟨LeadCmd.none, false, [entryTwo]⟩) s).churn.partner = some ⟨LeadCmd.none, false, [entryTwo]⟩) ∧
    (let s := attempt 2 3 one
     entered 4 0x11 s (after .attemptTimeout s) = true ∧ rd (after .attemptTimeout s) CHURN_STAT_FAILURES = 1 ∧ bit (rd (after .attemptTimeout s) (H_PEND 0x028)) 5 = true ∧
     churnPhase (after .attemptTimeout (wr s CHURN_STAT_FAILURES 2)) = 5 ∧ after .attemptTimeout one = one) ∧
    after .splitRetryExpiry (wr (attempt 5 1 one) CHURN_CTL_SPLIT_RETRY 0) = wr (attempt 5 1 one) CHURN_CTL_SPLIT_RETRY 0 ∧ rd (attempt 5 1 one) CHURN_CTL_SPLIT_RETRY ≠ 0 := by
  decide +kernel

/-- A node with both lists that waits for an AGREE. -/
def listedTwo : State :=
  let s := attempt 2 3 one
  { s with churn := { s.churn with computed := some curdTwo, bothLists := true, lineEnd := [1] } }

theorem witness_Agreement : GoodChurn listedTwo 0 (hdr 3) ∧ churnPhase listedTwo = 2 ∧ rd listedTwo CHURN_STAT_ATTEMPT = 3 ∧ listedTwo.churn.agrees = [] ∧
    listedTwo.churn.bothLists = true ∧ listedTwo.churn.partnerBoth = [] ∧ rd listedTwo CHURN_STAT_FAILURES < 3 := by unfold GoodChurn; decide +kernel

/-- A leader, alone on its line, whose line is verified. -/
def leading : State :=
  let s := wr (after (.linkUp 14 0) (attempt 3 3 solo)) CHURN_STAT_LEADER 1
  { s with churn := { s.churn with computed := some curdTwo, accepted := some curdTwo, lineEnd := [0, 1] } }

theorem witness_Agreement_leader : leading.phase = .running ∧ leading.churn.ttdp = false ∧ churnPhase leading = 3 ∧ tUp leading = true ∧
    leading.churn.accepted = some curdTwo ∧ rdB leading CHURN_STAT_LEADER = true ∧ sidesVerified leading (curdDigest curdTwo) = true ∧
    leading.churn.bothLists = false := by decide +kernel

/-- A node that has accepted a curd and is no leader. -/
def agreedTwo : State :=
  let s := attempt 3 3 one
  { s with churn := { s.churn with computed := some curdTwo, accepted := some curdTwo, lineEnd := [1] } }

theorem witness_CommitOfCurd : GoodChurn agreedTwo 0 (hdr 3) ∧ rd agreedTwo CHURN_STAT_ATTEMPT = 3 ∧ agreedTwo.churn.held = none ∧ churnPhase agreedTwo = 3 ∧
    agreedTwo.churn.accepted = some curdTwo ∧ rdB agreedTwo CHURN_STAT_LEADER = false ∧ agreedTwo.churn.bothLists = false := by unfold GoodChurn; decide +kernel

theorem witness_CommitOfCurd_instant : (let s := attempt 4 3 agreedTwo
      s.churn.relayOnly = false ∧ churnPhase s = 4 ∧ s.churn.accepted = some curdTwo) ∧
    (let s := { attempt 1 3 one with churn := { one.churn with held := some (0, ⟨[], 5, 0, 0, false, false, 0⟩, 5, 0) } }
     attempting s = true ∧ s.churn.held.isSome = true ∧ entered 4 0x15 s (after .commitInstant s) = true) ∧ after .commitInstant one = one := by decide +kernel

theorem witness_TtdpMode : (let s := ring0 solo 0x0502 (le 1 1 ++ le 1 0)
      taken0 churnModeSpec s = true ∧ status0 (ran .churnMode s) = stOK ∧ rd (ran .churnMode s) CHURN_CTL_MODE = 1 ∧
      status0 (ran .churnMode (ring0 solo 0x0502 (le 1 0 ++ le 1 1))) = stWRONG_STATE) ∧
    (let s := { one with churn := { one.churn with ttdp := true } }
     linkUp s 0 = true ∧ (after (.ttdpHelloRx 0 true) s).churn.ttdpPeer = [0] ∧ (after (.ttdpTopologyRx 0) s).churn.ttdpPeer = [0] ∧
     (after (.ttdpTimerExpiry (.neighbourLost 0)) (after (.ttdpHelloRx 0 true) s)).churn.ttdpPeer = [] ∧ (after (.ttdpTimerExpiry .helloSlow) s).out = [.ttdp 0 1] ∧
     rdB s CHURN_CTL_INHIBIT = false ∧ after (.ttdpCommit ⟨curdTwo.cars, 0⟩) (wr s CHURN_CTL_INHIBIT 1) = wr s CHURN_CTL_INHIBIT 1) := by decide +kernel
/-! ## Train addressing and the hierarchy -/

/-- A HELLO of worker 9 on a link. -/
def hello (link : BitVec 8) (last : Nat) : WorkerHello := ⟨9, 0x020000000009, last, link, true⟩

/-- The ACK of worker 9 with index n + 1. -/
def ack (n : Nat) : WorkerAck := ⟨9, n + 1, 0, 5, true⟩

/-- A node alone with C3 up and its gates closed. -/
def quiet : State := wr (upAt 5 solo) (GATE_PSTAT_STATES 5) 0

/-- The node after the HELLO of a free worker; and after its ACK. -/
def offered : State := after (.workerHelloRx (hello 5 4)) quiet
def present : State := after (.workerAckRx (ack 3)) offered

theorem witness_WorkerRoster_hello : ownLink quiet 5 = true ∧ ownLink quiet 6 = false ∧ entryByUid quiet 9 = none ∧
    rosterUsed quiet < rosterQuota quiet ∧ chooseEntry quiet 4 = some 3 ∧ entryState offered 3 = 1 ∧ rd offered (DEV_WRK_UID 3) = 9 ∧
    lookupD offered.roster.sends 3 0 = 1 ∧ entryState offered 0 = 0 ∧
    (let s := wr (wr (wr (wr quiet (DEV_WRK_STATE 0) 2) (DEV_WRK_STATE 1) 2) (DEV_WRK_STATE 2) 2) (DEV_WRK_STATE 3) 2
     let q := wr (wr (wr (wr s (DEV_WRK_STATE 4) 2) (DEV_WRK_STATE 5) 2) (DEV_WRK_STATE 6) 2) (DEV_WRK_STATE 7) 2
     let f := wr (wr (wr (wr q (DEV_WRK_STATE 8) 2) (DEV_WRK_STATE 9) 2) (DEV_WRK_STATE 10) 2) (DEV_WRK_STATE 11) 2
     let g := wr (wr (wr (wr f (DEV_WRK_STATE 12) 1) (DEV_WRK_STATE 13) 1) (DEV_WRK_STATE 14) 1) (DEV_WRK_STATE 15) 1
     rosterQuota g ≤ rosterUsed g ∧ bit (rd (after (.workerHelloRx (hello 5 4)) g) (H_PEND 0x000)) 11 = true) ∧
    (let l := wr offered (DEV_WRK_STATE 3) 3
     entryByUid l 9 = some 3 ∧ entryState l 3 = 3 ∧ entryState (after (.workerHelloRx (hello 5 0)) l) 3 = 1) := by decide +kernel

theorem witness_WorkerRoster_present : ownLink offered 5 = true ∧ entryByUid offered 9 = some 3 ∧ entryState present 3 = 2 ∧ rd present (DEV_WRK_STATE_LINK1 3) = 5 ∧
    bit (rd present (H_PEND 0x000)) 10 = true ∧ lookupD present.roster.sends 3 0 = 0 ∧
    (after (.workerAckRx (ack 3)) { present with roster := offered.roster }).regs = present.regs ∧
    (let s := wr (wr present (DEV_WRK_STATE_LINK1 3) 0x46) (DEV_WRK_STATE_LINK2 3) 0xFF
     otherTwin 0x46 5 = true ∧ rd (after (.workerHelloRx (hello 5 0)) s) (DEV_WRK_STATE_LINK2 3) = 5) ∧
    (after (.assignRetry 3) present).regs = present.regs ∧ lookupD (after (.assignRetry 3) offered).roster.sends 3 0 = 2 ∧
    (let s (st : Nat) := wr { offered with roster := { offered.roster with sends := [(3, 3)] } } (DEV_WRK_STATE 3) st
     entryState (after (.assignRetry 3) (s 1)) 3 = 0 ∧ rd (after (.assignRetry 3) (s 1)) (DEV_WRK_UID 3) = 0 ∧ entryState (after (.assignRetry 3) (s 2)) 3 = 3) ∧
    entryState (after (.rosterBeatTimeout 3) present) 3 = 3 ∧ (after (.rosterBeatTimeout 3) offered).regs = offered.regs ∧
    (after (.rosterHoldExpiry 3) present).regs = present.regs ∧
    entryState (after (.rosterHoldExpiry 3) (after (.rosterBeatTimeout 3) present)) 3 = 0 := by decide +kernel

/-- The 200 bytes of a train configuration with sequence number n. -/
def tcfgData (n : Nat) : List Byte :=
  le 4 0x43545A46 ++ le 4 n ++ le 4 200 ++ le 2 3000 ++ le 1 1 ++ le 1 16 ++ le 2 1000 ++ le 2 60 ++ zeros 4 ++ zeros 24 ++ zeros 64 ++
  le 2 88 ++ le 1 0 ++ zeros 1 ++ zeros 16 ++ zeros 64 ++ le 2 60 ++ zeros 2

/-- A segment of it from the manager. -/
def tcfgSeg (n i count total : Nat) (d : List Byte) : TcfgSeg := ⟨true, true, true, i, count, BitVec.ofNat 32 n, total, d⟩

/-- The train configuration that these bytes hold. -/
def tcfgOf (n : Nat) : TrainConfig :=
  ⟨BitVec.ofNat 32 n, 3000, true, 16, 1000, 60, zeros 24, [], [], false, false, zeros 16, zeros 64, 60, tcfgData n⟩

theorem witness_TrainConfiguration : parseTcfg (tcfgData 7) = some (tcfgOf 7) ∧ tcfgSource solo (tcfgSeg 7 0 1 200 (tcfgData 7)) = true ∧
    tcfgSource solo { tcfgSeg 7 0 1 200 (tcfgData 7) with srcManager := false } = false ∧ tcfgSeq solo = 0 ∧
    (let t := after (.tcfgRx (tcfgSeg 7 0 1 200 (tcfgData 7)) true) solo
     t.tcfg.pend = some (tcfgOf 7) ∧ t.store.tcfg = some (tcfgOf 7) ∧ t.tcfg.churnDue = true ∧ rd t DEV_TCFG_PEND = 7 ∧ bit (rd t (H_PEND 0x000)) 9 = true ∧
     (let o := after (.tcfgRx (tcfgSeg 6 0 1 200 (tcfgData 6)) true) t
      rd o DEV_TCFG_STAT_OLDER = 1 ∧ o.tcfg.pend = some (tcfgOf 7)) ∧
     (let b := after (.tcfgRx (tcfgSeg 8 0 1 200 (tcfgData 8)) false) t
      rd b DEV_TCFG_STAT_INVALID = 1 ∧ b.store = t.store ∧ newestTcfg b = newestTcfg t)) ∧
    (let t := after (.tcfgRx (tcfgSeg 7 1 2 1100 (zeros 76)) true) solo
     t.tcfg.segs = [(1, zeros 76)] ∧ (after .tcfgSegmentTimeout t).tcfg.segs = []) := by decide +kernel

/-- The manager of a train, C3 down and B1 up, that owes its configuration. -/
def managing : State :=
  let s := wr (train one) DEV_ROLE_SELF 1
  { s with tcfg := { s.tcfg with pend := some (tcfgOf 7), sendDue := true } }

theorem witness_Arp : (ownEntry (train one)).map (fun e => (e.car, e.handle)) = some (1, 0x40) ∧ arpOwner (train one) (numIp 1 1) = some (trainMac 0 0x40) ∧
    arpOwner (train one) (handleIp 0x40 3) = some (trainMac 2 0x40) ∧ arpOwner (train one) (numIp 2 1) = none ∧
    (managing.tcfg.sendDue = true ∧ rdB managing DEV_ROLE_SELF = true ∧ rdB managing TWIN_STAT_LATE = false ∧ newestTcfg managing = some (tcfgOf 7)) ∧
    after .tcfgSend solo = solo ∧ churnPhase (attempt 4 1 managing) = 4 ∧ agreedTwo.churn.deferred = none ∧
    (managerOf curdTwo []).isSome = true := by decide +kernel
/-! ## Train time -/

/-- A node whose train time is n ns, with comparator 3 claimed by the host for a use. -/
def timed (n use : Nat) (s : State) : State := { s with time := { s.time with ns := n }, claims := [⟨0x203, 0, 0, 0, 0, 0, 0, use⟩] }

/-- Arguments of CMP_ARM: comparator, periodic, target, period. -/
def armArgs (c p tgt per : Nat) : List Byte := le 1 c ++ le 1 p ++ zeros 6 ++ le 8 tgt ++ le 4 per

/-- The status of a CMP_ARM. -/
def armStatus (s : State) (d : List Byte) : Nat :=
  if taken0 cmpArmSpec (ring0 s 0x0602 d) then status0 (ran .cmpArm (ring0 s 0x0602 d)) else 0x100

theorem witness_ComparatorsAndCaptures_arm : armStatus solo (armArgs 3 0 5000 0) = stWRONG_STATE ∧
    armStatus (timed 1000 0x12 solo) (armArgs 3 1 5000 19999) = stBAD_ARG ∧ armStatus (timed 1000 0x12 solo) (armArgs 3 1 3000 20000) = stOK ∧
    armStatus (timed 1000 0x12 solo) (armArgs 3 0 2999 0) = stTOO_LATE ∧ armStatus (timed 1000 0x14 solo) (armArgs 3 1 3000 1000) = stOK ∧
    armStatus (timed 1000 0x14 solo) (armArgs 3 1 3000 999) = 0x100 ∧
    (let t := ran .cmpArm (ring0 (timed 1000 0x14 solo) 0x0602 (armArgs 3 1 2000001001 1000))
     cmpArmed t 3 = true ∧ rd t (TRIG_CMP_HELD_TCS 3) = 1 ∧ rd t (TRIG_TGT 3) = 2000001001 ∧ cmpPeriod t 3 = 1000 ∧
     rd (after (.cmpHeldArm 3) t) (TRIG_CMP_HELD_TCS 3) = 1 ∧
     rd (after (.cmpHeldArm 3) { t with time := { t.time with ns := 1001 } }) (TRIG_CMP_HELD_TCS 3) = 0) ∧
    rd (ran .cmpArm (ring0 (timed 1000 0x14 solo) 0x0602 (armArgs 3 0 2000001000 0))) (TRIG_CMP_HELD_TCS 3) = 0 := by decide +kernel

/-- Comparator 3 armed on 3000 for a use, periodic or not, at time n. -/
def armedAt (n use : Nat) (periodic : Bool) : State := armCmp 3 3000 1000 periodic (timed n use solo)

theorem witness_ComparatorsAndCaptures_fire : cmpReached 2999 3000 = false ∧ cmpReached 3000 3000 = true ∧ cmpReached (2 ^ 31 + 2999) 3000 = true ∧
    cmpReached (2 ^ 31 + 3000) 3000 = false ∧ after (.cmpFire 3) (armedAt 2999 0x14 true) = armedAt 2999 0x14 true ∧
    (let s := armedAt 3000 0x14 true
     let t := after (.cmpFire 3) s
     cmpArmed s 3 = true ∧ rdB s (TRIG_CMP_HELD_TCS 3) = false ∧ cmpUse s 3 = some 0x14 ∧ lineUse (some 0x14) = false ∧ lineUse (some 0x13) = true ∧
     rd t TRIG_FIRED = 8 ∧ rd t (TRIG_CMP_FIRES 3) = 1 ∧ rd t (H_PEND 0x031) = 1 ∧ cmpArmed t 3 = true ∧ rd t (TRIG_TGT 3) = 4000 ∧
     t.time.firedSince = [3]) ∧
    (let t := after (.cmpFire 3) (armedAt 3000 3 false)
     cmpArmed t 3 = false ∧ rd t (TRIG_TGT 3) = 3000 ∧ bit t.time.trig.toNat 2 = true ∧
     bit (after (.cmpFire 3) (armCmp 3 3000 0 false (wr t (TRIG_OUT_TOGGLE 2) 1))).time.trig.toNat 2 = false) ∧
    (let d := ring0 (after (.cmpFire 3) (armedAt 3000 0x14 true)) 0x0603 (le 1 3)
     taken0 cmpDisarmSpec d = true ∧ status0 (ran .cmpDisarm d) = stOK ∧ result0 (ran .cmpDisarm d) 8 1 = 1 ∧ cmpArmed (ran .cmpDisarm d) 3 = false) ∧
    (let d := ring0 (timed 0 3 solo) 0x0603 (le 1 4)
     taken0 cmpDisarmSpec d = true ∧ status0 (ran .cmpDisarm d) = stWRONG_STATE) := by decide +kernel

/-- An edge on a capture input. -/
def edge (rising : Bool) (stamp : Nat) : CapEdge := ⟨rising, BitVec.ofNat 64 stamp, false⟩

theorem witness_ComparatorsAndCaptures_capture : let s := wr solo (TRIG_CAPCFG_EDGE 2) 1
    edgeSelected s 2 false = false ∧ edgeSelected s 2 true = true ∧ role s ≠ 1 ∧ rd (after (.captureEdge 2 (edge false 100)) s) (TRIG_CAP_CNT 2) = 0 ∧
    (let t := after (.captureEdge 2 (edge true 100)) s
     rd t (TRIG_CAP 2) = 100 ∧ rd t (TRIG_CAP_CNT 2) = 1 ∧ bit (rd t (H_PEND 0x031)) 10 = true ∧ rd t (TRIG_CAP_FLG_RISING 2) = 1 ∧
     rd (after (.captureEdge 2 (edge true 120)) t) (TRIG_CAP 2) = 120 ∧
     (let o := after (.captureEdge 2 (edge true 119)) t
      rd o (TRIG_CAP 2) = 100 ∧ rd o (TRIG_CAP_CNT 2) = 2 ∧ bit (rd o TRIG_CAPSTAT_OVERRUN) 2 = true)) ∧
    (let h := wr shadow (TRIG_CAPCFG_EDGE 2) 1
     edgeSelected h 2 true = true ∧ role h = 1 ∧ rd (after (.captureEdge 2 (edge true 100)) h) (TRIG_CAP_CNT 2) = 0 ∧
     (after (.captureEdge 2 (edge true 100)) h).time.shadowCaps = [(2, 200)]) ∧
    (after (.captureEdge 2 (edge true 100)) (wr active (TRIG_CAPCFG_EDGE 2) 1)).twin.own = [⟨5, .capture 2 (edge true 100), true⟩] := by decide +kernel

/-- C1 and C2 (ports 0 and 1) up with gPTP, asCapable; domain 0 has grandmaster 77 and slave port 0. -/
def synced : State :=
  let s := wr (wr (upAt 0 (upAt 1 solo)) (TIME_LINKDLY_ASCAPABLE 0) 1) (TIME_LINKDLY_ASCAPABLE 1) 1
  wr { s with time := { s.time with d0 := { s.time.d0 with known := true, slave := 0 } } } (TIME_GM 0) 77

/-- A domain with counts of good and bad measurements. -/
def counted (good bad : Nat) : State := { synced with time := { synced.time with d0 := { synced.time.d0 with good := good, bad := bad } } }

/-- A measurement. -/
def meas (servo : Int) (gm : Nat) : SyncMeas := ⟨-5, servo, nominalIncr, BitVec.ofNat 64 gm, true⟩

theorem witness_GptpDomains_sync : rdB synced (TIME_DOM_EN 0) = true ∧ gptpPort synced 0 = true ∧ gptpPort synced 1 = true ∧ gptpPort synced 5 = false ∧
    (domSt synced 0).known = true ∧ gmSelf synced 0 = false ∧ (domSt synced 0).slave = 0 ∧ rd synced (TIME_GM 0) = 77 ∧ syncThr synced = 100 ∧
    (let t := after (.syncRx 0 0 (meas 100 77)) (counted 15 0)
     domSync (counted 15 0) 0 = false ∧ domSync t 0 = true ∧ bit (rd t (H_PEND 0x030)) 0 = true ∧ t.out.length = 1) ∧
    (domSt (after (.syncRx 0 0 (meas (-100) 77)) (counted 14 0)) 0).good = 15 ∧ (domSt (after (.syncRx 0 0 (meas 101 77)) (counted 14 0)) 0).good = 0 ∧
    (let y := wr (counted 16 1) (TIME_STAT_SYNC 0) 1
     domSync y 0 = true ∧ domSync (after (.syncRx 0 0 (meas 1001 77)) y) 0 = false ∧ domSync (after (.syncRx 0 0 (meas 1000 77)) y) 0 = true ∧
     (let t := after (.syncRx 0 0 (meas 5 78)) y
      domSync t 0 = false ∧ rd t (TIME_GM 0) = 78 ∧ bit (rd t (H_PEND 0x030)) 5 = true)) ∧
    (let t := after (.syncRx 0 0 (meas 5 77)) (wr synced TIME_STAT_STEPPED 1)
     rd t (TIME_OFF 0) = 0xFFFFFFFB ∧ t.out = [.gptp 1 0 0 0]) ∧
    after (.syncRx 0 1 (meas 5 77)) synced = synced := by decide +kernel

theorem witness_GptpDomains_grandmaster : let own := wr (wr synced (TIME_STAT_GM_SELF 0) 1) (TIME_DOM_GM_CAP 0) 1
    rdB own (TIME_DOM_GM_CAP 0) = true ∧ gmSelf own 0 = true ∧ (after (.syncInterval 0 false) own).out = [.gptp 0 0 0 248, .gptp 1 0 0 248] ∧
    gmSelf synced 0 = false ∧ after (.syncInterval 0 false) synced = synced ∧ after (.syncReceiptTimeout 0) own = own ∧
    (let t := after (.announceRx 0 1 ⟨79, false, 1⟩) own
     (domSt own 0).known = true ∧ gmSelf t 0 = false ∧ (domSt t 0).slave = 1 ∧ rd t (TIME_GM 0) = 79 ∧ bit (rd t (H_PEND 0x030)) 5 = true) ∧
    after (.announceRx 0 5 ⟨79, false, 1⟩) synced = synced ∧
    (let y := wr synced (TIME_STAT_SYNC 0) 1
     let t := after (.syncReceiptTimeout 0) y
     let n := after (.announceReceiptTimeout 0 none) y
     domSync t 0 = false ∧ rd t (TIME_GM 0) = 77 ∧ bit (rd t (H_PEND 0x030)) 0 = true ∧ rd n (TIME_GM 0) = 0 ∧ (domSt n 0).known = false ∧
     bit (rd n (H_PEND 0x030)) 5 = true) := by decide +kernel

theorem witness_GptpDomains_delay : let s := upAt 0 solo
    let p (n : Nat) : State := { s with time := { s.time with pdelay := [(0, n)] } }
    gptpOn solo 0 = false ∧ gptpOn s 0 = true ∧ (after (.pdelayExchange 0 false 5) (p 2)).time.pdelay = [] ∧
    (after (.pdelayExchange 0 true 5) (p 1)).time.pdelay = [(0, 2)] ∧
    (let t := after (.pdelayExchange 0 true 8000) (p 2)
     rd t (TIME_LINKDLY 0) = 8000 ∧ rd t (TIME_LINKDLY_VALID 0) = 1 ∧ rd t (TIME_LINKDLY_ASCAPABLE 0) = 1) ∧
    (let t := after (.pdelayExchange 0 true 8001) (p 2)
     rd t (TIME_LINKDLY_ASCAPABLE 0) = 0 ∧ bit (rd t (H_PEND 0x030)) 9 = true) := by decide +kernel

theorem witness_TrainTimeFollows_select : let st := wr solo TIME_STAT_STEPPED 1
    (let d := ring0 st 0x0601 (le 1 1)
     taken0 timeSelectSpec d = true ∧ status0 (ran .timeSelect d) = stOK ∧ rd (ran .timeSelect d) TIME_CTL_SELECT = 1 ∧ selDom (ran .timeSelect d) = 1) ∧
    (let y := wr (wr st (TIME_STAT_SYNC 0) 1) (TIME_STAT_SYNC 1) 1
     let t := after (.syncReceiptTimeout 0) y
     rd y TIME_CTL_SELECT = 2 ∧ rd y TIME_CTL_PREF = 0 ∧ selDom y = 0 ∧ gmSelf y 0 = false ∧ domSync y 1 = true ∧ selDom t = 1 ∧ rdB t TIME_STAT_SLEWING = true ∧
     bit (rd t (H_PEND 0x030)) 2 = true ∧
     (let r := after .revertTimerExpiry (wr t (TIME_STAT_SYNC 0) 1)
      domSync (wr t (TIME_STAT_SYNC 0) 1) 0 = true ∧ selDom r = 0 ∧ rdB r TIME_STAT_SLEWING = true) ∧
     after .revertTimerExpiry t = t ∧
     rd (after .slewDone t) TIME_STAT_SLEWING = 0 ∧ bit (rd (after .slewDone t) (H_PEND 0x030)) 3 = true ∧ after .slewDone y = y) ∧
    (let y := wr st (TIME_STAT_SYNC 0) 1
     let t := after (.syncReceiptTimeout 0) y
     domSync y 1 = false ∧ selDom t = 0 ∧ rdB t TIME_STAT_HOLDOVER = true ∧ bit (rd t (H_PEND 0x030)) 7 = true) := by decide +kernel

theorem witness_TrainTimeFollows_pps : let p := wr solo (TIME_DOM_PPS_EN 0) 1
    after (.ppsEdge 0 true) solo = solo ∧ writeActs p .host 0x030 0x120 = true ∧ rd p TIME_GM_SEC_HI < 2 ^ 16 ∧ rdB p TIME_STAT_STEPPED = false ∧
    (let a := after (.timeGmSecWrite .host 1000) (wr p TIME_GM_SEC_HI 1)
     let t := after (.ppsEdge 0 true) a
     a.time.load = some (2 ^ 32 + 1000) ∧ rdB a (TIME_DOM_PPS_EN 0) = true ∧ t.time.ns = (2 ^ 32 + 1000) * 1000000000 ∧ rd t TIME_STAT_STEPPED = 1 ∧
     bit (rd t (H_PEND 0x030)) 4 = true ∧ (after (.timeGmSecWrite .host 7) t).time = t.time) ∧
    (let g := wr (wr p TIME_STAT_STEPPED 1) (TIME_STAT_GM_SELF 0) 1
     let t := after (.ppsEdge 0 true) g
     gmSelf g 0 = true ∧ selDom g = 0 ∧ rdB g TIME_STAT_STEPPED = true ∧ (domSt t 0).pps = true ∧ ownClass t 0 = 6 ∧ t.regs = g.regs ∧
     ownClass (after (.ppsStop 0) t) 0 = 248) := by decide +kernel

theorem witness_TrainTimeFollows_skew : let s (hi lo : Nat) : State :=
      let u := wr active (PORT_STATUS_LINK_UP 14) 1
      { u with time := { u.time with skewHi := hi, skewLo := lo } }
    joined solo = false ∧ joined (s 0 0) = true ∧ tUp (s 0 0) = true ∧
    (let t := after (.twinSkewMeasure (-101)) (s 2 0)
     rdB t TIME_STAT_TWIN_SKEW = true ∧ bit (rd t (H_PEND 0x030)) 8 = true ∧ role t = 0 ∧
     rd (after (.twinSkewMeasure 50) { t with time := { t.time with skewLo := 2 } }) TIME_STAT_TWIN_SKEW = 0) ∧
    (after (.twinSkewMeasure 100) (s 2 2)).time.skewHi = 0 ∧ (after (.twinSkewMeasure 51) (s 2 2)).time.skewLo = 0 ∧
    (after (.twinSkewMeasure 101) (s 1 0)).regs = (s 1 0).regs := by decide +kernel
/-! ## Telegram engine -/

/-- The 48 bytes of a publication on comparator c. -/
def pubEntry (flags c len div : Nat) : List Byte :=
  le 1 flags ++ le 1 0 ++ le 1 c ++ le 1 0 ++ le 4 0x55 ++ le 4 0x0A000201 ++ le 2 0 ++ le 2 len ++ zeros 6 ++ le 2 div ++ zeros 24

/-- Arguments of PUB_SET, SUB_SET and ROUTE_SET. -/
def entryArgs (n : Nat) (d : List Byte) : List Byte := le 2 n ++ zeros 2 ++ d

/-- A node in a train with comparator 3 claimed for telegrams, TLG on, and publication 5 of 4 bytes set. -/
def publishing (flags div : Nat) : State :=
  let s := timed 200000 0x11 (setPageSt (train solo) 0x038 { pageSt solo 0x038 with en := .on })
  ran .pubSet (ring0 s 0x0700 (entryArgs 5 (pubEntry flags 3 4 div)))

/-- The publication enabled. -/
def pubOn (flags : Nat) : State :=
  let s := publishing flags 0
  { s with tlg := { s.tlg with pubs := s.tlg.pubs.map (fun p => (p.1, { p.2 with enabled := true })) } }

theorem witness_Publications_commands : (let s := timed 0 0x11 solo
     good0 pubSetSpec .pubSet s (entryArgs 5 (pubEntry 0 3 4 0)) = true ∧ holdsCmp s (.host 0) 3 0x11 = true ∧ holdsCmp s (.host 0) 4 0x11 = false ∧
     taken0 pubSetSpec (ring0 s 0x0700 (entryArgs 2047 (pubEntry 0 4 4 0))) = true ∧
     status0 (ran .pubSet (ring0 s 0x0700 (entryArgs 2047 (pubEntry 0 4 4 0)))) = stWRONG_STATE ∧
     taken0 pubSetSpec (ring0 s 0x0700 (entryArgs 2048 (pubEntry 0 4 4 0))) = false) ∧
    ((pubAt (publishing 0 0) 5).map (fun p => (p.divider, p.comId, p.len, p.enabled)) = some (1, 0x55, 4, false)) ∧
    pubAt (publishing 0 0) 6 = none ∧
    (let e (n : Nat) : State := ring0 (timed 0 0x11 solo) 0x0702 (le 1 0 ++ zeros 1 ++ le 2 n ++ le 1 1)
     taken0 tlgEnableSpec (e 5) = true ∧ status0 (ran .tlgEnable (e 5)) = stWRONG_STATE) ∧
    (let p := { publishing 0 0 with pending := [] }
     let e : State := wr (ring0 (wr (wr p (CMD_SQHEAD 0) 0) (CMD_SQTAIL 0) 0) 0x0702 (le 1 0 ++ zeros 1 ++ le 2 5 ++ le 1 1)) (CMD_SQTAIL 0) 1
     taken0 tlgEnableSpec e = true ∧ (pubAt (ran .tlgEnable e) 5).map (fun p => p.enabled) = some true) := by decide +kernel

/-- A route with n fields from subscription 9 to object 2 of channel 1. -/
def routeEntry (flags n : Nat) : List Byte := le 1 flags ++ le 1 1 ++ le 2 2 ++ le 2 9 ++ le 1 n ++ le 1 0 ++
  padTo 40 ((List.replicate n (le 2 0 ++ le 2 8 ++ le 1 8)).foldr (fun a b => a ++ b) [])

/-- A node whose valid routes hold k copies. -/
def copies (k : Nat) : State := { solo with tlg := { solo.tlg with routes := [(1, ⟨false, false, false, 0, 0, 0, List.replicate k (0, 0, 1)⟩)] } }

theorem witness_Publications_routes : (let d (s : State) (f n : Nat) : State := ring0 s 0x0703 (entryArgs 7 (routeEntry f n))
     taken0 routeSetSpec (d (copies 2047) 1 2) = true ∧ status0 (ran .routeSet (d (copies 2047) 1 2)) = stNO_RESOURCE ∧
     taken0 routeSetSpec (d (copies 2047) 1 1) = true ∧ status0 (ran .routeSet (d (copies 2047) 1 1)) = stOK ∧
     ((ran .routeSet (d (copies 1) 1 1)).tlg.routes.lookup 7).map (fun r => (r.channel, r.object)) = some (1, 2) ∧
     ((ran .routeSet (d (copies 1) 1 1)).tlg.routes.lookup 7).map (fun r => (r.index, r.fields)) = some (9, [(0, 8, 8)]) ∧
     taken0 routeSetSpec (d (copies 1) 0 8) = true ∧ (ran .routeSet (d (copies 1) 0 8)).tlg = (copies 1).tlg) := by decide +kernel

theorem witness_Publications_release : writeActs (publishing 0 0) .host 0x038 0x040 = true ∧ (pubAt (publishing 0 0) (5 % 2048)).isSome = true ∧
    (let t := after (.tlgPubdbWrite .host 5 true) (bar2Write (publishing 0 0) (0x3200000 + 5 * 0x600) [1, 2, 3, 4, 5])
     (pubAt t 5).map (fun p => p.data) = some [1, 2, 3, 4]) ∧
    (let t := after (.tlgPubdbWrite .host 5 false) (publishing 0 0)
     rd t TLG_PUBDB_CHK_ERR = 1 ∧ rd t (TLG_CNT 14) = 1 ∧ bit (rd t (H_PEND 0x038)) 9 = true) ∧
    tlgOn (pubOn 0) = true ∧ (pubAt (pubOn 0) 5).map (fun p => (p.enabled, p.control, p.divider, p.lastSend)) = some (true, false, 1, none) ∧
    (pubAt (pubOn 0) 5).any (fun p => (pubDest (pubOn 0) p).isSome) = true ∧ (ownEntry (pubOn 0)).isSome = true ∧
    (let t := releasePub 5 (pubOn 0)
     rd t (TLG_CNT 0) = 1 ∧ (pubAt t 5).map (fun p => (p.seq, p.ssc, p.lastSend)) = some (1, 0, some 200000) ∧
     rd (releasePub 5 { t with time := { t.time with ns := 324999 } }) (TLG_CNT 1) = 1 ∧
     rd (releasePub 5 { t with time := { t.time with ns := 325000 } }) (TLG_CNT 0) = 2) ∧
    (let f := wr (pubOn 8) TWIN_STAT_ROLE 3
     (pubAt f 5).map (fun p => p.control) = some true ∧ isFenced f = true ∧ rd (releasePub 5 f) (TLG_CNT 3) = 1) ∧
    (let f := { pubOn 0 with tlg := { (pubOn 0).tlg with pubs := (pubOn 0).tlg.pubs.map (fun p => (p.1, { p.2 with kind := 1, dst := 9 })) } }
     (pubAt f 5).map (fun p => pubDest f p) = some none ∧ rd (releasePub 5 f) (TLG_CNT 2) = 1 ∧ bit (rd (releasePub 5 f) (H_PEND 0x038)) 6 = true) := by
  decide +kernel

/-- The 48 bytes of a subscription: comId 0x55, length 4, timeout 125 µs. -/
def subEntry (flags : Nat) : List Byte := le 1 flags ++ le 1 0 ++ le 1 0 ++ le 1 0 ++ le 4 0x55 ++ zeros 4 ++ le 2 0 ++ le 2 4 ++ zeros 4 ++ le 4 125 ++ zeros 24

/-- A node with TLG on and subscription 9 set and enabled. -/
def subscribed (flags : Nat) : State :=
  let s := setPageSt solo 0x038 { pageSt solo 0x038 with en := .on }
  { s with tlg := { s.tlg with subs := [(9, { parseSub (subEntry flags) with enabled := true, running := true })] } }

/-- A telegram of 4 bytes with a sequence number. -/
def tele (seq : Nat) : Telegram := ⟨5, 0x0A000201, 0x0A000401, 0x5064, 0x0100, true, 52, BitVec.ofNat 32 seq, 0x55, 0, 4, 0, [9, 8, 7, 6], true, 0, true⟩

theorem witness_Subscriptions_set : (let d := ring0 solo 0x0701 (entryArgs 9 (subEntry 0))
     taken0 subSetSpec d = true ∧ status0 (ran .subSet d) = stOK ∧ (subAt (ran .subSet d) 9).map (fun u => (u.comId, u.len, u.timeout, u.enabled)) = some (0x55, 4, 125, false)) ∧
    (let s := after (.telegramRx 0 (tele 1)) (subscribed 0)
     let c := after (.tlgClaimWrite .host 9 true) s
     writeActs s .host 0x039 (0x800 + 4 * 9) = true ∧ (subAt s (512 * rd s TLGW_WBASE + 9)).isSome = true ∧
     (subAt c 9).map (fun u => (u.claimed, u.newest)) = some (some 0, some 0) ∧
     (subAt (after (.telegramRx 0 (tele 2)) c) 9).map (fun u => (u.newest, u.claimed, u.newer)) = some (some 1, some 0, true) ∧
     (subAt (after (.telegramRx 0 (tele 3)) (after (.telegramRx 0 (tele 2)) c)) 9).map (fun u => u.newest) = some (some 2) ∧
     (subAt (after (.tlgClaimWrite .host 9 false) c) 9).map (fun u => u.claimed) = some none) := by decide +kernel

theorem witness_Subscriptions_refused : let s := subscribed 0
    tlgOn solo = false ∧ rd (after (.telegramRx 0 (tele 1)) solo) (TLG_CNT 17) = 1 ∧ tlgOn s = true ∧
    rd (after (.telegramRx 0 { tele 1 with msgType := 0x5065 }) s) (TLG_CNT 6) = 1 ∧ rd (after (.telegramRx 0 { tele 1 with version := 0x0200 }) s) (TLG_CNT 6) = 1 ∧
    rd (after (.telegramRx 0 { tele 1 with version := 0x01FF, udpLen := 51 }) s) (TLG_CNT 7) = 1 ∧
    s.tlg.subs.find? (fun u => subMatches s 1 (tele 1) u.2) = none ∧ rd (after (.telegramRx 1 (tele 1)) s) (TLG_CNT 8) = 1 ∧
    (s.tlg.subs.find? (fun u => subMatches s 0 (tele 1) u.2)).isSome = true ∧
    (let t := after (.telegramRx 0 { tele 1 with datasetLen := 5, udpLen := 53 }) s
     rd t (TLG_CNT 12) = 1 ∧ leAt (bar2Read t (0x2000000 + 27 * 0x600) 8) 6 1 = 8) ∧
    (let t := subscribed 4
     topoPasses t 7 = false ∧ topoPasses t 0 = true ∧ rd (after (.telegramRx 0 { tele 1 with etbTopo := 7 }) t) (TLG_CNT 9) = 1) ∧
    (let t := subscribed 2
     genPasses t (tele 1) = false ∧ rd (after (.telegramRx 0 (tele 1)) t) (TLG_CNT 10) = 1) ∧
    (let t := after (.telegramRx 0 { tele 1 with sdtGood := false }) (subscribed 9)
     rd t (TLG_CNT 11) = 1 ∧ leAt (bar2Read t (0x2000000 + 27 * 0x600) 8) 6 1 = 0x24 ∧ (subAt t 9).map (fun u => u.sdtFails) = some 1) := by decide +kernel

theorem witness_Subscriptions_accepted : let s := subscribed 16
    let t := after (.telegramRx 0 (tele 20)) s
    rd t (TLG_CNT 4) = 1 ∧ rd t SLEEP_STAT_FW_RUN = 0 ∧ bit (rd t (H_PEND 0x038)) 10 = true ∧ bar2Read t (0x2000000 + 27 * 0x600 + 0x40) 4 = [9, 8, 7, 6] ∧
    (subAt t 9).map (fun u => (u.newest, u.lastSeq, u.accepts)) = some (some 0, some 20, 1) ∧
    rd (after (.telegramRx 0 (tele 20)) t) (TLG_CNT 5) = 1 ∧ rd (after (.telegramRx 0 (tele 4)) t) (TLG_CNT 5) = 1 ∧
    rd (after (.telegramRx 0 (tele 3)) t) (TLG_CNT 4) = 2 ∧ rd (after (.telegramRx 0 (tele 21)) t) (TLG_CNT 4) = 2 ∧
    (subAt t 9).map (fun u => (isRepeat u 21, isRepeat u 20)) = some (false, true) ∧
    (let i := after (.telegramRx 0 { tele 21 with innerGood := false }) t
     rd i (TLG_CNT 14) = 1 ∧ leAt (bar2Read i (0x2000000 + 28 * 0x600) 8) 6 1 = 16 ∧ bar2Read i (0x2000000 + 27 * 0x600 + 0x40) 4 = [9, 8, 7, 6]) := by decide +kernel

theorem witness_Subscriptions_timeout : let s := subscribed 0
    (subAt s 9).map (fun u => (u.enabled, u.timeout, u.running, u.lastValid)) = some (true, 125, true, []) ∧ tlgOn s = true ∧
    (let q := { s with tlg := { s.tlg with subs := s.tlg.subs.map (fun u => (u.1, { u.2 with running := false })) } }
     (subAt q 9).map (fun u => u.running) = some false ∧ after (.subscriptionTimeout 9) q = q) := by decide +kernel

/-- R158: TLG_STATUS of the publication after one send, and of the subscription after one telegram. -/
theorem test_tlg_status : (let p := releasePub 5 (pubOn 0)
     let d := wr (ring0 (wr (wr p (CMD_SQHEAD 0) 0) (CMD_SQTAIL 0) 0) 0x0704 (le 1 0 ++ zeros 1 ++ le 2 5)) (CMD_RQTAIL 0) 0
     taken0 tlgStatusSpec d = true ∧ result0 (ran .tlgStatus d) 8 4 = 1 ∧ result0 (ran .tlgStatus d) 20 1 = 0 ∧ result0 (ran .tlgStatus d) 24 8 = 200000) ∧
    (let d := ring0 (after (.telegramRx 0 (tele 20)) (subscribed 0)) 0x0704 (le 1 1 ++ zeros 1 ++ le 2 9)
     taken0 tlgStatusSpec d = true ∧ result0 (ran .tlgStatus d) 8 4 = 1 ∧ result0 (ran .tlgStatus d) 12 8 = 0 ∧ result0 (ran .tlgStatus d) 20 1 = 1) := by decide +kernel
/-! ## Message bus -/

/-- The 32 bytes of an object entry: flags, format, identifier, length, queues. -/
def objEntry (flags fmt ident len q : Nat) : List Byte := le 1 flags ++ le 1 fmt ++ zeros 2 ++ le 4 ident ++ le 2 len ++ zeros 6 ++ le 1 q ++ zeros 15

/-- Arguments of MB_OBJ_SET: channel, object, entry. -/
def objArgs (m k : Nat) (d : List Byte) : List Byte := le 1 m ++ zeros 1 ++ le 2 k ++ d

/-- s on channel 1: ON, integrated, transceiver normal, with objects. -/
def onCan (objs : List (Nat × CanObj)) (s : State) : State :=
  wr (setMbus 1 { mbusSt s 1 with commanded := 0, objs := objs } (setPageSt s 0x041 { pageSt s 0x041 with en := .on })) (MBUS_STAT_SYNCED 1) 1

/-- Object 7 receives identifier 5 with events into queue 2 too; object 8 transmits identifier 6 of 4 bytes, clashStop. -/
def rxObj : CanObj := parseObj (objEntry 5 0 5 8 4)
def txObj : CanObj := parseObj (objEntry 0x17 0 6 4 0)

/-- A frame of 3 bytes. -/
def canOf (ident : Nat) : CanFrame := ⟨BitVec.ofNat 29 ident, false, false, 0, false, false, false, 0, 0, 0, 3, [1, 2, 3], true, 5000, false, 9⟩

/-- A timing block that R353 allows (the reset values of MBUS_TIMING). -/
def timingArgs (m : Nat) : List Byte := le 1 m ++ zeros 3 ++ le 4 0x20207F01 ++ le 4 0x0A0A1D01 ++ le 4 0x02020501 ++
  le 1 0 ++ le 1 0 ++ le 1 1 ++ le 1 1 ++ zeros 16

theorem witness_MessageObjects_commands : good0 mbTimingSpec .mbTiming solo (timingArgs 1) = true ∧ (pageSt solo 0x041).en = .off ∧
    rd (ran .mbTiming (ring0 solo 0x0800 (timingArgs 1))) (MBUS_TIMING 1 3) = 0x01010000 ∧
    (let d := ring0 (onCan [] solo) 0x0800 (timingArgs 1)
     taken0 mbTimingSpec d = true ∧ status0 (ran .mbTiming d) = stWRONG_STATE) ∧
    (let d (s : State) (f : Nat) : State := ring0 s 0x0801 (objArgs 1 7 (objEntry f 0 5 8 0))
     let r := ran (.mbObjSet · false) (d solo 1)
     taken0 (mbObjSetSpec false) (d solo 1) = true ∧ status0 r = stOK ∧ (objAt r 1 7).map (fun o => (o.tx, o.ident, o.len)) = some (false, 5, 8) ∧
     objDup (onCan [(9, rxObj)] solo) 1 7 (parseObj (objEntry 1 0 5 8 0)) = true ∧
     status0 (ran (.mbObjSet · false) (d (onCan [(9, rxObj)] solo) 1)) = stBAD_ARG ∧
     objReserved (wr solo (MBUS_CTL_ENUM 1) 1) 1 254 rxObj = true ∧
     status0 (ran (.mbObjSet · false) (d (onCan [(9, rxObj)] solo) 0)) = stOK ∧
     objAt (ran (.mbObjSet · false) (d (onCan [(7, rxObj)] solo) 0)) 1 7 = none) ∧
    (let s := wr (onCan [(7, txObj)] solo) (MBW_O_TX_PEND 1 7) 1
     let d := ring0 s 0x0801 (objArgs 1 7 (objEntry 1 0 5 8 0))
     rdB d (MBW_O_TX_PEND 1 7) = true ∧ onWire d 1 7 false = false ∧ onWire d 1 7 true = true ∧ txEntry d 1 7 = some txObj ∧
     rd (ran (.mbObjSet · false) d) (MBW_O_TX_PEND 1 7) = 0 ∧ rd (ran (.mbObjSet · false) d) (MBW_O_TX_RESULT 1 7) = 2 ∧
     rd (ran (.mbObjSet · true) d) (MBW_O_TX_PEND 1 7) = 1 ∧ txEntry (ran (.mbObjSet · true) d) 1 7 = some txObj) := by decide +kernel

theorem witness_MessageObjects_received : let s := onCan [(7, rxObj)] solo
    let f := canOf 5
    f.data.length ≤ 64 ∧ onBus solo 1 = false ∧ onBus s 1 = true ∧ fmtOn s 1 0 = true ∧ role s ≠ 1 ∧ rdB s (SLEEP_BUSCTL_RING_EN 1) = false ∧
    rxObject s 1 f = some (7, rxObj) ∧
    (let t := after (.canFrameRx 1 f) s
     rd t (MBW_O_NEW 1 7) = 1 ∧ rd t (MBW_O_LOST 1 7) = 0 ∧ rd t (MBUS_CNT 1 0) = 1 ∧ rd t (MBUS_CNT 1 1) = 1 ∧
     bar2Read t (0x3800000 + 0x100000 + 7 * 0x1000 + 0x40) 3 = [1, 2, 3] ∧ bit (rd t (H_PEND 0x041)) 0 = true ∧ rd t (MBUS_QTAIL 1 2) = 1 ∧
     rd (after (.canFrameRx 1 f) t) (MBW_O_LOST 1 7) = 1) ∧
    (let t := after (.canFrameRx 1 { f with innerGood := false }) s
     rd t (MBUS_CNT 1 13) = 1 ∧ rd t (MBUS_CNT 1 0) = 0 ∧ bit (rd t (H_PEND 0x041)) 14 = true) ∧
    (let t := after (.canFrameRx 1 f) (onCan [(7, rxObj)] shadow)
     role (onCan [(7, rxObj)] shadow) = 1 ∧ rd t (MBW_O_NEW 1 7) = 0 ∧ (mbusSt t 1).rxMine.length = 1) ∧
    (after (.canFrameRx 1 f) (onCan [(7, rxObj)] active)).twin.own = [⟨5, .can 1 f, true⟩] := by decide +kernel

theorem witness_MessageObjects_queued : let s := onCan [] solo
    let q := wr (wr (wr s (MBUS_QFID_VALID 1 9) 1) (MBUS_QFID 1 9) 5) (MBUS_QFMASK 1 9) 0x7FF
    let t := after (.canFrameRx 1 (canOf 5)) q
    rxObject s 1 (canOf 5) = none ∧ filterQueues s 1 (canOf 5) = [] ∧ rd (after (.canFrameRx 1 (canOf 5)) s) (MBUS_CNT 1 3) = 1 ∧
    filterQueues q 1 (canOf 5) = [2] ∧ filterQueues q 1 (canOf 6) = [] ∧ rd t (MBUS_QTAIL 1 2) = 1 ∧ bit (rd t (H_PEND 0x041)) 3 = true ∧
    bar2Read t (0x3800000 + 0x100000 + 128 * 0x1000 + 0x880) 3 = [1, 2, 3] ∧
    (let u := wr q (MBUS_QTAIL 1 2) 64
     rd (after (.canFrameRx 1 (canOf 5)) u) (MBUS_QTAIL 1 2) = 64 ∧ bit (rd (after (.canFrameRx 1 (canOf 5)) u) (H_PEND 0x041)) 7 = true) ∧
    rd (after (.canFrameRx 1 (canOf 5)) (wr q (MBUS_QTAIL 1 2) 63)) (MBUS_QTAIL 1 2) = 64 ∧
    writeActs t .host 0x041 (0x084 + 16) = true ∧ rd (after (.mbusQheadWrite .host 1 2 1) t) (MBUS_QHEAD 1 2) = 1 ∧
    rd (after (.mbusQheadWrite .host 1 2 2) t) (MBUS_QHEAD 1 2) = 0 := by decide +kernel

theorem witness_MessageObjects_doorbell : let s := onCan [(8, txObj)] solo
    let m := bar2Write s (0x3800000 + 0x100000 + 8 * 0x1000 + 0x40) [1, 2, 3, 4, 5]
    let t := after (.mbusTxdbDoorbell .host 1 0x108 true) m
    writeActs m .host 0x041 0x06C = true ∧ (objAt m 1 8).map (fun o => o.tx) = some true ∧ rd t (MBW_O_TX_PEND 1 8) = 1 ∧ (objRun t 1 8).data = [1, 2, 3, 4] ∧
    rd (after (.mbusTxdbDoorbell .host 1 8 true) m) (MBW_O_TX_PEND 1 8) = 0 ∧
    rd (after (.mbusTxdbDoorbell .host 1 8 false) m) (MBUS_TXDB_CHK_ERR 1) = 1 ∧ rd (after (.mbusTxdbDoorbell .host 1 8 false) m) (MBUS_CNT 1 13) = 1 ∧
    (let z := setMbus 1 { mbusSt m 1 with commanded := 3 } m
     (mbusSt (after (.mbusTxdbDoorbell .host 1 0x108 true) z) 1).commanded = 0) ∧
    writeActs s .host 0x041 0x070 = true ∧ rd (after (.mbusTxidWrite .host 1 0xA0000007) s) (MBUS_TXID_ID 1) = 7 ∧
    rdB (after (.mbusTxidWrite .host 1 0xA0000007) s) (MBUS_TXID_APPLY 1) = true ∧
    (let w := wr (wr s (MBW_O_NEW 1 8) 1) (MBW_O_LOST 1 8) 1
     writeActs w .host 0x045 (0x040 + 32) = true ∧ rd (after (.mbwFlagClear .host 1 8 0x80000000) w) (MBW_O_NEW 1 8) = 0 ∧
     rd (after (.mbwFlagClear .host 1 8 0x80000000) w) (MBW_O_LOST 1 8) = 1 ∧ rd (after (.mbwFlagClear .host 1 8 0x40000000) w) (MBW_O_NEW 1 8) = 1) := by
  decide +kernel

/-- A matrix of one cycle and two windows: exclusive for object 8, free. -/
def matrixBytes : List Byte := le 4 0 ++ le 2 100 ++ le 1 0 ++ le 1 0 ++ le 4 10000 ++ le 2 100 ++ le 1 2 ++ le 1 15 ++ le 1 8 ++ le 1 0xFF

/-- Channel 1 with a schedule comparator and the matrix staged in host queue 4. -/
def staging : State :=
  let s := armCmp 3 1000000 1000000 true (timed 0 0x10 (onCan [(8, txObj)] solo))
  bar2Write (wr { s with claims := s.claims ++ [⟨0x304, 0, 0, 0, 0, 0, 0, 0⟩] } (MBUS_CTL_SCHED_CMP 1) 3) (0x1000000 + 4 * 0x80000) matrixBytes

/-- Arguments of MB_SCHED_LOAD. -/
def loadArgs : List Byte := le 1 1 ++ le 1 4 ++ le 1 1 ++ le 1 2 ++ le 4 (crc32c matrixBytes)

/-- Channel 1 under the matrix, its first window open, object 8 pending. -/
def scheduledOne : State :=
  let s := wr (wr (onCan [(8, txObj)] solo) (MBUS_CTL_SCHED_EN 1) 1) (MBW_O_TX_PEND 1 8) 1
  setMbus 1 { mbusSt s 1 with matrix := some (parseMatrix matrixBytes 1 2), window := some 0 } s

theorem witness_MessageBusControl_schedule : (let d := ring0 staging 0x0802 loadArgs
     taken0 mbSchedLoadSpec d = true ∧ holdsCmp d (.host 0) 3 0x10 = true ∧ cmpArmed d 3 = true ∧ rdB d (TRIG_CMP_PERIODIC 3) = true ∧
     windowsOk (parseMatrix matrixBytes 1 2).windows = true ∧ (List.range 2).all (cellOk d 1 (parseMatrix matrixBytes 1 2)) = true ∧
     status0 (ran .mbSchedLoad d) = stACCEPTED ∧ (mbusSt (ran .mbSchedLoad d) 1).loaded = some (parseMatrix matrixBytes 1 2) ∧
     rd (ran .mbSchedLoad d) (MBUS_SCHED_WAITING 1) = 1) ∧
    (let d := ring0 { staging with claims := [⟨0x304, 0, 0, 0, 0, 0, 0, 0⟩] } 0x0802 loadArgs
     taken0 mbSchedLoadSpec d = true ∧ status0 (ran .mbSchedLoad d) = stBAD_ARG) ∧
    scheduled scheduledOne 1 = true ∧ pageOn scheduledOne 0x041 = true ∧ (mbusSt (after (.schedWindowOpen 1 1) scheduledOne) 1).window = some 1 ∧
    rd (after (.schedWindowOpen 1 1) scheduledOne) (MBUS_SCHED_WINDOW 1) = 1 ∧ scheduled solo 1 = false ∧
    openWindow scheduledOne 1 = some (0, 8) ∧ isFenced scheduledOne = false ∧
    (let t := after (.schedWindowEnd 1 0 none) scheduledOne
     rd t (MBW_O_TX_RESULT 1 8) = 6 ∧ rd t (MBUS_CNT 1 14) = 1 ∧ bit (rd t (H_PEND 0x041)) 12 = true ∧ (mbusSt t 1).window = none) ∧
    after (.schedWindowEnd 1 1 none) scheduledOne = scheduledOne ∧ onWire scheduledOne 1 8 true = true ∧
    rd (after (.schedWindowEnd 1 0 (some 8)) scheduledOne) (MBUS_CNT 1 15) = 1 ∧
    (let u := setMbus 1 { mbusSt scheduledOne 1 with winSent := true } scheduledOne
     (after (.schedWindowEnd 1 0 none) u).regs = u.regs) := by decide +kernel

theorem witness_MessageBusControl_cancel : let d (s : State) : State := ring0 s 0x0803 (objArgs 1 8 [])
    let idle := d (onCan [(8, txObj)] solo)
    let p := d (wr (onCan [(8, txObj)] solo) (MBW_O_TX_PEND 1 8) 1)
    taken0 (mbCancelSpec false) idle = true ∧ openWindow idle 1 = none ∧ (objRun idle 1 8).sof = false ∧ result0 (ran (.mbCancel · false) idle) 8 1 = 2 ∧
    taken0 (mbCancelSpec false) p = true ∧ onWire p 1 8 false = false ∧ result0 (ran (.mbCancel · false) p) 8 1 = 0 ∧
    rd (ran (.mbCancel · false) p) (MBW_O_TX_PEND 1 8) = 0 ∧ rd (ran (.mbCancel · false) p) (MBUS_CNT 1 17) = 1 ∧
    taken0 (mbCancelSpec true) p = true ∧ onWire p 1 8 true = true ∧ cancelWaits (ran (.mbCancel · true) p) 1 8 = true ∧
    responseOwed (ran (.mbCancel · true) p) (.host 0) = true ∧ bar2Read (ran (.mbCancel · true) p) (rqBase 0) 64 = zeros 64 ∧
    (let x := d scheduledOne
     taken0 (mbCancelSpec false) x = true ∧ openWindow x 1 = some (0, 8) ∧ (mbusSt x 1).winSent = false ∧ onWire x 1 8 false = false ∧
     (mbusSt (ran (.mbCancel · false) x) 1).winSent = true ∧ rd (ran (.mbCancel · false) x) (MBW_O_TX_PEND 1 8) = 1 ∧
     rd (ran (.mbCancel · false) x) (MBW_O_TX_RESULT 1 8) = 2) ∧
    (let r (s : State) : State := ring0 s 0x0804 (objArgs 1 8 [])
     let w := wr (wr solo (MBW_O_STOPPED 1 8) 1) (MBW_O_CLASHES 1 8) 3
     taken0 mbClashRearmSpec (r w) = true ∧ rd (ran .mbClashRearm (r w)) (MBW_O_STOPPED 1 8) = 0 ∧ status0 (ran .mbClashRearm (r solo)) = stWRONG_STATE) := by
  decide +kernel

/-- The end of a frame of object 8. -/
def ended (r : CanTxResult) : CanTxEnd := ⟨8, r, 7000, false, 3⟩

theorem witness_MessageBusControl_sent : let s := wr (wr (onCan [(8, txObj)] solo) (MBW_O_TX_PEND 1 8) 1) (MBUS_STAT_TEC 1) 20
    txEntry solo 1 8 = none ∧ txEntry s 1 8 = some txObj ∧ txPossible s 1 8 txObj = true ∧ rd s (MBUS_STAT_TEC 1) < 248 ∧
    txPossible (onCan [(8, txObj)] solo) 1 8 txObj = false ∧
    (let t := after (.canTxEnd 1 (ended .sent)) s
     rd t (MBW_O_TX_PEND 1 8) = 0 ∧ rd t (MBW_O_TX_RESULT 1 8) = 1 ∧ rd t (MBUS_CNT 1 7) = 1 ∧ rd t (MBUS_STAT_TEC 1) = 19 ∧
     bit (rd t (H_PEND 0x041)) 5 = true ∧ t.out = [.can 1 6 0 [0, 0, 0, 0]]) ∧
    singleTry s 1 txObj = false ∧ cancelWaits s 1 8 = false ∧
    (let t := after (.canTxEnd 1 (ended .error)) s
     rd t (MBW_O_TX_RESULT 1 8) = 3 ∧ rd t (MBUS_STAT_TEC 1) = 28 ∧ rd t (MBW_O_TX_PEND 1 8) = 1) ∧
    (let t := after (.canTxEnd 1 (ended .arbLost)) (setMbus 1 { mbusSt s 1 with oneShot := true } s)
     singleTry (setMbus 1 { mbusSt s 1 with oneShot := true } s) 1 txObj = true ∧ rd t (MBW_O_TX_RESULT 1 8) = 4 ∧ rd t (MBW_O_TX_PEND 1 8) = 0 ∧
     bit (rd t (H_PEND 0x041)) 6 = true ∧ rd t (MBUS_STAT_TEC 1) = 20) ∧
    (let t := after (.canTxEnd 1 (ended .clash)) (wr s (MBW_O_CLASHES 1 8) 2)
     rd t (MBW_O_CLASHES 1 8) = 3 ∧ rd t (MBUS_CNT 1 10) = 1 ∧ bit (rd t (H_PEND 0x041)) 8 = true ∧ txObj.clashStop = true ∧ rd t (MBW_O_STOPPED 1 8) = 1 ∧
     rd t (MBW_O_TX_PEND 1 8) = 0) ∧
    rd (after (.canTxEnd 1 (ended .checkFail)) s) (MBW_O_TX_RESULT 1 8) = 5 := by decide +kernel

theorem witness_MessageBusControl_faults : let s := onCan [] solo
    (let o := wr (wr s (MBUS_STAT_ERR_STATE 1) 2) (MBUS_STAT_TEC 1) 255
     let t := after (.mbusRecoverWrite .host 1 1) o
     writeActs o .host 0x041 0x074 = true ∧ (mbusSt t 1).recovering = true ∧ rd (after (.busOffRecoveryDone 1) t) (MBUS_STAT_ERR_STATE 1) = 0 ∧
     bit (rd (after (.busOffRecoveryDone 1) t) (H_PEND 0x041)) 11 = true ∧ (mbusSt (after (.mbusRecoverWrite .host 1 0) o) 1).recovering = false ∧
     after (.busOffRecoveryDone 1) o = o) ∧
    (pageSt s 0x041).en = .on ∧ xcvrRx s 1 = true ∧ rdB s (MBUS_STAT_VCAN_LOW 1) = false ∧
    rd (after (.canIntegrated 1) (wr s (MBUS_STAT_SYNCED 1) 0)) (MBUS_STAT_SYNCED 1) = 1 ∧ after (.canIntegrated 1) solo = solo ∧
    xcvrTx s 1 = true ∧ xcvrTx (after (.txdDominantTimeout 1) s) 1 = false ∧ rd (after (.txdDominantTimeout 1) s) (MBUS_STAT_TXD_TMO 1) = 1 ∧
    rd (after (.busDominantTimeout 1) s) (MBUS_STAT_SYNCED 1) = 0 ∧ xcvrTx (after (.xcvrOvertemp 1) s) 1 = false ∧ xcvrRx (after (.xcvrOvertemp 1) s) 1 = true ∧
    rd (after (.xcvrThermalRecovery 1) (after (.xcvrOvertemp 1) s)) (MBUS_STAT_THERMAL 1) = 0 ∧
    rd (after .vcanLow s) (MBUS_STAT_VCAN_LOW 1) = 1 ∧ bit (rd (after .vcanLow s) (H_PEND 0x041)) 15 = true ∧
    rd (after .vcanInRange (after .vcanLow s)) (MBUS_STAT_VCAN_LOW 1) = 0 ∧ isActive s = true ∧
    rd (after (.canTakeoverUngate 1) (wr (setMbus 1 { mbusSt s 1 with gated := true } s) (MBUS_STAT_TX_GATED 1) 1)) (MBUS_STAT_TX_GATED 1) = 0 ∧
    isActive shadow = false ∧ after (.canTakeoverUngate 1) shadow = shadow ∧ after (.canWake 1) s = s ∧
    (let z := wr (setMbus 1 { mbusSt s 1 with commanded := 3 } s) SLEEP_WAKE_EN 0x20
     let t := after (.canWake 1) z
     bit (rd z SLEEP_WAKE_EN) 5 = true ∧ rd z SLEEP_STAT_PHASE ≠ 2 ∧ (mbusSt t 1).commanded = 0 ∧ bit (rd t (H_PEND 0x048)) 4 = true ∧
     rd t SLEEP_STAT_CAUSE = 2 ∧ bit (rd t (H_PEND 0x048)) 6 = true) := by decide +kernel
/-! ## Sleep and wake -/

/-- This node, car 1 of two, holds the manager role. -/
def managerOne : State := wr (train solo) DEV_ROLE_SELF 1

/-- A sleep frame of the manager, twin 0 of car 2. -/
def sleepOf (seq field40 excluded : Nat) : SleepFrame :=
  ⟨2, false, 5, BitVec.ofNat 32 seq, 0, BitVec.ofNat 64 field40, BitVec.ofNat 64 excluded, 0, true⟩

/-- s in its prepare window, with an ORDER of sequence 9 for the instant n. -/
def preparing (n : Nat) (s : State) : State :=
  let t := wr (wr s SLEEP_STAT_PHASE 1) SLEEP_COMMIT n
  { t with sleep := { t.sleep with order := some (9, n) } }

/-- Arguments of SLEEP_ORDER and SLEEP_PARK. -/
def instantArgs (scope n : Nat) : List Byte := le 1 scope ++ zeros 7 ++ le 8 n

theorem witness_TrainSleep_commands : (let d (s : State) (v : Nat) : State := ring0 s 0x0900 (le 1 v)
     let c := wr solo SLEEP_CTL_CONSENT 1
     taken0 sleepConsentSpec (d solo 1) = true ∧ rd (ran .sleepConsent (d solo 1)) SLEEP_CTL_CONSENT = 1 ∧ taken0 sleepConsentSpec (d c 0) = true ∧
     rd c SLEEP_STAT_PHASE ≠ 2 ∧ rd (ran .sleepConsent (d c 0)) SLEEP_STAT_CAUSE = 3 ∧ bit (rd (ran .sleepConsent (d c 0)) (H_PEND 0x048)) 6 = true) ∧
    (let d (s : State) (n : Nat) : State := ring0 s 0x0901 (instantArgs 0 n)
     let r := ran .sleepOrder (d managerOne 0)
     taken0 sleepOrderSpec (d solo 0) = true ∧ managerHere solo = false ∧ status0 (ran .sleepOrder (d solo 0)) = stWRONG_STATE ∧
     taken0 sleepOrderSpec (d managerOne 0) = true ∧ managerHere managerOne = true ∧ rd managerOne SLEEP_STAT_PHASE = 0 ∧ ownCar managerOne = 1 ∧
     prepareNs managerOne = 500000000 ∧ status0 (ran .sleepOrder (d managerOne 499999999)) = stTOO_LATE ∧
     status0 r = stACCEPTED ∧ rd r SLEEP_STAT_PHASE = 1 ∧ rd r SLEEP_COMMIT = 500000000 ∧ r.sleep.order = some (1, 500000000) ∧
     rd (ran .sleepOrder (d managerOne 500000001)) SLEEP_COMMIT = 501000000) ∧
    (let d (n : Nat) : State := ring0 (timed 5000 0 solo) 0x0902 (instantArgs 0 n)
     taken0 sleepParkSpec (d 0) = true ∧ (ran .sleepPark (d 0)).sleep.parkAt = some 6000 ∧ (ran .sleepPark (d 5000)).sleep.parkAt = some 5000 ∧
     status0 (ran .sleepPark (d 4999)) = stTOO_LATE) ∧
    (let d (a : Nat) : State := ring0 solo 0x0903 (le 4 a ++ le 2 100 ++ le 2 60000)
     taken0 sleepTimesSpec (d 86400) = true ∧ taken0 sleepTimesSpec (d 86401) = false ∧ rd (ran .sleepTimes (d 86400)) SLEEP_AWAKE = 86400 ∧
     rd (ran .sleepTimes (d 86400)) SLEEP_WIN_PREPARE = 100 ∧ rd (ran .sleepTimes (d 86400)) SLEEP_WIN_FALSE_WAKE = 60000) := by decide +kernel

theorem witness_TrainSleep_frames : let s := train solo
    sleepAccepts s 0x09 (sleepOf 4 0 0) = true ∧ (sleepOf 4 0 0).originUid ≠ ownUid s ∧ sleepAccepts s 0x09 { sleepOf 4 0 0 with churn := 1 } = false ∧
    (let t := after (.tokenRx (sleepOf 4 0 2)) s
     rd t SLEEP_EXCL = 2 ∧ sleepAccepts t 0x09 (sleepOf 4 0 2) = false ∧ sleepAccepts t 0x09 (sleepOf 5 0 2) = true) ∧
    sleepAccepts s 0x0A (sleepOf 4 77 2) = true ∧ rd s SLEEP_STAT_PHASE = 0 ∧ ownCar s = 1 ∧ bit 2 0 = false ∧ bit 1 0 = true ∧
    (let t := after (.orderRx (sleepOf 4 77 2)) s
     rd t SLEEP_STAT_PHASE = 1 ∧ rd t SLEEP_COMMIT = 77 ∧ t.sleep.order = some (4, 77)) ∧
    (let t := after (.orderRx (sleepOf 4 77 1)) s
     rd t SLEEP_STAT_PHASE = 3 ∧ bit (rd t (H_PEND 0x048)) 2 = true) ∧
    (let p := preparing 77 s
     let t := after (.abortRx (sleepOf 9 0 0)) p
     sleepAccepts p 0x0B (sleepOf 9 0 0) = true ∧ rd t SLEEP_STAT_PHASE = 0 ∧ rd t SLEEP_STAT_CAUSE = 5 ∧ t.sleep.order = none ∧
     rd (after (.abortRx (sleepOf 8 0 0)) p) SLEEP_STAT_PHASE = 1) ∧
    sleepAccepts s 0x0B { sleepOf 9 0 0 with crcGood := false } = false := by decide +kernel

theorem witness_TrainSleep_rounds : let s := wr managerOne SLEEP_CTL_RING_EN 1
    let o := { s with sleep := { s.sleep with roundOut := true } }
    managerHere s = true ∧ isActive s = true ∧ rd s SLEEP_STAT_PHASE = 0 ∧ ownCar s ≠ 0 ∧ (after .ringRound s).sleep.round = 1 ∧
    after .ringRound solo = solo ∧ (after .roundLost o).sleep.roundOut = false ∧ bit (rd (after .roundLost o) (H_PEND 0x048)) 7 = true ∧
    after .roundLost s = s ∧ allCars s = 3 ∧ carCount s = 2 ∧
    (let t := after (.roundReturn 3) o
     rd t SLEEP_STAT_PHASE = 1 ∧ rd t SLEEP_COMMIT = 500000000 ∧ t.sleep.timer = none) ∧
    (after (.roundReturn 4) o).sleep.timer = none ∧ (after (.roundReturn 4) o).regs = o.regs ∧
    (let t := after (.roundReturn 1) o
     t.sleep.timer = some 0 ∧ rd (after .awakeTimerExpiry t) SLEEP_EXCL = 2 ∧ bit (rd (after .awakeTimerExpiry t) (H_PEND 0x048)) 2 = true ∧
     rd t SLEEP_EXCL < 2 ^ 64) ∧
    after .awakeTimerExpiry solo = solo ∧ after (.roundReturn 1) s = s := by decide +kernel

theorem witness_TrainSleep_wake : let w : Instr := .wakeRequest (.input .lead true false)
    bit (rd solo SLEEP_WAKE_EN) (wakeBit .lead) = true ∧ rd solo SLEEP_STAT_PHASE = 0 ∧
    (let t := after w (wr solo SLEEP_CTL_CONSENT 1)
     consents (wr solo SLEEP_CTL_CONSENT 1) = true ∧ rd t SLEEP_STAT_CAUSE = 1 ∧ bit (rd t (H_PEND 0x048)) 6 = true ∧ consents t = false ∧
     consents (after (.wakeRequest (.input .lead false false)) t) = true) ∧
    (let p := preparing 2000000 solo
     rd p SLEEP_STAT_PHASE = 1 ∧ p.sleep.order = some (9, 2000000) ∧ rd (after w p) SLEEP_STAT_PHASE = 0 ∧ rd (after w p) SLEEP_STAT_CAUSE = 1) ∧
    (let p := preparing 1999999 solo
     rd (after w p) SLEEP_STAT_PHASE = 1 ∧ (after w p).sleep.heldWake = 8 ∧
     (let t := after .sleepCommitInstant (after w p)
      rd t SLEEP_STAT_PHASE = 2 ∧ t.park.latch = 8 ∧ t.park.armed = true ∧ (mbusSt t 2).commanded = 3 ∧ t.sleep.order = none)) ∧
    solo.sleep.order = none ∧ after .sleepCommitInstant solo = solo ∧
    (let e := wr (preparing 5 solo) SLEEP_STAT_PHASE 3
     rd (after .sleepCommitInstant e) SLEEP_STAT_PHASE = 3 ∧ (after .sleepCommitInstant e).sleep.order = none) ∧
    (let p := { solo with sleep := { solo.sleep with parkAt := some 5 } }
     p.sleep.parkAt ≠ none ∧ rd p SLEEP_STAT_PHASE ≠ 2 ∧ rd (after .parkCommandInstant p) SLEEP_STAT_PHASE = 2) ∧ after .parkCommandInstant solo = solo ∧
    rd solo SLEEP_STAT_FW_RUN = 0 ∧ after .falseWakeExpiry solo = solo ∧
    (let f := wr solo SLEEP_STAT_FW_RUN 1
     rd (after .falseWakeExpiry f) SLEEP_STAT_FW_RUN = 0 ∧ bit (rd (after .falseWakeExpiry f) (H_PEND 0x048)) 5 = true ∧
     (after .falseWakeExpiry f).sleep.parkAt = some 1000) := by decide +kernel

theorem witness_BusSleepAndWakeLatch_latch : (let d (s : State) (v : Nat) : State := ring0 s 0x0904 (le 1 1 ++ le 1 v)
     taken0 xcvrSetSpec (d solo 0) = true ∧ 2 ≤ (mbusSt solo 1).commanded ∧ rd (ran .xcvrSet (d solo 0)) (SLEEP_BUSCTL_XSTATE 1) = 0 ∧
     bit (rd (ran .xcvrSet (d solo 0)) (H_PEND 0x048)) 4 = true ∧ (mbusSt (ran .xcvrSet (d solo 3)) 1).commanded = 3 ∧
     rd (ran .xcvrSet (d { solo with line := { solo.line with r18 := true } } 0)) (SLEEP_BUSCTL_XSTATE 1) = 2 ∧
     roleGated shadow = true ∧ rd (xcvrSetRun ⟨.partner, (descOf 0x0904 0 0 (le 1 1 ++ le 1 0)), 0, false, 0, 0⟩ shadow).st (SLEEP_BUSCTL_XSTATE 1) = 1) ∧
    solo.park.armed = false ∧ after (.wakeInPark .lead) solo = solo ∧
    (let p := { solo with phase := .park, park := { solo.park with armed := true, wakeEn := 0x0F, tlFwd := 0x0E, latch := 0 } }
     let t := after (.wakeInPark .lead) p
     p.phase ≠ .running ∧ bit p.park.wakeEn.toNat (wakeBit .lead) = true ∧ t.park.latch = 8 ∧ t.park.tlPulse = true ∧ rd t DEV_RSTCAUSE_WAKE_LEAD = 1 ∧
     bit p.park.wakeEn.toNat (wakeBit (.can 0)) = false ∧ after (.wakeInPark (.can 0)) p = p ∧
     (after (.wakeInPark .wakeTl) p).park.latch = 1 ∧ rd (after (.wakeInPark .wakeTl) p) DEV_RSTCAUSE_WAKE_TL = 1 ∧
     (after (.wakeInPark .wakeTl) { p with park := { p.park with tlPulse := false } }).park.tlPulse = false) ∧
    (let a := { solo with park := { solo.park with armed := true } }
     bit (rd a SLEEP_WAKE_EN) (wakeBit .cpl1) = true ∧ bit (after (.wakeInPark .cpl1) a).park.latch.toNat 1 = true) ∧
    writeActs solo .host 0x048 0x060 = true ∧ rd solo SLEEP_WAKE_EN < 2 ^ 8 ∧ rd solo SLEEP_WAKE_TL_FWD < 2 ^ 8 ∧ rd solo SLEEP_WAKE_TL_WIDTH < 2 ^ 13 ∧
    (after (.tlPulseWrite .host) solo).park.tlPulse = true ∧ (after .tlPulseEnd (after (.tlPulseWrite .host) solo)).park.tlPulse = false ∧
    writeActs fenced .host 0x048 0x060 = true ∧ (after (.tlPulseWrite .host) fenced).park = fenced.park := by decide +kernel

/-- Channel 1 with a ring: TOBJ 8 (FD, class 2, 12 bytes), ROBJ 7 (FD). -/
def ringOne : State :=
  let s := onCan [(7, { rxObj with format := 1 }), (8, { txObj with format := 1, cls := 2, len := 12 })] solo
  wr (wr (wr s (SLEEP_BUSCTL_RING_EN 1) 1) (SLEEP_BUSCTL_TOBJ 1) 8) (SLEEP_BUSCTL_ROBJ 1) 7

/-- The channel's ring state changed. -/
def ringIn (f : MbusSt → MbusSt) (s : State) : State := setMbus 1 (f (mbusSt s 1)) s

theorem witness_BusSleepAndWakeLatch_ring : let s := ringOne
    after (.busRingRound 1) solo = solo ∧ rdB s (SLEEP_BUSCTL_RING_EN 1) = true ∧ pageOn s 0x041 = true ∧ (mbusSt s 1).commanded < 2 ∧
    (mbusSt s 1).ringSleep = false ∧ ringObjectsOk s 1 = true ∧ ringObjectsOk (wr s (SLEEP_BUSCTL_TOBJ 1) 9) 1 = false ∧
    rd (after (.busRingRound 1) (wr s (SLEEP_BUSCTL_TOBJ 1) 9)) (SLEEP_BUSCTL_RING_ERR 1) = 1 ∧
    (let t := after (.busRingRound 1) (ringIn (fun b => { b with ringNow := 5 }) s)
     rd t (SLEEP_BUSCON 1) = 5 ∧ (mbusSt t 1).ringRound = 1 ∧ rd t (MBW_O_TX_PEND 1 8) = 1 ∧ (mbusSt t 1).ringPrep = none) ∧
    (let h := wr (ringIn (fun b => { b with ringRound := 1 }) s) (SLEEP_BUSCTL_HOST_OK 1) 1
     channelWorkers h 1 = 0 ∧ (mbusSt (after (.busRingRound 1) h) 1).ringPrep = some 500000000 ∧
     (let p := ringIn (fun b => { b with ringPrep := some 0 }) h
      (mbusSt (after (.busRingRound 1) p) 1).ringSleep = true ∧
      (let t := after (.busSleepEntry 1) (after (.busRingRound 1) p)
       (mbusSt t 1).commanded = 3 ∧ rd t (SLEEP_BUSCTL_XSTATE 1) = 3 ∧ bit (rd t (H_PEND 0x048)) 3 = true)) ∧
     (mbusSt (after (.busRingRound 1) (ringIn (fun b => { b with ringPrep := some 1 }) h)) 1).ringPrep = some 1) ∧
    after (.busSleepEntry 1) s = s ∧ after (.busFalseWake 1) s = s ∧
    (mbusSt (after (.busFalseWake 1) (ringIn (fun b => { b with wokenIdle := true }) s)) 1).commanded = 3 := by decide +kernel
/-! ## Load channels -/

/-- A node alone with every group usable. -/
def fed : State := { solo with load := { solo.load with usable := 0xF } }

/-- Channel 2 in a state with EN = 1. -/
def ch2 (st : Nat) (s : State) : State := wr (wr s (LCH_STAT_STATE 2) st) (LCH_CTL_EN 2) 1

/-- Channel 2 stopping with demagnetization ended, a held request, a retry count and a maximum of 3. -/
def stopping2 (held : Option Bool) (count : Nat) : State :=
  setLch 2 { LchSt.init with held := held, demagDone := true } (wr (wr (ch2 3 fed) (LCH_STAT_COUNT 2) count) (LCH_CFG_RETRY_MAX 2) 3)

/-- State, EN, FAULT, COUNT and held request of a channel. -/
structure View where
  state : Nat
  en : Nat
  fault : Nat
  count : Nat
  held : Option Bool
deriving DecidableEq

/-- The view of channel 2. -/
def view2 (s : State) : View := ⟨rd s (LCH_STAT_STATE 2), rd s (LCH_CTL_EN 2), rd s (LCH_STAT_FAULT 2), rd s (LCH_STAT_COUNT 2), (lchSt s 2).held⟩

theorem witness_ChannelMachine_enable : (let d (s : State) (v : Nat) : State := ring0 s 0x0A00 (le 2 5 ++ le 1 v ++ zeros 1 ++ le 2 700)
     taken0 lchSetSpec (d fed 1) = true ∧ maskChannels fed 5 = [0, 2] ∧ view2 (ran .lchSet (d fed 1)) = ⟨1, 1, 0, 0, none⟩ ∧
     rd (ran .lchSet (d fed 1)) (LCH_CTL_DUTY 2) = 700 ∧ rd (ran .lchSet (d fed 1)) (LCH_STAT_STATE 1) = 0 ∧ result0 (ran .lchSet (d fed 1)) 8 2 = 0 ∧
     view2 (ran .lchSet (d (ch2 1 fed) 0)) = ⟨1, 0, 0, 0, some false⟩ ∧ result0 (ran .lchSet (d (ch2 1 fed) 0)) 8 2 = 4 ∧
     view2 (ran .lchSet (d solo 1)) = ⟨6, 1, 5, 0, none⟩) ∧
    writeActs fed .host 0x051 (0x100 + 0x40) = true ∧ lchLead fed 2 = 2 ∧
    (let w (v : Word) (s : State) : View := view2 (after (.lchCtlEnWrite .host 2 v) s)
     let on : Word := 0x80000000
     w on (wr fed (LCH_STAT_FAULT 2) 2) = ⟨0, 0, 2, 0, none⟩ ∧ w on fed = ⟨1, 1, 0, 0, none⟩ ∧ w 0 (ch2 2 fed) = ⟨3, 0, 0, 0, none⟩ ∧ w 0 (ch2 6 fed) = ⟨3, 0, 0, 0, none⟩ ∧
     w 0 (ch2 4 fed) = ⟨0, 0, 0, 0, none⟩ ∧ w 0 (ch2 5 fed) = ⟨5, 0, 0, 0, none⟩ ∧ w on (ch2 3 fed) = ⟨3, 1, 0, 0, some true⟩ ∧ w 0 (ch2 7 fed) = ⟨7, 0, 0, 0, some false⟩) ∧
    (let p := wr (wr fed (LCH_CFG_PAR 8) 1) (LCH_CFG_PAR 9) 1
     lchLead p 9 = 8 ∧ lchBoth p 8 = [8, 9] ∧ writeActs p .host 0x051 (0x100 + 0x20 * 9) = true ∧
     rd (after (.lchCtlEnWrite .host 9 0x80000000) p) (LCH_STAT_STATE 8) = 0 ∧ rd (after (.lchCtlEnWrite .host 8 0x80000000) p) (LCH_STAT_STATE 9) = 1) := by
  decide +kernel

theorem witness_ChannelMachine_steps : after (.channelStartComplete 2) fed = fed ∧ lchLead fed 2 = 2 ∧
    view2 (after (.channelStartComplete 2) (ch2 1 fed)) = ⟨2, 1, 0, 0, none⟩ ∧
    view2 (after (.channelStartComplete 2) (setLch 2 { LchSt.init with held := some false } (ch2 1 fed))) = ⟨3, 1, 0, 0, none⟩ ∧
    (lchSt (after (.demagEnd 2) (ch2 3 fed)) 2).demagDone = true ∧ after (.demagEnd 2) fed = fed ∧
    rd (stopping2 none 0) (LCH_STAT_STATE 2) = 3 ∧ (lchSt (stopping2 none 0) 2).demagDone = true ∧
    view2 (after (.channelStopComplete 2) (wr (stopping2 (some true) 1) (LCH_STAT_LATCH 2) 1)) = ⟨5, 1, 0, 1, none⟩ ∧
    (let t := after (.channelStopComplete 2) (wr (stopping2 none 2) (LCH_STAT_TRIPPED 2) 1)
     view2 t = ⟨4, 1, 0, 2, none⟩ ∧ (lchSt t 2).retryDue = some (retryDelay fed 2)) ∧
    view2 (after (.channelStopComplete 2) (wr (stopping2 none 3) (LCH_STAT_TRIPPED 2) 1)) = ⟨0, 0, 2, 3, none⟩ ∧
    view2 (after (.channelStopComplete 2) (stopping2 (some true) 1)) = ⟨1, 1, 0, 1, none⟩ ∧
    view2 (after (.channelStopComplete 2) (stopping2 none 1)) = ⟨0, 1, 0, 1, none⟩ ∧ after (.channelStopComplete 2) (ch2 3 fed) = ch2 3 fed ∧
    view2 (after (.retryCountReset 2) (wr (ch2 2 fed) (LCH_STAT_COUNT 2) 5)) = ⟨2, 1, 0, 0, none⟩ := by decide +kernel

theorem witness_ChannelMachine_trips : lchDriven fed 2 = true ∧ lchDriven shadow 2 = false ∧ after (.channelTrip 2) shadow = shadow ∧
    (let t := after (.channelTrip 2) (ch2 2 fed)
     view2 t = ⟨3, 1, 1, 0, none⟩ ∧ rd t (LCH_STAT_TRIPPED 2) = 1 ∧ rd t (LCH_CNT_TRIPS 2) = 1 ∧ bit (rd t (H_PEND 0x051)) 2 = true) ∧
    (let t := after (.channelTrip 2) (setLch 2 { LchSt.init with held := some true } (ch2 1 fed))
     view2 t = ⟨3, 1, 1, 0, some true⟩ ∧ rd t (LCH_STAT_TRIPPED 2) = 0) ∧
    (let t := after (.thermalShutdown 2) (ch2 2 (wr fed TWIN_STAT_ROLE 0))
     view2 t = ⟨3, 1, 3, 0, none⟩ ∧ rd t (LCH_STAT_LATCH 2) = 1 ∧ t.twin.own = [⟨5, .trip 2 true, true⟩]) ∧
    rd (after (.channelTrip 2) (wr (ch2 2 fed) (LCH_CNT_TRIPS 2) 65535)) (LCH_CNT_TRIPS 2) = 65535 ∧
    after (.retryDue 2) fed = fed ∧ view2 (after (.retryDue 2) (ch2 4 solo)) = ⟨6, 1, 5, 0, none⟩ ∧ groupUsable solo 0 = false ∧ groupUsable fed 0 = true ∧
    (let b := wr (ch2 4 fed) (LCH_STAT_INRUSH 1) 1
     clusterBusy b 2 = true ∧ clusterBusy (ch2 4 fed) 2 = false ∧ (lchSt (after (.retryDue 2) b) 2).dueNow = true ∧
     view2 (after (.inrushWindowEnd 1) (after (.retryDue 2) b)) = ⟨1, 1, 0, 1, none⟩ ∧ rd (after (.inrushWindowEnd 1) b) (LCH_STAT_INRUSH 1) = 0 ∧ lchPaired b 1 = false) ∧
    view2 (after (.retryDue 2) (wr (ch2 4 fed) (LCH_STAT_COUNT 2) 2)) = ⟨1, 1, 0, 3, none⟩ := by decide +kernel

theorem witness_ChannelMachine_clear : let d (w : Nat) (s : State) : State := ring0 s 0x0A03 (le 2 4 ++ le 1 w)
    let l := wr (wr (wr (ch2 5 fed) (LCH_STAT_LATCH 2) 1) (LCH_CFG_RETRY_MAX 2) 3) (LCH_STAT_FAULT 2) 3
    taken0 lchClearSpec (d 2 l) = true ∧ lchPaired l 2 = false ∧ coolEnough l 2 = true ∧
    view2 (ran .lchClear (d 2 (wr (wr fed (LCH_STAT_FAULT 2) 2) (LCH_STAT_COUNT 2) 3))) = ⟨0, 0, 0, 0, none⟩ ∧
    (let h := wr l (LOAD_TEMP 0) 200
     coolEnough h 2 = false ∧ view2 (ran .lchClear (d 1 h)) = ⟨5, 1, 3, 0, none⟩ ∧ result0 (ran .lchClear (d 1 h)) 8 2 = 4) ∧
    coolEnough (wr l (LOAD_TEMP 0) 199) 2 = true ∧
    view2 (ran .lchClear (d 1 l)) = ⟨4, 1, 3, 0, none⟩ ∧ result0 (ran .lchClear (d 1 l)) 8 2 = 0 ∧ view2 (ran .lchClear (d 1 (wr l (LCH_CTL_EN 2) 0))) = ⟨0, 0, 3, 0, none⟩ ∧
    view2 (ran .lchClear (d 1 (wr l (LCH_STAT_COUNT 2) 3))) = ⟨0, 0, 2, 3, none⟩ ∧ view2 (ran .lchClear (d 3 (wr l (LCH_STAT_COUNT 2) 3))) = ⟨4, 1, 3, 0, none⟩ := by
  decide +kernel

/-- Arguments of LCH_CONFIG. -/
def cfgArgs (n ty par : Nat) : List Byte := le 1 n ++ le 1 ty ++ le 1 1 ++ zeros 1 ++ le 2 200 ++ le 2 300 ++ le 2 40 ++ le 1 par

theorem witness_LoadSupervision_config : (let d (s : State) (n ty par : Nat) : State := ring0 s 0x0A01 (cfgArgs n ty par)
     taken0 lchConfigSpec (d fed 8 3 1) = true ∧ status0 (ran .lchConfig (d fed 8 3 1)) = stOK ∧ rd (ran .lchConfig (d fed 8 3 1)) (LCH_CFG_TYPE 9) = 3 ∧
     rd (ran .lchConfig (d fed 8 3 1)) (LCH_CFG_PAR 9) = 1 ∧ rd (ran .lchConfig (d fed 8 3 1)) (LCH_CFG_COMP 8) = 1 ∧
     status0 (ran .lchConfig (d (wr fed (LCH_STAT_STATE 9) 1) 8 3 1)) = stWRONG_STATE ∧ status0 (ran .lchConfig (d (wr fed (LCH_STAT_STATE 9) 1) 8 3 0)) = stOK ∧
     status0 (ran .lchConfig (d (wr fed (LCH_STAT_STATE 8) 5) 8 3 0)) = stWRONG_STATE ∧ taken0 lchConfigSpec (d fed 7 3 1) = false) ∧
    (let pts := (le 2 0 ++ le 2 9) ++ (le 2 1 ++ le 2 9) ++ (le 2 2 ++ le 2 9) ++ (le 2 3 ++ le 2 9) ++ (le 2 4 ++ le 2 9) ++ (le 2 5 ++ le 2 9) ++ (le 2 6 ++ le 2 9)
     let d (last : Nat) : State := ring0 fed 0x0A02 (le 1 3 ++ zeros 3 ++ pts ++ le 2 last ++ le 2 7)
     taken0 lchProfileSpec (d 100) = true ∧ taken0 lchProfileSpec (d 6) = false ∧
     ((ran .lchProfile (d 100)).load.profiles.lookup 11).map (fun l => l.length) = some 8 ∧ inrushUs (wr (ran .lchProfile (d 100)) (LCH_CFG_TYPE 2) 11) 2 = 100) ∧
    (let f (s : State) : State := ring0 s 0x0A04 (le 1 2)
     let r := ran .lchFwTest (f fed)
     taken0 lchFwTestSpec (f fed) = true ∧ status0 (ran .lchFwTest (f (ch2 2 fed))) = stWRONG_STATE ∧ view2 r = ⟨7, 0, 0, 0, none⟩ ∧
     (findAccepted r 0x0A04 (.fwTest 2)).isSome = true ∧ done0 (after (.fwTestComplete 2 true 99) r) = stOK ∧
     view2 (after (.fwTestComplete 2 true 99) r) = ⟨0, 0, 8, 0, none⟩ ∧ bit (rd (after (.fwTestComplete 2 true 99) r) (H_PEND 0x050)) 7 = true ∧
     view2 (after (.fwTestComplete 2 false 99) (after (.lchCtlEnWrite .host 2 0x80000000) r)) = ⟨1, 1, 0, 0, none⟩) := by decide +kernel

theorem witness_LoadSupervision_isns : let c (use : Nat) : State := { fed with claims := [⟨0x400, 0, 0, 0, 0, 0, 0, use⟩, ⟨0x110, 0, 0, 0, 0, 0, 0, 0⟩] }
    let d (s : State) : State := ring0 s 0x0A06 (le 1 5)
    taken0 isnsSelectSpec (d (c 0)) = true ∧ holds (c 0) (.host 0) 0x400 = true ∧ rd (ran .isnsSelect (d (c 0))) LOAD_ISNS_CHANNEL = 5 ∧
    status0 (ran .isnsSelect (d (c 1))) = stWRONG_STATE ∧ status0 (ran .isnsSelect (d fed)) = stWRONG_STATE ∧ ballReady (c 1) 4 = true ∧
    rd (after (.selChange 6) (c 1)) LOAD_ISNS_CHANNEL = 6 ∧ rd (after (.selChange 6) (c 1)) LOAD_ISNS_SEL = 6 ∧ claimOf fed 0x400 = none ∧
    rd (after (.selChange 6) fed) LOAD_ISNS_CHANNEL = 0xFF := by decide +kernel

theorem witness_LoadSupervision_supply : groupChannels fed 0 = [0, 1, 2, 3, 12, 13] ∧ view2 (after (.groupUnusable 0 .absent) (ch2 2 fed)) = ⟨6, 1, 5, 0, none⟩ ∧
    rd (after (.groupUnusable 0 .absent) (wr fed (LOAD_GRPSTAT_PRESENT 0) 1)) (LOAD_GRPSTAT_PRESENT 0) = 0 ∧ bit (rd (after (.groupUnusable 0 .reversed) fed) (H_PEND 0x050)) 4 = true ∧
    groupUsable (after (.groupUnusable 0 .overVolt) fed) 0 = false ∧ view2 (after (.groupUnusable 1 .absent) (ch2 2 fed)) = ⟨2, 1, 0, 0, none⟩ ∧
    view2 (after (.groupUsable 0) (ch2 6 solo)) = ⟨1, 1, 0, 0, none⟩ ∧ solo.load.pgnd = true ∧ groupUsable (after (.groupUsable 0) solo) 0 = true ∧
    (let l := after .pgndLost (ch2 2 fed)
     view2 l = ⟨6, 1, 6, 0, none⟩ ∧ bits (rd l (LCH_FAULT 2)) 5 4 = 3 ∧ rd l LOAD_STAT_PGND_LOST = 1 ∧ l.line.bypOn = false ∧ after .pgndLost l = l ∧
     after (.groupUsable 0) l = l ∧ rd (after .pgndRestored l) LOAD_STAT_PGND_LOST = 0 ∧ (after .pgndRestored l).load.pgnd = true) ∧
    after (.groupVoltageChange 0 .surge) solo = solo ∧ bit fed.load.usable.toNat 0 = true ∧ rd (after (.groupVoltageChange 0 .surge) fed) (LOAD_GRPSTAT_SURGE 0) = 1 ∧
    bit (rd (after (.groupVoltageChange 0 .surge) fed) (H_PEND 0x050)) 2 = true ∧ rd (after (.groupVoltageChange 0 .under) fed) (LOAD_GRPSTAT_UNDER 0) = 1 ∧
    (after .takeoverTripEnd { fed with load := { fed.load with takeover := true } }).load = fed.load := by decide +kernel

/-- One conversion: channel 2 at a code, in its on-phase. -/
def conversion (code : Nat) (aligned : Bool) (us : Nat) : AdcSample := ⟨[0, 0, BitVec.ofNat 12 code], 4, aligned, us⟩

theorem witness_LoadSupervision_watch : after (.adcSample (conversion 9 true 500)) fed = fed ∧
    (let g := wr fed LOAD_CTL_ADC_ALIGN 1
     rd (after (.adcSample (conversion 9 true 99)) g) LOAD_STAT_ADC_SKIP = 1 ∧ rd (after (.adcSample (conversion 9 true 100)) g) (LCH_CUR_CODE 2) = 9) ∧
    rd (after (.adcSample (conversion 9 false 100)) fed) (LCH_CUR_MA 2) = 52 ∧
    (let o := setLch 2 { LchSt.init with olBelow := 9 } (wr (wr (ch2 2 fed) (LCH_OL_THR 2) 53) (LCH_OL_TIME 2) 1)
     lchDriven o 2 = true ∧ codeMa 2 9 < olThreshold o 2 ∧ olSamples o 2 = 10 ∧ view2 (after (.adcSample (conversion 9 false 100)) o) = ⟨2, 1, 4, 0, none⟩ ∧
     view2 (after (.adcSample (conversion 10 false 100)) o) = ⟨2, 1, 0, 0, none⟩) ∧
    (let j := wr (wr fed TWIN_STAT_ROLE 0) (LCH_CFG_WIRING 2) 1
     let b := after (.imbalance 2 true) j
     joined j = true ∧ (lchSt b 2).imb = true ∧ rd b (LCH_STAT_FAULT 2) = 9 ∧ bit (rd b (H_PEND 0x050)) 9 = true ∧
     rd (after (.imbalance 2 false) b) (LCH_STAT_FAULT 2) = 0 ∧ after (.imbalance 2 false) j = j) ∧
    (let f := after (.segmentFail 2 3) fed
     bit (rd f (LCH_STAT_SEG_OK 2)) 3 = false ∧ rd f (LCH_STAT_DERATED 2) = 1 ∧ rd f (LCH_STAT_FAULT 2) = 10 ∧ bit (rd f (H_PEND 0x050)) 8 = true ∧ f.store.segs = [(2, 3)] ∧
     (after (.segmentFail 2 3) (wr fed TWIN_STAT_ROLE 0)).rsv.drillAsked = true) ∧
    (let p := wr (wr (ch2 2 fed) (LCH_CTL_DUTY 2) 5000) LOAD_CTL_VREF 1100
     rd (after (.pwmPeriodStart 2 1100) (wr p (LCH_CFG_COMP 2) 1)) (LCH_PWR_DUTY 2) = 5000 ∧ rd (after (.pwmPeriodStart 2 550) (wr p (LCH_CFG_COMP 2) 1)) (LCH_PWR_DUTY 2) = 10000 ∧
     rd (after (.pwmPeriodStart 2 550) (wr p (LCH_CFG_COMP 2) 0)) (LCH_PWR_DUTY 2) = 5000 ∧ rd (after (.pwmPeriodStart 2 550) p) (LOAD_VHV 0) = 550) := by decide +kernel

/-- Losses of channels 0 to 2. -/
def losses (a b c : Nat) : LossSample := ⟨[a, b, c], []⟩

theorem witness_LoadSupervision_budget : let s := wr (wr (wr fed (LCH_STAT_STATE 0) 2) (LCH_STAT_STATE 1) 2) LOAD_BUDGET 1000
    let e (n : Nat) : State := { s with load := { s.load with excess := n } }
    budgetMw s = 1000 ∧ role s = 2 ∧ rd (after (.budgetUpdate (losses 500 500 0)) (e 3)) LOAD_STAT_BUDGET = 0 ∧ (after (.budgetUpdate (losses 500 500 0)) (e 3)).load.excess = 0 ∧
    (let t := after (.budgetUpdate (losses 500 501 0)) s
     t.load.excess = 1 ∧ rd t LOAD_STAT_BUDGET = 1 ∧ bit (rd t (H_PEND 0x050)) 5 = true ∧ rd t LOAD_STAT_LOSS = 1001) ∧
    (let t := after (.budgetUpdate (losses 500 501 0)) (e 10)
     rd t (LCH_STAT_STATE 1) = 3 ∧ rd t (LCH_STAT_STATE 0) = 2 ∧ rd t (LCH_STAT_FAULT 1) = 7 ∧ bit (rd t (H_PEND 0x050)) 6 = true) ∧
    shedChoice s = some 1 ∧ shedChoice (wr s (LCH_CFG_SHED 1) 2) = some 0 ∧ shedCandidates (wr s (LCH_CFG_SHED 1) 3) = [0] ∧
    (after (.budgetUpdate (losses 9000 9000 0)) (wr s TWIN_STAT_ROLE 1)).load = s.load := by decide +kernel
/-! ## The twin pair -/

/-- s with T and both journal lanes up, generation 5, in step. -/
def paired (s : State) : State := wr (wr (wr (wr (wr s (PORT_STATUS_LINK_UP 14) 1) TWIN_STAT_LANE0_UP 1) TWIN_STAT_LANE1_UP 1) TWIN_GEN 5) TWIN_STAT_IN_STEP 1

/-- A contribution of the partner. -/
def blockOf (gen : Nat) (role : Fin 5) (drill : Option (BitVec 64)) (e : List JEntry) : JBlock := ⟨true, true, 0, 0, BitVec.ofNat 32 gen, role, false, false, drill, e⟩

/-- s with an empty contribution of the partner, its own fault history and the partner's. -/
def heldBlock (fault pfault : Nat) (s : State) : State :=
  { s with twin := { s.twin with partner := some (blockOf 5 1 none []), own := [], fault := fault, pfault := pfault } }

/-- Whether a state is what WasFenced asks. -/
def fencedNow (t : State) : Bool :=
  decide (role t = 3) && t.twin.failN && decide (rd t TWIN_STAT_DRIVE_EN = 0 ∧ rd t TWIN_STAT_IN_STEP = 0) && bit (rd t (H_PEND 0x058)) 4 &&
  bit (rd t (H_PEND 0x058)) 0 && decide (t.twin.own = [] ∧ t.twin.partner = none) && !t.twin.fencing && t.twin.rejoinFrom.isNone

theorem witness_TwinJournalAndFence_blocks : (let r := { solo with twin := { solo.twin with rejoinFrom := some 5, matched := 3 } }
     (after (.blockApply true) r).twin.matched = 4 ∧ (after (.blockApply false) r).twin.matched = 0 ∧ (after (.blockApply true) r).twin.tick = solo.twin.tick + 1) ∧
    (paired active).twin.partner = none ∧ after (.blockApply true) (paired active) = paired active ∧
    (let s := wr (heldBlock 0 0 (paired active)) TWIN_STAT_IN_STEP 0
     joined s = true ∧ s.twin.own = [] ∧ rd (after (.blockApply true) s) TWIN_STAT_IN_STEP = 1 ∧ (after (.blockApply true) s).twin.partner = none ∧
     rd (after (.blockApply true) { s with twin := { s.twin with tick := 9 } }) TWIN_TICK = 9) ∧
    (let t := after (.blockApply false) (heldBlock 0 0 (paired active))
     role t = 0 ∧ rd t TWIN_STAT_IN_STEP = 0 ∧ rd t (TWIN_CNT 2) = 1 ∧ bit (rd t (H_PEND 0x058)) 3 = true) ∧
    fencedNow (after (.blockApply false) (heldBlock 0 0 (paired shadow))) = true ∧ fencedNow (after (.blockApply false) (heldBlock 8 0 (paired active))) = true ∧
    fencedNow (after (.blockApply false) (heldBlock 8 1 (paired shadow))) = true ∧ role (after (.blockApply false) (heldBlock 0 1 (paired shadow))) = 1 ∧
    (let w := heldBlock 0 0 (paired active)
     let o := { w with twin := { w.twin with own := [⟨4, .write .host 0x050 0x060 7000 true, true⟩] } }
     pageLocked o 0x050 = false ∧ rd (after (.blockApply true) o) LOAD_BUDGET = 7000 ∧ rd (after (.blockApply true) o) TWIN_SEQ = 1 ∧
     (let k := wr o (H_LOCKED 0x050) 1
      pageLocked k 0x050 = true ∧ rd (after (.blockApply true) k) LOAD_BUDGET = rd k LOAD_BUDGET)) := by decide +kernel

theorem witness_TwinJournalAndFence_received : let s := paired active
    let b := blockOf 5 1 (some 77) []
    goodCopy b s = true ∧ goodCopy { b with lane0Good := false, lane1Good := false } s = false ∧ tUp s = true ∧ joined s = true ∧
    rd (after (.journalBlockRx { b with lane0Good := false, lane1Good := false }) s) (TWIN_CNT 1) = 2 ∧
    (after (.journalBlockRx b) s).twin.partner = some b ∧ rd (after (.journalBlockRx b) (wr s TWIN_STAT_LATE 1)) TWIN_STAT_LATE = 0 ∧
    rd (after (.journalBlockRx (blockOf 4 1 none [])) s) (TWIN_CNT 6) = 1 ∧ (after (.journalBlockRx (blockOf 4 1 none [])) s).twin.partner = none ∧
    fencedNow (after (.journalBlockRx (blockOf 6 1 none [])) s) = true ∧
    (let h := paired shadow
     (after (.journalBlockRx b) h).twin.drillAt = some 77 ∧ rd (after (.journalBlockRx b) h) TWIN_STAT_DRILL_PEND = 1) ∧
    (let f := paired fenced
     isFenced f = true ∧ (after (.journalBlockRx (blockOf 9 2 none [⟨5, .links 3, true⟩])) f).twin.partnerLinks = 3 ∧
     (after (.journalBlockRx (blockOf 9 2 none [⟨5, .links 3, true⟩])) f).twin.partner = none) ∧
    fencedNow (after (.journalBlockRx (blockOf 6 2 none [])) (paired solo)) = true := by decide +kernel

theorem witness_TwinJournalAndFence_fences : let s := paired active
    let m (n : Nat) (s : State) : State := { s with twin := { s.twin with misses := n } }
    after .partnerMiss solo = solo ∧ missLimit s = 2 ∧ missLimit shadow = 3 ∧ (after .partnerMiss s).twin.misses = 1 ∧ (after .partnerMiss s).twin.fencing = false ∧
    (let t := after .partnerMiss (m 1 s)
     t.twin.fencing = true ∧ rd t TWIN_STAT_FENCE_OUT = 1 ∧ role t = 0 ∧ rd t TWIN_STAT_IN_STEP = 0 ∧ bit (rd t (H_PEND 0x058)) 2 = true) ∧
    (after .partnerMiss (m 1 (paired shadow))).twin.fencing = false ∧ (after .partnerMiss (m 2 (paired shadow))).twin.fencing = true ∧
    fencedNow (after .partnerMiss (m 1 (wr s TWIN_STAT_FENCE_IN 1))) = true ∧
    (let r := { m 2 solo with twin := { (m 2 solo).twin with rejoinFrom := some 5 } }
     (after .partnerMiss r).twin.rejoinFrom = none ∧ bit (rd (after .partnerMiss r) (H_PEND 0x058)) 9 = true) ∧
    (after .pfailNAssert s).twin.fencing = true ∧ after .pfailNAssert solo = wr solo TWIN_STAT_PFAIL_IN 1 ∧ rd (after .contributionLate s) TWIN_STAT_LATE = 1 ∧
    after .contributionLate solo = solo ∧ fencedNow (after .fenceInAssert solo) = true ∧ rd (after .fenceInAssert solo) TWIN_STAT_FENCE_EFF = 1 ∧
    2 < role fenced ∧ role (after .fenceInAssert fenced) = 3 ∧ rd (after .fenceInRelease (after .fenceInAssert solo)) TWIN_STAT_FENCE_IN = 0 ∧
    (let d (s : State) : State := ring0 s 0x0B03 (le 4 0xFE7C)
     taken0 twinFenceSpec (d s) = true ∧ (ran .twinFence (d s)).twin.fencing = true ∧ taken0 twinFenceSpec (d solo) = true ∧
     status0 (ran .twinFence (d solo)) = stOK ∧ (ran .twinFence (d solo)).twin.fencing = false) := by decide +kernel

theorem witness_DrillsAndRejoin_commands : (let d (s : State) (h : Nat) : State := ring0 s 0x0B04 (le 4 h)
     taken0 drillPeriodSpec (d (paired active) 24) = true ∧ rd (ran .drillPeriod (d (paired active) 24)) TWIN_DRILL = 24 * 3600000000000 ∧
     rd (ran .drillPeriod (d solo 0)) TWIN_DRILL = 0 ∧ rd (ran .drillPeriod (d solo 8760)) TWIN_CTL_DRILL_HOURS = 8760) ∧
    (let d (s : State) : State := ring0 s 0x0B01 (zeros 8 ++ le 8 0)
     taken0 swapDrillSpec (d (paired active)) = true ∧ (ran .swapDrill (d (paired active))).twin.drillAt = some 2 ∧
     rd (ran .swapDrill (d (paired active))) TWIN_STAT_DRILL_PEND = 1 ∧ taken0 swapDrillSpec (d solo) = true ∧ status0 (ran .swapDrill (d solo)) = stWRONG_STATE) ∧
    (let d (s : State) : State := ring0 s 0x0B02 []
     let p := wr (paired solo) TWIN_STAT_PARTNER_ROLE 3
     taken0 (twinRejoinSpec true) (d p) = true ∧ (ran (.twinRejoin · true) (d p)).twin.rejoinFrom = some 0 ∧ rd (ran (.twinRejoin · true) (d p)) TWIN_STAT_TRANSFER = 1 ∧
     (ran (.twinRejoin · true) (d p)).out.length = 1 ∧ status0 (ran (.twinRejoin · true) (d (paired solo))) = stWRONG_STATE) := by decide +kernel

theorem witness_DrillsAndRejoin_drill : let s := paired active
    let f (r : State) : State := { r with twin := { r.twin with drillAt := some 2 } }
    (after .drillDue (wr s TWIN_CTL_DRILL_HOURS 24)).twin.drillAt = some 2 ∧ after .drillDue (wr s TWIN_CTL_DRILL_HOURS 0) = wr s TWIN_CTL_DRILL_HOURS 0 ∧
    s.twin.drillAt = none ∧ after .drillTick s = s ∧ drillPoint (f s) = true ∧ drillPoint (wr (f s) (LCH_STAT_INRUSH 4) 1) = false ∧
    (let t := after .drillTick (f s)
     role t = 1 ∧ rd t TWIN_GEN = 6 ∧ t.store.gen = 6 ∧ t.twin.drillPhase = 1 ∧ rd t (TWIN_CNT 7) = 1) ∧
    (let t := after .drillTick (f (paired shadow))
     role t = 0 ∧ rd t TWIN_STAT_PARTNER_ROLE = 1 ∧ (mbusSt t 2).gated = true) ∧
    after (.drillVerify 1) s = s ∧
    (let v := { s with twin := { s.twin with drillPhase := 1, drillChk := 4 } }
     role (after (.drillVerify 1) v) = 0 ∧ bit (rd (after (.drillVerify 1) v) (H_PEND 0x058)) 6 = true ∧ role (after (.drillVerify 4) v) = 1 ∧
     bit (rd (after (.drillVerify 4) v) (H_PEND 0x058)) 7 = true ∧ rd (after (.drillVerify 4) v) (TWIN_CNT 8) = 1) := by decide +kernel

/-- The snapshot of a solo node of generation 5. -/
def snap5 : Snapshot := takeSnapshot { paired solo with claims := [⟨0x203, 0, 0, 0, 0, 0, 0, 1⟩] }

theorem witness_DrillsAndRejoin_rejoin : let r (n : Nat) : State := { paired solo with twin := { (paired solo).twin with rejoinFrom := some 5, matched := n } }
    after .rejoinTimeout solo = solo ∧ rd (after .rejoinTimeout (r 3)) (TWIN_CNT 10) = 1 ∧ (after .rejoinTimeout (r 3)).twin.rejoinFrom = none ∧
    after (.rejoinTickJ none) (r 15) = r 15 ∧ rd (r 16) TWIN_GEN < 2 ^ 32 - 1 ∧
    (let t := after (.rejoinTickJ none) (r 16)
     role t = 0 ∧ rd t TWIN_GEN = 6 ∧ rd t TWIN_STAT_FENCE_OUT = 0 ∧ rd t (TWIN_CNT 9) = 1 ∧ bit (rd t (H_PEND 0x058)) 8 = true) ∧
    after (.rejoinTickJ (some snap5)) active = active ∧ snap5.gen = 5 ∧ isFenced (paired fenced) = true ∧
    (let t := after (.rejoinTickJ (some snap5)) (paired fenced)
     role t = 1 ∧ t.twin.failN = false ∧ rd t TWIN_GEN = 6 ∧ t.claims.length = 1 ∧ bit (rd t (H_PEND 0x058)) 8 = true ∧ rd t TWIN_STAT_IN_STEP = 1) := by decide +kernel
/-! ## Keys, life cycle and attestation -/

/-- A node alone in life-cycle state n with slots 0 to 3 filled. -/
def vault (n : Nat) : State :=
  let slot (u l p : Nat) : Slot := ⟨true, u, l, p, 0, [], zeros 32⟩
  let s := setSlot 3 (slot 7 1 0xFE) (setSlot 2 (slot 6 1 0xFE) (setSlot 1 (slot 0 0 0xFF) (setSlot 0 (slot 0 0 0xFF) solo)))
  { s with fuses := { s.fuses with lc := n, enrolled := true, map := some (List.replicate 8 (2 ^ 33 - 1)) } }

/-- The arguments of KEY_DERIVE with the label 07 08. -/
def keyArgs (parent child usage : Nat) : List Byte := le 1 parent ++ le 1 child ++ le 1 usage ++ le 1 2 ++ le 2 0x0807

/-- s after slot 16 is derived under slot 0, and slot 17 under slot 16. -/
def derived : State := ran .keyDerive (wr (bar2Write (ran .keyDerive (ring0 (vault 2) 0x0C00 (keyArgs 0 16 1))) 64 (descOf 0x0C00 0 8 (keyArgs 16 17 1))) (CMD_SQTAIL 0) 2)

theorem witness_KeysAndAttestation_derive : (let d (p c u : Nat) : State := ring0 (vault 2) 0x0C00 (keyArgs p c u)
     taken0 keyDeriveSpec (d 9 16 1) = true ∧ (slotAt (d 9 16 1) 9).valid = false ∧ status0 (ran .keyDerive (d 9 16 1)) = stKEY_INVALID ∧
     taken0 keyDeriveSpec (d 2 16 1) = true ∧ status0 (ran .keyDerive (d 2 16 1)) = stBAD_ARG ∧
     taken0 keyDeriveSpec (d 0 16 1) = true ∧ status0 (ran .keyDerive (d 0 16 1)) = stOK ∧ result0 (ran .keyDerive (d 0 16 1)) 8 8 = 1) ∧
    (slotAt derived 16).valid = true ∧ (slotAt derived 16).level = 1 ∧ (slotAt derived 16).label = [7, 8] ∧ (slotAt derived 17).parent = 16 ∧
    (slotAt derived 17).level = 2 ∧ rd derived KEY_VALID = 0x3000F ∧ rd derived (KEY_CNT 1) = 2 ∧
    (let d := ring0 (wr derived (CMD_SQHEAD 0) 0) 0x0C00 (keyArgs 0 16 1)
     taken0 keyDeriveSpec d = true) := by decide +kernel

theorem witness_KeysAndAttestation_invalidate : let d (n : Nat) (s : State) : State := ring0 (wr s (CMD_SQHEAD 0) 0) 0x0C01 (le 1 n)
    taken0 keyInvalidateSpec (d 0 derived) = true ∧ status0 (ran .keyInvalidate (d 7 (vault 2))) = stWRONG_STATE ∧
    taken0 keyInvalidateSpec (d 16 derived) = true ∧ descendants (d 16 derived) 16 = [17] ∧
    (let t := ran .keyInvalidate (d 16 derived)
     rd t KEY_VALID = 15 ∧ (slotAt t 16).gen = 1 ∧ (slotAt t 17).gen = 1 ∧ rd t (KEY_CNT 0) = 2 ∧ bit (rd t (H_PEND 0x060)) 0 = true) := by decide +kernel

/-- A verdict for a target that passes every check, with the protection map of payload p. -/
def goodToken (target : Fin 5) (p : List Byte) : TokenVerdict := ⟨target, true, true, true, false, 0, [], p⟩

/-- The arguments of LC_ADVANCE: the token's queue, the target, its length and CRC. -/
def lcArgs (target len : Nat) : List Byte := le 1 3 ++ le 1 target ++ zeros 2 ++ le 4 len ++ le 4 (crc32c (zeros len))

/-- A node in state n that has accepted an LC_ADVANCE; it holds bulk queue 3. -/
def advancing (n target len : Nat) : State :=
  let s := ring0 { vault n with claims := [⟨0x303, 0, 0, 0, 0, 0, 0, 0⟩] } 0x0C03 (lcArgs target len)
  { s with accepted := [acceptedOf lcAdvanceSpec (cmd0 s) s] }

/-- Whether LC_ADVANCE_DONE applies to a state. -/
def lcReady (s : State) : Bool := match findAccepted s 0x0C03 .lifeCycle with | none => false | some a => lcPermitted s (a.u 0x09 1)

theorem witness_KeysAndAttestation_advance : let d (n target len : Nat) : State := ring0 { vault n with claims := [⟨0x303, 0, 0, 0, 0, 0, 0, 0⟩] } 0x0C03 (lcArgs target len)
    lcPermitted (d 2 1 8) 1 = false ∧ taken0 lcAdvanceSpec (d 2 1 8) = taken0 lcAdvanceSpec (d 2 3 8) ∧ lcPermitted (d 2 3 8) 3 = true ∧
    taken0 lcAdvanceSpec (d 2 3 8) = true ∧ status0 (ran .lcAdvance (d 2 3 8)) = stACCEPTED ∧ (ran .lcAdvance (d 2 3 8)).accepted.length = 1 ∧
    status0 (ran .lcAdvance (d 2 1 8)) = stWRONG_STATE ∧ taken0 lcAdvanceSpec (d 2 3 0) = true ∧ status0 (ran .lcAdvance (d 2 3 0)) = stBAD_ARG ∧
    taken0 lcAdvanceSpec (d 3 2 0) = true ∧ status0 (ran .lcAdvance (d 3 2 0)) = stACCEPTED := by decide +kernel

theorem witness_KeysAndAttestation_transitions :
    (let t := after (.lcAdvanceDone (goodToken 2 [])) (advancing 3 2 0)
     lcReady (advancing 3 2 0) = true ∧ t.fuses.lc = 2 ∧ done0 t = stOK ∧ t.accepted = []) ∧
    (let t := after (.lcAdvanceDone { goodToken 4 [] with dieOk := false }) (advancing 2 4 8)
     lcReady (advancing 2 4 8) = true ∧ t.fuses.lc = 2 ∧ done0 t = stKEY_INVALID ∧ rd t (KEY_CNT 5) = 1) ∧
    (let t := after (.lcAdvanceDone (goodToken 3 [])) (advancing 2 3 8)
     lcReady (advancing 2 3 8) = true ∧ maintOk (goodToken 3 []) (advancing 2 3 8) = false ∧ done0 t = stKEY_INVALID) ∧
    (let t := after (.lcAdvanceDone (goodToken 2 (zeros 64))) (advancing 1 2 8)
     lcReady (advancing 1 2 8) = true ∧ mapRules (mapWords (zeros 64)) = false ∧ done0 t = stBAD_ARG ∧ t.fuses.lc = 1) ∧
    (let p := le 8 0x10001 ++ zeros 24 ++ le 8 0x10001 ++ zeros 24
     let t := after (.lcAdvanceDone (goodToken 2 p)) (advancing 1 2 8)
     mapRules (mapWords p) = true ∧ done0 t = stOK ∧ t.fuses.lc = 2 ∧ rd t KEY_LC_STATE = 2 ∧ t.fuses.map = some [0x10001, 0, 0, 0, 0x10001, 0, 0, 0]) ∧
    (let t := after (.lcAdvanceDone (goodToken 4 [])) (advancing 2 4 8)
     done0 t = stOK ∧ t.fuses.lc = 4 ∧ t.twin.failN = true ∧ role t = 15 ∧ rd t KEY_VALID = 0) := by decide +kernel

/-- The train configuration that permits MAINT for 10 minutes to the authority of digest 01. -/
def maintTcfg : TrainConfig := { tcfgOf 7 with maintAuth := [1], maintMax := 10 }

theorem witness_KeysAndAttestation_maint :
    (let s := wr (wr { advancing 2 3 8 with tcfg := { (advancing 2 3 8).tcfg with inForce := some maintTcfg } } TIME_STAT_STEPPED 1) TIME_STAT_SYNC0 1
     let v := { goodToken 3 [] with signerDigest := [1] }
     maintOk v s = true ∧ lcReady s = true ∧ done0 (after (.lcAdvanceDone v) s) = stOK ∧ (after (.lcAdvanceDone v) s).fuses.lc = 3 ∧
     (slotAt (after (.lcAdvanceDone v) s) 0).valid = true) ∧
    (let v := goodToken 1 []
     let s := { advancing 1 1 8 with fuses := { (advancing 1 1 8).fuses with enrolled := false } }
     lcReady s = true ∧ done0 (after (.lcAdvanceDone v) s) = stOK ∧ (after (.lcAdvanceDone v) s).fuses.enrolled = true) ∧
    (let t := after .maintExpiry (vault 3)
     t.fuses.lc = 2 ∧ bit (rd t (H_PEND 0x060)) 2 = true) ∧ after .maintExpiry solo = solo ∧ solo.fuses.lc ≠ 3 := by decide +kernel

theorem witness_KeysAndAttestation_frames : rdB solo KEY_SEC_KEYREQ = false ∧ after .keyreqResend solo = solo ∧
    (let s := wr (train solo) KEY_SEC_KEYREQ 1
     rdB s KEY_SEC_KEYREQ = true ∧ amapByHandle s (rd s DEV_ROLE_HANDLE) = some carTwo) ∧
    (let q : KeyReq := ⟨2, false, 0, 9, true⟩
     let m := setSlot 5 ⟨true, 3, 1, 0xFF, 0, [], zeros 32⟩ managerOne
     after (.keyreqRx q) solo = solo ∧ q.srcOk = true ∧ rdB m DEV_ROLE_SELF = true ∧ (slotAt m 5).valid = true ∧ amapByUid m q.uid = some carTwo) ∧
    (let k : KeyDist := ⟨2, false, 0, 9, true, true, zeros 32⟩
     let s := setSlot 3 ⟨true, 7, 1, 0xFE, 0, [], zeros 32⟩ (train solo)
     let h := wr (setSlot 5 ⟨true, 3, 1, 3, 0, [], zeros 32⟩ s) KEY_TKR 8
     isManager s k.uid k.twin = true ∧ after (.keydistRx { k with srcOk := false }) s = s ∧ rd (after (.keydistRx { k with unwrapped := false }) s) (KEY_CNT 4) = 1 ∧
     (slotAt (after (.keydistRx k) s) 5).key = zeros 32 ∧ rd (after (.keydistRx k) s) KEY_TKR = 9 ∧ rd (after (.keydistRx k) s) (KEY_CNT 3) = 1 ∧
     (slotAt s 5).valid = false ∧ (slotAt s 3).parent = 0xFE ∧
     (slotAt h 5).valid = true ∧ (after (.keydistRx k) h).keys.pendRoot = some (9, zeros 32) ∧ rd (after (.keydistRx k) h) KEY_TKR_PEND = 9 ∧
     (after (.keydistRx k) (wr h KEY_TKR 9)).keys.pendRoot = none) := by decide +kernel

theorem witness_KeysAndAttestation_statement : let d (s : State) : State := ring0 s 0x0D00 (zeros 32 ++ le 1 0xFF)
    taken0 attSignSpec (d solo) = true ∧ status0 (ran .attSign (d solo)) = stKEY_INVALID ∧ rd (ran .attSign (d solo)) ATT_FAILS = 1 ∧
    taken0 attSignSpec (d (vault 2)) = true ∧ status0 (ran .attSign (d (vault 2))) = stACCEPTED ∧ rd (ran .attSign (d (vault 2))) ATT_STAT_SIGNING = 1 ∧
    rd (ran .attSign (d (vault 2))) NODE_ATT_SEQ = 1 ∧
    (let s := d (vault 2)
     let h (gen : Nat) : State := { s with accepted := [acceptedOf attSignSpec (cmd0 s) s], keys := { s.keys with signing := some (5, gen, zeros 768, 0xFF) } }
     (findAccepted (h 0) 0x0D00 .attest).isSome = true ∧ (slotAt (h 0) 2).valid = true ∧ (slotAt (h 0) 2).gen = 0 ∧
     rd (after .attSignDone (h 0)) ATT_SEQ = 5 ∧ rd (after .attSignDone (h 0)) ATT_LEN = 5395 ∧ done0 (after .attSignDone (h 0)) = stOK ∧
     (after .attSignDone (h 1)).keys.statement = none ∧ done0 (after .attSignDone (h 1)) = stKEY_INVALID ∧ rd (after .attSignDone (h 1)) (KEY_CNT 6) = 1) := by
  decide +kernel

/-! ## Recorder and Reserve -/

/-- A node alone that has recorded one occurrence of source 0x42, code 3, with COALESCE of 10 ms. -/
def recorded : State := record (wr solo REC_CTL_COALESCE 10) 0x42 3 [9]

/-- A record. -/
def rec1 : Record := ⟨5, 0, 0x42, 3, 1, 8, payload8 [9], true, false, true, false, 0⟩

/-- s with both banks failed. -/
def failedBanks (s : State) : State := wr (wr s REC_STAT_BANK0_FAIL 1) REC_STAT_BANK1_FAIL 1

/-- s with rec1 at position p as its only buffered record. -/
def buffered (p : Nat) (s : State) : State := { s with rcd := { s.rcd with buffer := [(p, rec1)] } }

/-- s with a full buffer. -/
def fullBuffer (s : State) : State := { s with rcd := { s.rcd with buffer := List.replicate 256 (0, rec1) } }

theorem witness_Recorder_occurrences : Recording solo := ⟨rfl, rfl, by decide +kernel⟩

theorem witness_Recorder_coalescing : coalesces solo 0x42 3 [9] = false ∧ (recorded.rcd.buffer.map (fun x => (x.1, x.2.source, x.2.code)) = [(0, 0x42, 3)]) ∧
    (recorded.rcd.buffer.map (fun x => (x.2.rpt, x.2.cellar, x.2.unsync)) = [(1, true, true)]) ∧ rd recorded REC_SEQ = 1 ∧ rd recorded REC_WPOS = 1 ∧
    coalesces recorded 0x42 3 [9] = true ∧ coalesces recorded 0x42 4 [9] = false ∧
    (let h := after (.recordOccurrence 0x42 3 [9]) recorded
     h.rcd.heldN = 1 ∧ h.rcd.buffer.length = 1 ∧ rd h REC_STAT_OPEN = 1 ∧ bothFailed h = false ∧ h.rcd.last.isSome = true ∧
     ((after .coalesceFlush h).rcd.buffer.map (fun x => (x.1, x.2.rpt)) = [(0, 1), (0, 2)]) ∧ rd (after .coalesceFlush h) REC_STAT_OPEN = 0) ∧
    after .coalesceFlush solo = solo ∧
    (let f := fullBuffer solo
     f.rcd.buffer.length = 256 ∧ bothFailed f = false ∧ (after (.recordOccurrence 0x42 3 []) f).rcd.lost = 1 ∧ rd (after (.recordOccurrence 0x42 3 []) f) (REC_CNT 4) = 1 ∧
     bit (rd (after (.recordOccurrence 0x42 3 []) f) (H_PEND 0x068)) 4 = true) := by decide +kernel

theorem witness_Recorder_writes : let w : BankWrites := ⟨true, true, false, true, true, false⟩
    after (.recordWrite w) solo = solo ∧ rdB solo REC_STAT_BANK0_FAIL = false ∧ rd solo (REC_CNT 3) = 0 ∧
    (let t := after (.recordWrite { w with first1 := false, second1 := true }) (buffered 4 solo)
     t.rcd.buffer = [] ∧ t.rcd.bank0 = [(4, rec1)] ∧ t.rcd.bank1 = [(4, rec1)] ∧ rd t (REC_CNT 3) = 1) ∧
    (let t := after (.recordWrite { w with first0 := false }) (buffered 4 solo)
     t.rcd.bad0 = [4] ∧ t.rcd.bank0 = [] ∧ t.rcd.bank1 = [(4, rec1)] ∧ bit (rd t (H_PEND 0x068)) 2 = true ∧ t.rsv.pend.length = 1) ∧
    (let t := after (.recordWrite { w with answers0 := false }) (buffered 4 solo)
     rd t REC_STAT_BANK0_FAIL = 1 ∧ bit (rd t (H_PEND 0x068)) 0 = true ∧ t.rcd.bank1 = [(4, rec1)]) ∧
    (let b := failedBanks (buffered 4 (paired active))
     bothFailed b = true ∧ tUp b = true ∧ (after (.recordWrite w) b).out = [.overT 0x0477 (recordBytes rec1)] ∧
     tUp (failedBanks (buffered 4 solo)) = false ∧ rd (after (.recordWrite w) (failedBanks (buffered 4 solo))) (REC_CNT 4) = 1) := by decide +kernel

theorem witness_Recorder_partner : let s := paired active
    tUp solo = false ∧ after (.partnerRecordRx rec1) solo = solo ∧ tUp s = true ∧ bothFailed (failedBanks s) = true ∧
    rd (after (.partnerRecordRx rec1) (failedBanks s)) (REC_CNT 4) = 1 ∧ (s.rcd.heldN, s.rcd.lost, bothFailed s) = (0, 0, false) ∧ s.rcd.partnerPos.lookup 8 = none ∧
    (let t := after (.partnerRecordRx rec1) s
     t.rcd.buffer = [(0, { rec1 with partner := true })] ∧ rd t REC_WPOS = 1 ∧ rd t REC_SEQ = 0 ∧ (t.rcd.heldN, t.rcd.lost, bothFailed t) = (0, 0, false) ∧
     t.rcd.partnerPos.lookup 8 = some 0 ∧ (after (.partnerRecordRx { rec1 with rpt := 2 }) t).rcd.buffer.length = 2 ∧
     rd (after (.partnerRecordRx { rec1 with rpt := 2 }) t) REC_WPOS = 1) := by decide +kernel

theorem witness_Recorder_commands : (let d (s : State) : State := ring0 s 0x0E02 (le 2 5 ++ zeros 2 ++ le 4 1)
     taken0 recUserSpec (d solo) = true ∧ status0 (ran .recUser (d solo)) = stOK ∧
     (ran .recUser (d solo)).rcd.buffer.map (fun x => (x.2.source, x.2.code, x.2.user)) = [(0x0300, 5, true)] ∧
     ((d solo).rcd.heldN, (d solo).rcd.lost, bothFailed (d solo)) = (0, 0, false) ∧
     taken0 recUserSpec (d (fullBuffer solo)) = true ∧ status0 (ran .recUser (d (fullBuffer solo))) = stBUSY) ∧
    (let d (s : State) (b h : Nat) : State := ring0 s 0x0E00 (le 4 4 ++ le 1 b ++ le 1 h)
     let k : State := { solo with rcd := { solo.rcd with bank1 := [(4, rec1)] } }
     taken0 recReadSpec (d solo 1 0) = true ∧ everWritten solo 4 = false ∧ status0 (ran .recRead (d solo 1 0)) = stBAD_ARG ∧
     taken0 recReadSpec (d k 1 0) = true ∧ everWritten k 4 = true ∧ (bankOf k 1).lookup 4 = some rec1 ∧ result0 (ran .recRead (d k 1 0)) 12 1 = 1 ∧
     result0 (ran .recRead (d k 1 0)) 16 8 = 5 ∧ result0 (ran .recRead (d (failedBanks k) 1 0)) 12 1 = 2) ∧
    (let d (s : State) (pos : Nat) : State := ring0 { s with claims := [⟨0x303, 0, 0, 0, 0, 0, 0, 0⟩] } 0x0E01 (le 4 pos ++ le 2 1 ++ le 1 3)
     taken0 recExportSpec (d solo 0) = true ∧ status0 (ran .recExport (d solo 0)) = stACCEPTED ∧
     (let h (pos : Nat) : State := { d solo pos with accepted := [acceptedOf recExportSpec (cmd0 (d solo pos)) solo], rcd := { solo.rcd with bank1 := [(4, rec1)] } }
      (findAccepted (h 0) 0x0E01 .recExport).isSome = true ∧ everWritten (h 0) 0 = false ∧ rd (h 0) REC_WPOS = 0 ∧ done0 (after .recExportDone (h 0)) = stOK ∧
      exportCopy (h 4) 4 = some rec1 ∧ leAt (bar2Read (after .recExportDone (h 4)) (hqBase 3) 64) 0 8 = 5)) := by decide +kernel

/-- A repair of frame engine 2. -/
def engineTwo : Repair := ⟨0, 2, 2, 0, 0x20, false⟩

theorem witness_Reserve_schedule : let d (s : State) : State := ring0 s 0x0F02 (le 1 0 ++ le 1 2)
    taken0 rsvScheduleSpec (d solo) = true ∧ scheduleElements (d solo) 0 2 = [engineTwo] ∧ isExhausted (d solo) engineTwo = false ∧
    status0 (ran .rsvSchedule (d solo)) = stACCEPTED ∧ (ran .rsvSchedule (d solo)).rsv.pend = [engineTwo] ∧ rd (ran .rsvSchedule (d solo)) RSV_STAT_PENDING = 1 ∧
    (let j : State := { solo with rsv := { solo.rsv with pend := [engineTwo] } }
     j.rsv.pend.any (sameElement engineTwo) = true ∧ status0 (ran .rsvSchedule (d j)) = stACCEPTED ∧ (ran .rsvSchedule (d j)).rsv.pend.length = 1) ∧
    (let f : State := { solo with rsv := { solo.rsv with pend := List.replicate 32 { engineTwo with kind := 3 } } }
     f.rsv.pend.any (sameElement engineTwo) = false ∧ taken0 rsvScheduleSpec (d f) = true ∧ status0 (ran .rsvSchedule (d f)) = stBUSY) := by decide +kernel

/-- A ledger in which both engine spares are used. -/
def usedEngines : List LedgerEntry := [⟨0, 4, 4, 0, 1, 0, 0, 7, none⟩, ⟨0, 5, 5, 0, 1, 0, 1, 8, none⟩]

theorem witness_Reserve_wear : let w : WearSample := ⟨2, 0, 2, 2, 500, false, false⟩
    (rd (after (.wearSample w) solo) (RSV_WEAR_VALUE 2) = 500 ∧ rd (after (.wearSample w) solo) (RSV_WEAR_ELEMENT 2) = 2) ∧
    (let t := after (.wearSample { w with watch := true }) solo
     bit (rd t (H_PEND 0x070)) 2 = true ∧ rd t (RSV_CNT 2) = 1 ∧ t.rsv.watched = [(0, 2, 2)] ∧ t.rsv.pend = []) ∧
    (after (.wearSample { w with permille := 1000 }) solo).rsv.pend = [⟨0, 2, 2, 0, 3, false⟩] ∧ isExhausted solo ⟨0, 2, 2, 0, 3, false⟩ = false ∧
    (let x : State := { solo with fuses := { solo.fuses with ledger := usedEngines } }
     let t := after (.wearSample { w with permille := 1000 }) x
     isExhausted x ⟨0, 2, 2, 0, 3, false⟩ = true ∧ t.rsv.pend = [] ∧ bit (rd t (H_PEND 0x070)) 3 = true ∧ rd t RSV_STAT_EXHAUSTED = 1) := by decide +kernel

theorem witness_Reserve_safePoint : let p (r : Repair) : State := { paired shadow with rsv := { shadow.rsv with pend := [r] } }
    after (.reserveSafePoint true []) solo = solo ∧ role solo ≠ 1 ∧ rd solo SLEEP_STAT_PHASE = 0 ∧ role (p engineTwo) = 1 ∧
    allowedAt (p { engineTwo with kind := 2 }) true { engineTwo with kind := 2 } = false ∧
    (after (.reserveSafePoint true []) (p { engineTwo with kind := 2 })).rsv.pend.length = 1 ∧
    allowedAt (p engineTwo) true engineTwo = true ∧ isExhausted (p engineTwo) engineTwo = false ∧
    (let t := after (.reserveSafePoint true []) (p engineTwo)
     t.rsv.pend = [] ∧ t.fuses.ledger = [⟨0, 2, 2, 0, 0x20, 0, 0, 0, none⟩] ∧ rd t (RSV_CNT 0) = 1) ∧
    (let t := after (.reserveSafePoint true [false, true]) (p engineTwo)
     t.rsv.pend = [] ∧ t.fuses.ledger.map (fun e => e.void) = [some 0, none] ∧ rd t (RSV_CNT 1) = 1) := by decide +kernel

/-! ## The queue, the tick, reset, and what every step keeps -/

/-- What RoleRefusals asks of a command of row k at the head of host ring 0, but for its kind and the role. -/
def offered0 (k : CmdSpec) (s : State) : Bool :=
  decide (s.phase = .running ∧ headCmd s take0.path = some (cmd0 s) ∧ readyCmd s (cmd0 s) = true ∧ firstChecks take0 (cmd0 s) = none ∧ (cmd0 s).opcode = k.opcode ∧
    commandPermitted s (cmd0 s) k = true)

theorem witness_RoleRefusals : let f (s : State) : State := ring0 s 0x0400 []
    offered0 fdbSetSpec (f fenced) = true ∧ fdbSetSpec.kind = .shared ∧ isFenced (f fenced) = true ∧ status0 (ran .fdbSet (f fenced)) = stFENCED ∧
    offered0 fdbSetSpec (f shadow) = true ∧ role (f shadow) = 1 ∧ status0 (ran .fdbSet (f shadow)) = stWRONG_STATE ∧
    (let n (s : State) : State := ring0 s 0x0100 []
     offered0 nopSpec (n fenced) = true ∧ nopSpec.kind = .rd ∧ reservedZero (cmd0 (n fenced)).desc (nopSpec.used (cmd0 (n fenced))) = true ∧ (cmd0 (n fenced)).flags / 4 = 0 ∧
     nopSpec.argOk (n fenced) (cmd0 (n fenced)) = true ∧ nopSpec.async = false ∧ status0 (ran .nop (n fenced)) = stOK ∧ status0 (ran .nop (n shadow)) = stOK) := by
  decide +kernel

theorem witness_LockedReadUnsupported : solo.phase = .running ∧ (after .lockedRead solo).out = [.pcie 1 0] := by decide +kernel

theorem witness_StepRunsFrontCommand : step { solo with pending := [.lockedRead, .tcfgSend] } = .next (emit { solo with pending := [.tcfgSend] } (.pcie 1 0)) := rfl

/-- The state after a step. -/
def stepped (s : State) : State := match step s with | .next t => t | _ => s

theorem witness_EmptyQueueTick : solo.pending = [] ∧ rd (stepped solo) (MBUS_TS 2) = 80 ∧ rd (stepped (wr solo (NODE_BALL_WAIT 1) 3)) (NODE_BALL_WAIT 1) = 2 ∧
    (stepped (wr solo NODE_HOUR_US 3599999999)).store.hours = 1 ∧ stepped State.reset = State.reset ∧ ¬ (State.reset.phase = .running ∨ State.reset.phase = .halted) ∧
    (stepped { solo with time := { solo.time with acc := 0, incr := 4 * 2 ^ 40 } }).time.ns = solo.time.ns + 1000 := by decide +kernel

theorem witness_StepKeepsInvariant : (Memory.wf (bar2Write solo 64 [1, 2]).bar2 = true ∧ (bar2Write solo 64 [1, 2]).fuses.lc ≤ 4) ∧
    stepped { bar2Write solo 64 [1, 2] with pending := [.lockedRead] } = emit (bar2Write solo 64 [1, 2]) (.pcie 1 0) := by decide +kernel

/-! ## Well-formedness: each check of WellFormed refuses a term -/

theorem wf_access : wellFormed (.registerWrite ⟨.host, 0x050, 0x060, 4, true, 2 ^ 32⟩) = false ∧ wellFormed (.registerWrite ⟨.host, 0x050, 0x060, 4, true, 7000⟩) = true ∧
    wellFormed (.registerReadLatch ⟨.host, 0x050, 0x060, 4097⟩) = false ∧ wellFormed (.atomicOp ⟨.swap, 2, .bar2 0, 0, 0, 0, 0⟩) = false ∧
    wellFormed (.atomicOp ⟨.swap, 4, .bar2 0, 7, 0, 0, 0⟩) = true ∧ wellFormed (.bar2Write 0 []) = false ∧ wellFormed (.bar2Write 0 [1]) = true ∧
    wellFormed (.remoteWriteRx (fromTwo 1 0 0 3 4 (List.replicate 65 0))) = false ∧ wellFormed (.remoteWriteRx (fromTwo 1 0 0 3 4 [7])) = true ∧
    wellFormed (.remoteRetransmit (2 ^ 32)) = false := by decide +kernel

theorem wf_boot_and_image : wellFormed (.cfgImageLoadDone 0 ⟨true, true, { image with locks := [4096] }⟩) = false ∧
    wellFormed (.cfgImageLoadDone 0 ⟨true, true, { image with tcfg := some { tcfgOf 7 with churnSalt := [] } }⟩) = false ∧
    wellFormed (.cfgImageLoadDone 0 ⟨true, true, { image with tcfg := some (tcfgOf 7) }⟩) = true ∧
    wellFormed (.boot { goodBoot with partner := some ⟨true, some 0, true, 1, 5, some { image with writes := [(4096, 0, 0)] }⟩ }) = false ∧
    wellFormed (.boot goodBoot) = true := by decide +kernel

theorem wf_frames : wellFormed (.frameRx 5 (frameOf 0 16384 true .whole)) = false ∧ wellFormed (.frameRx 5 (frameOf 0 60 true .whole)) = true ∧
    wellFormed (.callRx 0 (hdr 0) 3) = false ∧ wellFormed (.callRx 0 (hdr 3) 3) = true ∧ wellFormed (.surveyRx 0 (hdr 1) ⟨LeadCmd.none, false, []⟩) = false ∧
    wellFormed (.partnerListRx ⟨LeadCmd.none, false, List.replicate 65 entryTwo⟩) = false ∧ wellFormed (.agreeRx (some 0) (hdr 1) ⟨zeros 16, true, true, { curdTwo with cars := [] }⟩) = false ∧
    wellFormed (.agreeRx (some 0) (hdr 1) ⟨zeros 15, true, true, curdTwo⟩) = false ∧ wellFormed (.agreeRx (some 0) (hdr 1) ⟨zeros 16, true, true, curdTwo⟩) = true ∧
    wellFormed (.commitRx (some 0) (hdr 1) ⟨zeros 16, 2 ^ 32, 0, 0, true, false, 0⟩) = false ∧ wellFormed (.ttdpCommit ⟨[], 0⟩) = false ∧
    wellFormed (.tcfgRx (tcfgSeg 7 1 1 200 [1]) true) = false ∧ wellFormed (.tcfgRx (tcfgSeg 7 0 1 200 [1]) true) = true ∧
    wellFormed (.workerHelloRx (hello 5 65)) = false ∧ wellFormed (.workerAckRx (ack 64)) = false ∧ wellFormed (.telegramRx 0 { tele 1 with datasetLen := 2 ^ 32 }) = false ∧
    wellFormed (.canFrameRx 0 { canOf 5 with data := zeros 9 }) = false ∧ wellFormed (.canFrameRx 0 (canOf 5)) = true := by decide +kernel

theorem wf_others : wellFormed (.adcSample (conversion 9 true 1)) = false ∧ wellFormed (.adcSample ⟨List.replicate 16 0, 0, true, 1⟩) = true ∧
    wellFormed (.budgetUpdate (losses 1 2 3)) = false ∧ wellFormed (.budgetUpdate ⟨List.replicate 16 0, List.replicate 4 256⟩) = false ∧
    wellFormed (.journalBlockRx (blockOf 5 1 none [⟨0, .links 3, true⟩])) = false ∧ wellFormed (.journalBlockRx (blockOf 5 1 none [⟨4, .command ⟨zeros 63⟩, true⟩])) = false ∧
    wellFormed (.journalBlockRx (blockOf 5 1 none [⟨4, .command ⟨zeros 64⟩, true⟩])) = true ∧ wellFormed (.keydistRx ⟨2, false, 0, 9, true, true, []⟩) = false ∧
    wellFormed (.partnerRecordRx { rec1 with payload := [] }) = false ∧ wellFormed (.partnerRecordRx rec1) = true ∧
    wellFormed (.wearSample ⟨2, 0, 2, 2, 65536, false, false⟩) = false ∧ wellFormed (.recordOccurrence 0 0 (List.replicate 9 0)) = false ∧
    wellFormed (.rejoinTickJ (some { snap5 with mem := [(2, 1), (1, 1)] })) = false ∧ wellFormed (.rejoinTickJ (some { snap5 with mem := [(1, 1), (2, 1)] })) = true ∧
    wellFormed (.reserveSafePoint true (List.replicate 17 true)) = false := by decide +kernel

end Sys2Proof.Tests
end

section
/-! The role check of R139 (which role each kind of command is refused in, and that it stands before the checks of the arguments) and the locked read of R129. -/

namespace Sys2Proof.Machine

/-! ## The role check (R139) -/

theorem role_ne_one_of_isFenced {s : State} (h : isFenced s = true) : role s ≠ 1 := by
  have h34 : role s = 3 ∨ role s = 4 := of_decide_eq_true h
  omega

theorem roleStatus_shared_of_fenced {s : State} {k : CmdSpec} (hk : k.kind = .shared) (h : isFenced s = true) : roleStatus s k = some stFENCED := by
  simp [roleStatus, hk, h, role_ne_one_of_isFenced h]

theorem roleStatus_shared_of_shadow {s : State} {k : CmdSpec} (hk : k.kind = .shared) (h : role s = 1) : roleStatus s k = some stWRONG_STATE := by
  simp [roleStatus, hk, h]

/-- The role check holds back only commands that change the car's shared state. -/
theorem roleStatus_eq_none_of_not_shared {s : State} {k : CmdSpec} (hk : k.kind ≠ .shared) : roleStatus s k = none := if_neg hk

/-- On a running node only the protection map stands before the role check: no argument of the command can change its verdict. -/
theorem laterChecks_of_roleStatus {k : CmdSpec} {c : Cmd} {s : State} {st : Nat} (hp : s.phase = .running) (hm : commandPermitted s c k = true)
    (hr : roleStatus s k = some st) : laterChecks k c s = some st := by
  simp [laterChecks, hp, hm, hr]

/-- A permitted synchronous command without bulk data that is refused for neither its role, its arguments, a lock nor its object passes every check. -/
theorem laterChecks_eq_none_of_sync {k : CmdSpec} {c : Cmd} {s : State} (hp : s.phase = .running) (hm : commandPermitted s c k = true)
    (hr : roleStatus s k = none) (hz : reservedZero c.desc (k.used c) = true) (hf : c.flags / 4 = 0) (ha : k.argOk s c = true)
    (hl : (k.pages s c).any (pageLocked s) = false) (ho : objectBusy s (k.obj s c) = false) (hs : k.async = false) (hb : k.bulk c = none) :
    laterChecks k c s = none := by
  simp [laterChecks, hp, hm, hr, hz, hf, ha, hl, ho, hs, hb]

/-- A command that the role check refuses is answered with its status and leaves its path; none of its effect happens. -/
theorem answers_of_roleStatus {i : Instr} {k : CmdSpec} {t : Take} {s : State} {c : Cmd} {st : Nat} (hi : specOf i = some (k, t))
    (hp : s.phase = .running) (hh : headCmd s t.path = some c) (hy : readyCmd s c = true) (hf : firstChecks t c = none) (ho : c.opcode = k.opcode)
    (hm : commandPermitted s c k = true) (hr : roleStatus s k = some st) : Answers i s c st [] (fun u => u = popCmd t.path s) :=
  ⟨_, exec_laterCheck hi (.inl hp) hh hy hf ho (laterChecks_of_roleStatus hp hm hr), rfl⟩

/-- Settles O55: a command of kind shared is stopped by the role check, which stands before every check of its arguments; one that only reads passes it. -/
theorem roleRefusals : Obligations.RoleRefusals := by
  intro i k t s c hi hp hh hy hf ho hm
  refine ⟨fun hk hfen => ?fenced, fun hk hrole => ?shadow, fun hk _ hz hfl ha hl hobj hsync hbulk => ?reads⟩
  case fenced => exact answers_of_roleStatus hi hp hh hy hf ho hm (roleStatus_shared_of_fenced hk hfen)
  case shadow => exact answers_of_roleStatus hi hp hh hy hf ho hm (roleStatus_shared_of_shadow hk hrole)
  case reads =>
    have hr : roleStatus s k = none := roleStatus_eq_none_of_not_shared (by simp [hk])
    exact ⟨.inl hp, hh, hy, hf, ho, laterChecks_eq_none_of_sync hp hm hr hz hfl ha hl hobj hsync hbulk⟩

/-! ## The locked read (R129) -/

theorem exec_lockedRead_of_serving {s : State} (h : s.phase = .running ∨ s.phase = .halted) : exec .lockedRead s = .next (emit s (.pcie 1 0)) :=
  congrArg Host.Outcome.next (if_pos h)

/-- Settles O54: a node that serves its bridge puts out the answer Unsupported Request and keeps the rest of its state. -/
theorem lockedReadUnsupported : Obligations.LockedReadUnsupported :=
  fun s h => ⟨emit s (.pcie 1 0), exec_lockedRead_of_serving h, rfl⟩

end Sys2Proof.Machine
end
